-- ==== Sys2Proof/Word.lean ====
section
/-! DEFINITION. Words, tints, tagged values and the sparse-map type that every later file uses. -/

namespace Sys2Proof

/-- A byte (R8, R9). -/
abbrev Byte := BitVec 8
/-- A 32-bit register or memory word (R11). -/
abbrev Word := BitVec 32
/-- A 64-bit word, the unit that carries one tint in DMEM and CMEM (R259). -/
abbrev DWord := BitVec 64
/-- A 128-bit quadword (R149). -/
abbrev Quad := BitVec 128
/-- An 80-bit accumulator value (R176). -/
abbrev AccW := BitVec 80

/-- The tag pair {K, R} of a storage unit (R25, R259). -/
structure Tint where
  k : Bool
  r : Bool
  deriving DecidableEq, Repr

/-- The untinted pair {0, 0}. -/
def Tint.clean : Tint := ⟨false, false⟩
/-- The pair {1, 1} that an uncorrectable read carries (R260). -/
def Tint.both : Tint := ⟨true, true⟩
/-- The tint {1, 0}. -/
def Tint.onlyK : Tint := ⟨true, false⟩
/-- The tint {0, 1}. -/
def Tint.onlyR : Tint := ⟨false, true⟩
/-- The bitwise OR of two tag pairs (R20). -/
def Tint.or (x y : Tint) : Tint := ⟨x.k || y.k, x.r || y.r⟩

/-- A value together with the tint of the unit that holds it. -/
structure Tagged (α : Type) where
  v : α
  t : Tint
  deriving DecidableEq, Repr

/-- A sparse map from addresses or unit numbers: keys strictly rising, no entry equal to the map's default. -/
abbrev SMap (α : Type) := List (Nat × α)

/-- A bit field [hi:lo] of a 32-bit register (R7). -/
structure Fld where
  hi : Nat
  lo : Nat
  deriving DecidableEq, Repr

/-- How many bits a field has. -/
def Fld.width (f : Fld) : Nat := f.hi + 1 - f.lo

/-- The field's bits set in a 32-bit word. -/
def Fld.mask (f : Fld) : Word := BitVec.ofNat 32 ((2 ^ f.width - 1) * 2 ^ f.lo)

/-- The value a field holds in a word. -/
def Word.fld (w : Word) (f : Fld) : Nat := (w.toNat / 2 ^ f.lo) % 2 ^ f.width

/-- The word with a field replaced by the low bits of `n`. -/
def Word.setFld (w : Word) (f : Fld) (n : Nat) : Word :=
  (w &&& ~~~ f.mask) ||| BitVec.ofNat 32 ((n % 2 ^ f.width) * 2 ^ f.lo)

/-- 1 for true, 0 for false. -/
def b2n (b : Bool) : Nat := if b then 1 else 0

end Sys2Proof
end

