-- ==== Sys2Proof/Syntax/Operand.lean ====
section
/-! DEFINITION. The types of the commands' operands: unit numbers, principals, and one decoded core operation. -/

namespace Sys2Proof

/-- A global core number 8c + n (R10). -/
abbrev CoreId := Fin 96
/-- A cluster number (R10). -/
abbrev ClId := Fin 12
/-- A port or lane number of one side (R41). -/
abbrev PortId := Fin 16
/-- A SerDes quad of one side. -/
abbrev QuadId := Fin 4
/-- A 6-bit register number or gate. -/
abbrev R6 := BitVec 6
/-- A 5-bit register number. -/
abbrev R5 := BitVec 5
/-- A 4-bit register, slot, channel or node number. -/
abbrev R4 := BitVec 4
/-- A 3-bit register, bank or core-in-cluster number. -/
abbrev R3 := BitVec 3

/-- The red or black side of the device. -/
inductive Side where
  | red | blk
  deriving DecidableEq, Repr

/-- The two directions of a cluster link. -/
inductive LinkDir where
  | inb | outb
  deriving DecidableEq, Repr

/-- A ring port: east or west. -/
inductive RPort where
  | east | west
  deriving DecidableEq, Repr

/-- What the SECDED corrector finds in a read: nothing, a corrected error, an uncorrectable one (R342, R343). -/
inductive Ecc where
  | ok | ce | ue
  deriving DecidableEq, Repr

/-- Who makes a register or memory access (R395, R558). -/
inductive Prin where
  | core (g : CoreId) | warden | host | lens | smbus
  deriving DecidableEq, Repr

/-- The ten slots of a bundle (R148). -/
inductive Slot where
  | s0 | s1 | l0 | l1 | m0 | m1 | v0 | v1 | v2 | v3
  deriving DecidableEq, Repr

/-- An interrupt source: of a core's private bank, of a cluster's shared bank, or of the device controller (R315, R332). -/
inductive EvSrc where
  | priv (g : CoreId) (i : Fin 32)
  | shared (c : ClId) (i : BitVec 8)
  | dev (i : BitVec 8)
  deriving DecidableEq, Repr

/-- A filtered input (R317, R494). -/
inductive PinId where
  | evtIn (k : R3) | tamper (k : BitVec 2) | por | warm | perst
  deriving DecidableEq, Repr

/-- Why a link falls: loss of lock or alignment, hi_ber, or Remote Fault received (R55, R57, R64). -/
inductive DownCause where
  | lock | hiBer | remote
  deriving DecidableEq, Repr

/-- The causes of a quad fault (R68). -/
inductive QuadCode where
  | pll | cal | parity
  deriving DecidableEq, Repr

/-- A CMEM beat presented by a requester other than the cores (R350). -/
structure Beat where
  /-- requester number 8–11 -/
  r : Fin 4
  bank : R5
  /-- a write of part of a 64-bit word, which takes its bank for two FCLK (R349) -/
  partWr : Bool
  deriving DecidableEq, Repr

/-- The header fields of a flit that its receiver acts on (R500). -/
structure FlitHdr where
  dl : Bool
  dest : BitVec 8
  src : BitVec 8
  seq : BitVec 12
  ack : BitVec 12
  nack : Bool
  crSel : BitVec 2
  credit : BitVec 8
  deriving DecidableEq, Repr

/-- Why a receiver does not accept a flit (R503). -/
inductive FlitErr where
  | crc | seq | tag
  deriving DecidableEq, Repr

/-- The content of an ADVERT (R511). -/
structure Advert where
  node : BitVec 8
  offer : Bool
  nbLat : BitVec 16
  stE : BitVec 3
  stW : BitVec 3
  wrapE : Bool
  wrapW : Bool
  deriving DecidableEq, Repr

/-- The header of a SPILL or SPILL_RESULT message (R514). -/
structure SpillHdr where
  dir : Bool
  sa : BitVec 12
  key : Bool
  an : BitVec 2
  cls : BitVec 6
  result : BitVec 8
  ftag : Word
  len : BitVec 16
  outLen : BitVec 16
  pn : BitVec 64
  origin : BitVec 8
  deriving DecidableEq, Repr

/-- The content of a REPL message (R518, R519): the key's wrapped plaintext is absent from a message that carries only a
lease or a next PN. -/
structure ReplMsg where
  sa : BitVec 12
  seq : Word
  resync : Bool
  key : Bool
  an : BitVec 2
  kv : Bool
  active : Bool
  limit : BitVec 64
  pn : BitVec 64
  wrapped : Option (List Byte)
  deriving DecidableEq, Repr

/-- What a ring message carries (R501). -/
inductive RBody where
  | idle
  | hello (east : Bool) (ringId : BitVec 16) (node : BitVec 8)
  | handshake (step : BitVec 2) (parts : List (List Byte))
  | heartbeat
  | advert (a : Advert)
  | loss (y : BitVec 8)
  | spill (h : SpillHdr) (bytes : List Byte) (rmask : List Bool)
  | result (h : SpillHdr) (bytes : List Byte) (rmask : List Bool)
  | repl (m : ReplMsg)
  | replAck (sa : BitVec 12) (seq : Word)
  deriving DecidableEq, Repr

/-- The addressing mode of a memory operation (R166, R174). A MODE 0 operand is the byte offset after scaling (R167). -/
inductive AMode where
  | base (off : Word)
  | post (o : R4)
  | circ (o m : R4)
  | brev (o m : R4)
  deriving DecidableEq, Repr

/-- A memory operand: address register and mode. -/
structure MemOp where
  ab : R4
  mode : AMode
  deriving DecidableEq, Repr

/-- Format VR (R216). -/
structure VR where
  vd : R5
  va : R5
  vb : R5
  long : Bool
  ew : BitVec 2
  pg : BitVec 2
  deriving DecidableEq, Repr

/-- Format VG (R216). -/
structure VG where
  vd : R5
  gs : R6
  long : Bool
  ew : BitVec 2
  pg : BitVec 2
  deriving DecidableEq, Repr

/-- Format VS (R216). -/
structure VS where
  vd : R5
  va : R5
  sh : R6
  long : Bool
  ew : BitVec 2
  deriving DecidableEq, Repr

/-- Format VM of VLDS and VSTS (R216). -/
structure VM where
  vr : R5
  ab : R4
  os : R4
  long : Bool
  ew : BitVec 2
  pg : BitVec 2
  deriving DecidableEq, Repr

/-- The two-operand scalar functions of R169. -/
inductive AluF where
  | add | sub | and | or | xor | andn | shl | shr | sra | rotr | min | max | minu | maxu
  deriving DecidableEq, Repr

/-- The scalar comparisons of R169. -/
inductive CmpF where
  | eq | ne | lt | ltu | le | leu
  deriving DecidableEq, Repr

/-- The immediate functions of R169. -/
inductive ImmF where
  | add | and | or | xor | cmpeq | cmplt | cmpltu
  deriving DecidableEq, Repr

/-- The immediate shifts of R169. -/
inductive ShF where
  | shl | shr | sra | rotr
  deriving DecidableEq, Repr

/-- Divide and remainder (R170). -/
inductive DivF where
  | div | divu | rem | remu
  deriving DecidableEq, Repr

/-- The conditional branches of R187. -/
inductive BcF where
  | bz | bnz | bltz | bgez | bpa | bpn
  deriving DecidableEq, Repr

/-- The loads of R171. -/
inductive LdF where
  | b | bu | h | hu | w | d | q
  deriving DecidableEq, Repr

/-- The stores of R171. -/
inductive StF where
  | b | h | w | d | q
  deriving DecidableEq, Repr

/-- The 16-bit multiply-accumulate operations (R179, R180). -/
inductive MacF where
  | mac | msu | macm
  deriving DecidableEq, Repr

/-- The VR-format element-wise and permute operations (R219, R222). -/
inductive VF where
  | add | sub | and | or | xor | andn | min | max | minu | maxu | shl | shr | sra | rotr | sel | mov
  | cmpeq | cmplt | cmpltu | cmple | cmpleu
  | mul | mulh | mulhu | mulw | mulwu | macw | macwu | dot4b | dot4h | mmad | bfly
  | shuf | zipl | ziph | uzpe | uzpo | ext | clmul
  deriving DecidableEq, Repr

/-- One operation of a bundle, decoded. -/
inductive Op where
  | nop
  | alu (f : AluF) (d a b : R6)
  | sel (d a b : R6)
  | cmp (f : CmpF) (toP : Bool) (d a b : R6)
  | ext (m : BitVec 2) (d a : R6)
  | clz (d a : R6)
  | popc (d a : R6)
  | alui (f : ImmF) (d a : R6) (imm : Word)
  | shi (f : ShF) (d a : R6) (sh : BitVec 5)
  | mfc (d c : R6)
  | mtc (c a : R6)
  | div (f : DivF) (d a b : R6)
  | br (disp : BitVec 18)
  | call (disp : BitVec 18)
  | bc (f : BcF) (annul hint : Bool) (src : R6) (disp : BitVec 12)
  | jr (src link : R6)
  | loop (lv : BitVec 2) (src : R6) (disp : BitVec 12)
  | loopi (lv : BitVec 2) (cnt : BitVec 6) (disp : BitVec 12)
  | lclr (mask : R3)
  | pflush
  | pbar (on : Bool)
  | syscall (code : BitVec 16)
  | kcall (region : BitVec 2) (gate : R6)
  | retx
  | declass (d a : R6)
  | rclr (d a : R6)
  | sleep (depth : BitVec 2)
  | ld (f : LdF) (rd : R6) (m : MemOp)
  | st (f : StF) (rd : R6) (m : MemOp)
  | lea (rd ab : R4) (off : Word)
  | amod (m : MemOp)
  | movta (d a : R6)
  | movfa (d a : R6)
  | vlds (o : VM)
  | vsts (o : VM)
  | kload (ks : R4) (gs : R6)
  | kzero (ks : R4)
  | kexport (qa : R5) (gh : R6)
  | mul (d a b : R6)
  | mac (f : MacF) (acc : R3) (a b : R6) (md : R3)
  | mfa (d : R6) (acc : R3) (rnd sat : Bool) (sh : BitVec 8)
  | mta (acc : R3) (a : R6) (field : BitVec 2)
  | accadd (acc src : R3) (neg : Bool)
  | mulw16 (uns : Bool) (d a b : R6)
  | mulw32 (uns : Bool) (d a b : R6)
  | macw (uns : Bool) (acc : R3) (a b : R6)
  | dot4b (ua ub : Bool) (d a b : R6)
  | dot4h (uns : Bool) (acc : R3) (a b : R6)
  | mmad (mont noadd : Bool) (d a b : R6)
  | vop (f : VF) (o : VR)
  | vshi (f : ShF) (o : VS)
  | vdupg (o : VG)
  | vctrInit (va : R5) (ks : R4) (src : Bool) (fsel : R3)
  | vctrData (vd va vm : R5) (ks : R4)
  | vecb (vd va : R5) (ks : R4)
  | vghash (va : R5) (ks : R4)
  | vtag (vd va : R5) (ks : R4)
  | vtagchk (pd : R3) (va vb : R5) (ks : R4)
  | vdeclass (vd va : R5) (long : Bool)
  | vrclr (vd va : R5) (long : Bool)
  deriving DecidableEq, Repr

end Sys2Proof
end

