-- ==== Sys2Proof/Syntax.lean ====
section
/-! DEFINITION. The commands of the block, one constructor per row of the table of operations and events. -/

namespace Sys2Proof

/-- The commands of the block: one constructor per row of the table of operations and events. -/
inductive Instr where
  /-- BUNDLE_ISSUE (R141): A bundle reaches IS and all of its operations issue together, reading every operand before any result of the bundle is written. -/
  | bundleIssue (g : CoreId) (fetch data : Ecc)
  /-- RESULT_COMMIT (R157): A fixed-latency result enters its register at issue plus L, counted in issue cycles. -/
  | resultCommit (g : CoreId) (ecc : Ecc)
  /-- FAR_ACCESS_COMPLETE (R161): A far load or store completes, and the loaded data commits with its memory tint. -/
  | farAccessComplete (g : CoreId) (ecc : Ecc)
  /-- FAR_ACCESS_TIMEOUT (R297): A register window gives no answer within 8,000 CCLK, so the load commits 0 and cause 15 is raised. -/
  | farAccessTimeout (g : CoreId)
  /-- INTERRUPT_ACCEPT (R320): A core accepts the presented source at a boundary, pushes it on its stack and enters its vector, or ID 255. -/
  | interruptAccept (g : CoreId)
  /-- KEEPER_TIME_LIMIT (R296): The Keeper time counter exceeds KEEPER_LIMIT, and a Keeper abort is taken at the next boundary. -/
  | keeperTimeLimit (g : CoreId)
  /-- LENS_HALT (R299): A Lens halt request is accepted at a boundary as cause 16. -/
  | lensHalt (g : CoreId)
  /-- NOP (R143): A no-operation issues in its slot. -/
  | nop (g : CoreId) (sl : Slot)
  /-- ADD (R169): Scalar add modulo 2^32. -/
  | add (g : CoreId) (sl : Slot) (d a b : R6)
  /-- SUB (R169): Scalar subtract modulo 2^32. -/
  | sub (g : CoreId) (sl : Slot) (d a b : R6)
  /-- AND (R169): Scalar bitwise and. -/
  | and (g : CoreId) (sl : Slot) (d a b : R6)
  /-- OR (R169): Scalar bitwise or. -/
  | or (g : CoreId) (sl : Slot) (d a b : R6)
  /-- XOR (R169): Scalar bitwise exclusive or. -/
  | xor (g : CoreId) (sl : Slot) (d a b : R6)
  /-- ANDN (R169): Scalar and with the complement of the second operand. -/
  | andn (g : CoreId) (sl : Slot) (d a b : R6)
  /-- SHL (R169): Scalar left shift by a register amount. -/
  | shl (g : CoreId) (sl : Slot) (d a b : R6)
  /-- SHR (R169): Scalar logical right shift by a register amount. -/
  | shr (g : CoreId) (sl : Slot) (d a b : R6)
  /-- SRA (R169): Scalar arithmetic right shift by a register amount. -/
  | sra (g : CoreId) (sl : Slot) (d a b : R6)
  /-- ROTR (R169): Scalar rotate right by a register amount. -/
  | rotr (g : CoreId) (sl : Slot) (d a b : R6)
  /-- MIN (R169): Scalar signed minimum. -/
  | min (g : CoreId) (sl : Slot) (d a b : R6)
  /-- MAX (R169): Scalar signed maximum. -/
  | max (g : CoreId) (sl : Slot) (d a b : R6)
  /-- MINU (R169): Scalar unsigned minimum. -/
  | minu (g : CoreId) (sl : Slot) (d a b : R6)
  /-- MAXU (R169): Scalar unsigned maximum. -/
  | maxu (g : CoreId) (sl : Slot) (d a b : R6)
  /-- SEL (R169): Selects one of two registers on the destination as condition. -/
  | sel (g : CoreId) (sl : Slot) (d a b : R6)
  /-- CMPEQ (R169): Compares for equality into a g register or a predicate. -/
  | cmpeq (g : CoreId) (sl : Slot) (toP : Bool) (d a b : R6)
  /-- CMPNE (R169): Compares for inequality into a g register or a predicate. -/
  | cmpne (g : CoreId) (sl : Slot) (toP : Bool) (d a b : R6)
  /-- CMPLT (R169): Signed less-than compare. -/
  | cmplt (g : CoreId) (sl : Slot) (toP : Bool) (d a b : R6)
  /-- CMPLTU (R169): Unsigned less-than compare. -/
  | cmpltu (g : CoreId) (sl : Slot) (toP : Bool) (d a b : R6)
  /-- CMPLE (R169): Signed less-or-equal compare. -/
  | cmple (g : CoreId) (sl : Slot) (toP : Bool) (d a b : R6)
  /-- CMPLEU (R169): Unsigned less-or-equal compare. -/
  | cmpleu (g : CoreId) (sl : Slot) (toP : Bool) (d a b : R6)
  /-- EXT (R169): Sign- or zero-extends a byte or halfword. -/
  | ext (g : CoreId) (sl : Slot) (m : BitVec 2) (d a : R6)
  /-- CLZ (R169): Counts leading zeros. -/
  | clz (g : CoreId) (sl : Slot) (d a : R6)
  /-- POPC (R169): Counts one bits. -/
  | popc (g : CoreId) (sl : Slot) (d a : R6)
  /-- ADDI (R169): Adds a sign-extended immediate. -/
  | addi (g : CoreId) (sl : Slot) (d a : R6) (imm : Word)
  /-- ANDI (R169): Ands a zero-extended immediate. -/
  | andi (g : CoreId) (sl : Slot) (d a : R6) (imm : Word)
  /-- ORI (R169): Ors a zero-extended immediate. -/
  | ori (g : CoreId) (sl : Slot) (d a : R6) (imm : Word)
  /-- XORI (R169): Exclusive-ors a zero-extended immediate. -/
  | xori (g : CoreId) (sl : Slot) (d a : R6) (imm : Word)
  /-- SHLI (R169): Left shift by an immediate. -/
  | shli (g : CoreId) (sl : Slot) (d a : R6) (sh : BitVec 5)
  /-- SHRI (R169): Logical right shift by an immediate. -/
  | shri (g : CoreId) (sl : Slot) (d a : R6) (sh : BitVec 5)
  /-- SRAI (R169): Arithmetic right shift by an immediate. -/
  | srai (g : CoreId) (sl : Slot) (d a : R6) (sh : BitVec 5)
  /-- CMPEQI (R169): Equality compare with a sign-extended immediate. -/
  | cmpeqi (g : CoreId) (sl : Slot) (d a : R6) (imm : Word)
  /-- CMPLTI (R169): Signed less-than compare with an immediate. -/
  | cmplti (g : CoreId) (sl : Slot) (d a : R6) (imm : Word)
  /-- CMPLTUI (R169): Unsigned less-than compare with an immediate. -/
  | cmpltui (g : CoreId) (sl : Slot) (d a : R6) (imm : Word)
  /-- MFC (R152): Reads a control register into a g register, with its tint. -/
  | mfc (g : CoreId) (sl : Slot) (d c : R6)
  /-- MTC (R152): Writes a control register from a g register, subject to level and Tint checks. -/
  | mtc (g : CoreId) (sl : Slot) (c a : R6)
  /-- DIV (R170): Signed divide in 34 issue cycles, with the DZ and DOV conditions. -/
  | div (g : CoreId) (sl : Slot) (d a b : R6)
  /-- DIVU (R170): Unsigned divide in 34 issue cycles, with the DZ condition. -/
  | divu (g : CoreId) (sl : Slot) (d a b : R6)
  /-- REM (R170): Signed remainder in 34 issue cycles. -/
  | rem (g : CoreId) (sl : Slot) (d a b : R6)
  /-- REMU (R170): Unsigned remainder in 34 issue cycles. -/
  | remu (g : CoreId) (sl : Slot) (d a b : R6)
  /-- BR (R187): Unconditional branch after two delay slots. -/
  | br (g : CoreId) (sl : Slot) (disp : BitVec 18)
  /-- BZ (R187): Branches if a g register is zero, with optional annulment of the delay slots. -/
  | bz (g : CoreId) (sl : Slot) (annul hint : Bool) (src : R6) (disp : BitVec 12)
  /-- BNZ (R187): Branches if a g register is non-zero. -/
  | bnz (g : CoreId) (sl : Slot) (annul hint : Bool) (src : R6) (disp : BitVec 12)
  /-- BLTZ (R187): Branches if a g register is negative. -/
  | bltz (g : CoreId) (sl : Slot) (annul hint : Bool) (src : R6) (disp : BitVec 12)
  /-- BGEZ (R187): Branches if a g register is zero or positive. -/
  | bgez (g : CoreId) (sl : Slot) (annul hint : Bool) (src : R6) (disp : BitVec 12)
  /-- BPA (R187): Branches if a predicate is non-zero. -/
  | bpa (g : CoreId) (sl : Slot) (annul hint : Bool) (src : R6) (disp : BitVec 12)
  /-- BPN (R187): Branches if a predicate is zero. -/
  | bpn (g : CoreId) (sl : Slot) (annul hint : Bool) (src : R6) (disp : BitVec 12)
  /-- CALL (R187): Branches always and writes the link to g63. -/
  | call (g : CoreId) (sl : Slot) (disp : BitVec 18)
  /-- JR (R187): Jumps to a register target and writes the link. -/
  | jr (g : CoreId) (sl : Slot) (src link : R6)
  /-- LOOP (R202): Sets up a zero-overhead loop level with a register count. -/
  | loop (g : CoreId) (sl : Slot) (lv : BitVec 2) (src : R6) (disp : BitVec 12)
  /-- LOOPI (R202): Sets up a zero-overhead loop level with an immediate count. -/
  | loopi (g : CoreId) (sl : Slot) (lv : BitVec 2) (cnt : BitVec 6) (disp : BitVec 12)
  /-- LCLR (R201): Clears the loop counts of the levels in MASK. -/
  | lclr (g : CoreId) (sl : Slot) (mask : BitVec 3)
  /-- PFLUSH (R199): Clears every branch-target-buffer entry. -/
  | pflush (g : CoreId) (sl : Slot)
  /-- PBAR (R199): Sets or clears PRED_CTL.BAR. -/
  | pbar (g : CoreId) (sl : Slot) (on : Bool)
  /-- SYSCALL (R293): Enters cause 8 after its bundle, with CODE in CAUSE.SUB. -/
  | syscall (g : CoreId) (sl : Slot) (code : BitVec 16)
  /-- KCALL (R294): Enters a Keeper gate at Keeper level after checks. -/
  | kcall (g : CoreId) (sl : Slot) (region : BitVec 2) (gate : R6)
  /-- RETX (R305): Waits for the handler to drain, restores the TSB and resumes at AEPC with pending results. -/
  | retx (g : CoreId) (sl : Slot)
  /-- DECLASS (R270): Copies a g register with K cleared, at Keeper level, counted. -/
  | declass (g : CoreId) (sl : Slot) (d a : R6)
  /-- RCLR (R270): Copies a g register with R cleared, when RCLR_EN is set, counted. -/
  | rclr (g : CoreId) (sl : Slot) (d a : R6)
  /-- SLEEP (R477): Puts the core into LIGHT or DEEP sleep until a wake condition holds. -/
  | sleep (g : CoreId) (sl : Slot) (depth : BitVec 2)
  /-- CORE_WAKE (R478): A wake condition ends a sleep, and the next bundle issues 8 or 800 CCLK later. -/
  | coreWake (g : CoreId)
  /-- SLEEP_TIMER_EXPIRE (R478): SLEEP_TMR MCLK pass since the request cycle, giving a wake condition. -/
  | sleepTimerExpire (g : CoreId)
  /-- LDB (R171): Loads a sign-extended byte. -/
  | ldb (g : CoreId) (sl : Slot) (rd : R6) (m : MemOp)
  /-- LDBU (R171): Loads a zero-extended byte. -/
  | ldbu (g : CoreId) (sl : Slot) (rd : R6) (m : MemOp)
  /-- LDH (R171): Loads a sign-extended halfword. -/
  | ldh (g : CoreId) (sl : Slot) (rd : R6) (m : MemOp)
  /-- LDHU (R171): Loads a zero-extended halfword. -/
  | ldhu (g : CoreId) (sl : Slot) (rd : R6) (m : MemOp)
  /-- LDW (R171): Loads a word. -/
  | ldw (g : CoreId) (sl : Slot) (rd : R6) (m : MemOp)
  /-- LDD (R171): Loads a doubleword into a d register. -/
  | ldd (g : CoreId) (sl : Slot) (rd : R6) (m : MemOp)
  /-- LDQ (R171): Loads a quadword into a q register. -/
  | ldq (g : CoreId) (sl : Slot) (rd : R6) (m : MemOp)
  /-- STB (R171): Stores a byte. -/
  | stb (g : CoreId) (sl : Slot) (rd : R6) (m : MemOp)
  /-- STH (R171): Stores a halfword. -/
  | sth (g : CoreId) (sl : Slot) (rd : R6) (m : MemOp)
  /-- STW (R171): Stores a word. -/
  | stw (g : CoreId) (sl : Slot) (rd : R6) (m : MemOp)
  /-- STD (R171): Stores a d register. -/
  | std (g : CoreId) (sl : Slot) (rd : R6) (m : MemOp)
  /-- STQ (R171): Stores a q register. -/
  | stq (g : CoreId) (sl : Slot) (rd : R6) (m : MemOp)
  /-- LEA (R173): Writes base plus offset to an address register. -/
  | lea (g : CoreId) (sl : Slot) (rd ab : R4) (off : Word)
  /-- AMOD (R173): Applies a post-modify update with no memory access. -/
  | amod (g : CoreId) (sl : Slot) (m : MemOp)
  /-- MOVTA (R173): Moves a g register into an a, o or m register, refusing K. -/
  | movta (g : CoreId) (sl : Slot) (d a : R6)
  /-- MOVFA (R173): Moves an a, o or m register into a g register. -/
  | movfa (g : CoreId) (sl : Slot) (d a : R6)
  /-- VLDS (R223): Resumable strided vector load, one element per CCLK from VEI.ELEM. -/
  | vlds (g : CoreId) (sl : Slot) (o : VM)
  /-- VSTS (R223): Resumable strided vector store, one element per CCLK from VEI.ELEM. -/
  | vsts (g : CoreId) (sl : Slot) (o : VM)
  /-- KLOAD (R239): Starts loading an SKB context into a key slot, setting LOADING. -/
  | kload (g : CoreId) (sl : Slot) (ks : R4) (gs : R6)
  /-- KLOAD_COMPLETE (R239): A KLOAD finishes reading the SKB, and the slot becomes READY or EMPTY with LOADERR. -/
  | kloadComplete (g : CoreId) (ecc : Ecc)
  /-- KZERO (R240): Empties a key slot once its operations have finished with it. -/
  | kzero (g : CoreId) (sl : Slot) (ks : R4)
  /-- KEXPORT (R241): Passes 32 bytes to the vault under an export handle. -/
  | kexport (g : CoreId) (sl : Slot) (qa : R5) (gh : R6)
  /-- KEXPORT_COMPLETE (R241): The vault accepts or refuses the export, and KEXP_STAT.ERR is set. -/
  | kexportComplete (g : CoreId)
  /-- MUL (R178): 32-bit product. -/
  | mul (g : CoreId) (sl : Slot) (d a b : R6)
  /-- MAC (R179): Accumulates a 16-bit product. -/
  | mac (g : CoreId) (sl : Slot) (acc : R3) (a b : R6) (md : R3)
  /-- MSU (R179): Subtracts a 16-bit product from an accumulator. -/
  | msu (g : CoreId) (sl : Slot) (acc : R3) (a b : R6) (md : R3)
  /-- MACM (R180): Accumulates a 16-bit product and shifts the delay line. -/
  | macm (g : CoreId) (sl : Slot) (acc : R3) (a b : R6) (md : R3)
  /-- MFA (R181): Extracts a shifted, rounded or saturated accumulator value. -/
  | mfa (g : CoreId) (sl : Slot) (d : R6) (acc : R3) (rnd sat : Bool) (sh : BitVec 8)
  /-- MTA (R181): Writes an accumulator or one of its fields. -/
  | mta (g : CoreId) (sl : Slot) (acc : R3) (a : R6) (field : BitVec 2)
  /-- ACCADD (R178): Adds or subtracts one accumulator to another. -/
  | accadd (g : CoreId) (sl : Slot) (acc src : R3) (neg : Bool)
  /-- MULW16 (R178): Widening 16-bit multiply. -/
  | mulw16 (g : CoreId) (sl : Slot) (uns : Bool) (d a b : R6)
  /-- MULW32 (R178): Widening 32-bit multiply into a register pair. -/
  | mulw32 (g : CoreId) (sl : Slot) (uns : Bool) (d a b : R6)
  /-- MACW (R178): Accumulates a 64-bit product. -/
  | macw (g : CoreId) (sl : Slot) (uns : Bool) (acc : R3) (a b : R6)
  /-- DOT4B (R178): Four-way byte dot product added to a g register. -/
  | dot4b (g : CoreId) (sl : Slot) (ua ub : Bool) (d a b : R6)
  /-- DOT4H (R178): Four-way halfword dot product added to an accumulator. -/
  | dot4h (g : CoreId) (sl : Slot) (uns : Bool) (acc : R3) (a b : R6)
  /-- MMAD (R182): Modular multiply-add over MOD_Q, fully reduced. -/
  | mmad (g : CoreId) (sl : Slot) (mont noadd : Bool) (d a b : R6)
  /-- VADD (R219): Lane-wise add. -/
  | vadd (g : CoreId) (sl : Slot) (o : VR)
  /-- VSUB (R219): Lane-wise subtract. -/
  | vsub (g : CoreId) (sl : Slot) (o : VR)
  /-- VAND (R219): Lane-wise and. -/
  | vand (g : CoreId) (sl : Slot) (o : VR)
  /-- VOR (R219): Lane-wise or. -/
  | vor (g : CoreId) (sl : Slot) (o : VR)
  /-- VXOR (R219): Lane-wise exclusive or. -/
  | vxor (g : CoreId) (sl : Slot) (o : VR)
  /-- VANDN (R219): Lane-wise and-not. -/
  | vandn (g : CoreId) (sl : Slot) (o : VR)
  /-- VMIN (R219): Lane-wise signed minimum. -/
  | vmin (g : CoreId) (sl : Slot) (o : VR)
  /-- VMAX (R219): Lane-wise signed maximum. -/
  | vmax (g : CoreId) (sl : Slot) (o : VR)
  /-- VMINU (R219): Lane-wise unsigned minimum. -/
  | vminu (g : CoreId) (sl : Slot) (o : VR)
  /-- VMAXU (R219): Lane-wise unsigned maximum. -/
  | vmaxu (g : CoreId) (sl : Slot) (o : VR)
  /-- VSHL (R219): Lane-wise left shift by register. -/
  | vshl (g : CoreId) (sl : Slot) (o : VR)
  /-- VSHR (R219): Lane-wise logical right shift by register. -/
  | vshr (g : CoreId) (sl : Slot) (o : VR)
  /-- VSRA (R219): Lane-wise arithmetic right shift by register. -/
  | vsra (g : CoreId) (sl : Slot) (o : VR)
  /-- VROTR (R219): Lane-wise rotate right by register. -/
  | vrotr (g : CoreId) (sl : Slot) (o : VR)
  /-- VSEL (R219): Lane-wise select under a predicate. -/
  | vsel (g : CoreId) (sl : Slot) (o : VR)
  /-- VMOV (R219): Lane-wise move. -/
  | vmov (g : CoreId) (sl : Slot) (o : VR)
  /-- VCMPEQ (R219): Lane-wise equality compare into a predicate. -/
  | vcmpeq (g : CoreId) (sl : Slot) (o : VR)
  /-- VCMPLT (R219): Lane-wise signed less-than into a predicate. -/
  | vcmplt (g : CoreId) (sl : Slot) (o : VR)
  /-- VCMPLTU (R219): Lane-wise unsigned less-than into a predicate. -/
  | vcmpltu (g : CoreId) (sl : Slot) (o : VR)
  /-- VCMPLE (R219): Lane-wise signed less-or-equal into a predicate. -/
  | vcmple (g : CoreId) (sl : Slot) (o : VR)
  /-- VCMPLEU (R219): Lane-wise unsigned less-or-equal into a predicate. -/
  | vcmpleu (g : CoreId) (sl : Slot) (o : VR)
  /-- VSHLI (R219): Lane-wise left shift by immediate. -/
  | vshli (g : CoreId) (sl : Slot) (o : VS)
  /-- VSHRI (R219): Lane-wise logical right shift by immediate. -/
  | vshri (g : CoreId) (sl : Slot) (o : VS)
  /-- VSRAI (R219): Lane-wise arithmetic right shift by immediate. -/
  | vsrai (g : CoreId) (sl : Slot) (o : VS)
  /-- VROTRI (R219): Lane-wise rotate right by immediate. -/
  | vrotri (g : CoreId) (sl : Slot) (o : VS)
  /-- VDUPG (R219): Duplicates a g register into every written lane. -/
  | vdupg (g : CoreId) (sl : Slot) (o : VG)
  /-- VMUL (R219): Lane-wise low product. -/
  | vmul (g : CoreId) (sl : Slot) (o : VR)
  /-- VMULH (R219): Lane-wise signed high product. -/
  | vmulh (g : CoreId) (sl : Slot) (o : VR)
  /-- VMULHU (R219): Lane-wise unsigned high product. -/
  | vmulhu (g : CoreId) (sl : Slot) (o : VR)
  /-- VMULW (R219): Lane-wise signed widening product. -/
  | vmulw (g : CoreId) (sl : Slot) (o : VR)
  /-- VMULWU (R219): Lane-wise unsigned widening product. -/
  | vmulwu (g : CoreId) (sl : Slot) (o : VR)
  /-- VMACW (R219): Lane-wise signed widening multiply-accumulate. -/
  | vmacw (g : CoreId) (sl : Slot) (o : VR)
  /-- VMACWU (R219): Lane-wise unsigned widening multiply-accumulate. -/
  | vmacwu (g : CoreId) (sl : Slot) (o : VR)
  /-- VDOT4B (R219): Byte dot products accumulated into 32-bit lanes. -/
  | vdot4b (g : CoreId) (sl : Slot) (o : VR)
  /-- VDOT4H (R219): Halfword dot products accumulated into 64-bit lanes. -/
  | vdot4h (g : CoreId) (sl : Slot) (o : VR)
  /-- VMMAD (R220): Lane-wise modular multiply-add. -/
  | vmmad (g : CoreId) (sl : Slot) (o : VR)
  /-- BFLY (R221): Cooley-Tukey or Gentleman-Sande butterfly on a register pair. -/
  | bfly (g : CoreId) (sl : Slot) (o : VR)
  /-- VSHUF (R222): Byte shuffle by an index register. -/
  | vshuf (g : CoreId) (sl : Slot) (o : VR)
  /-- VZIPL (R222): Interleaves the low halves. -/
  | vzipl (g : CoreId) (sl : Slot) (o : VR)
  /-- VZIPH (R222): Interleaves the high halves. -/
  | vziph (g : CoreId) (sl : Slot) (o : VR)
  /-- VUZPE (R222): Takes the even lanes of a register pair. -/
  | vuzpe (g : CoreId) (sl : Slot) (o : VR)
  /-- VUZPO (R222): Takes the odd lanes of a register pair. -/
  | vuzpo (g : CoreId) (sl : Slot) (o : VR)
  /-- VEXT (R222): Extracts 16 bytes at an offset from a register pair. -/
  | vext (g : CoreId) (sl : Slot) (o : VR)
  /-- VCLMUL (R222): Carry-less product of two 64-bit halves. -/
  | vclmul (g : CoreId) (sl : Slot) (o : VR)
  /-- VCTR_INIT (R244): Initialises a slot's counter, IV, tag mask and GHASH accumulator for a frame. -/
  | vctrInit (g : CoreId) (sl : Slot) (va : R5) (ks : R4) (src : Bool) (fsel : R3)
  /-- VCTR_DATA (R245): Encrypts or decrypts a block in counter mode and advances the counter. -/
  | vctrData (g : CoreId) (sl : Slot) (vd va vm : R5) (ks : R4)
  /-- VECB (R246): AES-256 encryption of one block under the slot key, K-tinted. -/
  | vecb (g : CoreId) (sl : Slot) (vd va : R5) (ks : R4)
  /-- VGHASH (R247): Absorbs a block into the slot's GHASH accumulator. -/
  | vghash (g : CoreId) (sl : Slot) (va : R5) (ks : R4)
  /-- VTAG (R248): Produces the GCM tag and returns the slot to READY. -/
  | vtag (g : CoreId) (sl : Slot) (vd va : R5) (ks : R4)
  /-- VTAGCHK (R249): Compares the computed tag with a received tag into a predicate. -/
  | vtagchk (g : CoreId) (sl : Slot) (pd : R3) (va vb : R5) (ks : R4)
  /-- VDECLASS (R270): Copies a vector register with K cleared, at Keeper level, counted. -/
  | vdeclass (g : CoreId) (sl : Slot) (vd va : R5) (long : Bool)
  /-- VRCLR (R270): Copies a vector register with R cleared, counted. -/
  | vrclr (g : CoreId) (sl : Slot) (vd va : R5) (long : Bool)
  /-- FRM_NEXT_POP (R99): A core read of FRM_NEXT word 0 pops the oldest frame descriptor. -/
  | frmNextPop (g : CoreId)
  /-- FRM_PROGRESS (R99): A core reports the output cells of its oldest frame that are complete. -/
  | frmProgress (g : CoreId) (v : Word)
  /-- FRM_DONE (R100): A core completes its oldest frame with a RESULT and OUT_LEN. -/
  | frmDone (g : CoreId) (lo hi : Word)
  /-- DBANK_REQ (R348): A write starts handovers of DMEM banks to new owners. -/
  | dbankReq (who : Prin) (g : CoreId) (v : Word)
  /-- DBANK_HANDOVER_DONE (R348): A bank's old owner's accesses end, OWNER takes the new value and DBANK_HO is raised. -/
  | dbankHandoverDone (g : CoreId) (b : R3)
  /-- ROT_RDY (R466): A core's start-up code ends start-up, and the core becomes SPARE. -/
  | rotRdy (g : CoreId) (v : Word)
  /-- BTB_KEY_WRITE (R210): A Warden write of a context's BTB key invalidates its entries. -/
  | btbKeyWrite (g : CoreId) (x : R4) (v : Word)
  /-- KRGN_WRITE (R291): A Warden write of a Keeper region enables it only if it meets the region rules. -/
  | krgnWrite (g : CoreId) (slot : Bool) (n : BitVec 2) (v : Word)
  /-- EVC_EOI (R322): A handler ends an interrupt, removing its stack entry and clearing ACTIVE. -/
  | evcEoi (g : CoreId) (v : Word)
  /-- LOCKSEQ_BEGIN (R358): Starts a locked CMEM sequence. -/
  | lockseqBegin (g : CoreId)
  /-- LOCKSEQ_END (R358): Ends a locked sequence once its accesses are performed and releases its banks. -/
  | lockseqEnd (g : CoreId)
  /-- LOCKSEQ_TIMEOUT (R359): 64 FCLK after its first acquisition a locked sequence is broken and its banks released. -/
  | lockseqTimeout (g : CoreId)
  /-- PORT_ENABLE (R45): Setting ENABLE checks the port configuration and enables the port or records CFG_ERR. -/
  | portEnable (sd : Side) (p : PortId) (v : Word)
  /-- PORT_DISABLE (R47): Clearing ENABLE stops reception and drains the transmitter. -/
  | portDisable (sd : Side) (p : PortId)
  /-- PORT_DRAINED (R47): The last admitted frame of a disabled port leaves, DRAINED sets and the transmitter idles. -/
  | portDrained (sd : Side) (p : PortId)
  /-- LINK_UP (R577): Block lock, alignment and FEC lock are reached on every lane of an enabled port. -/
  | linkUp (sd : Side) (p : PortId)
  /-- LINK_DOWN (R57): An egress port's link falls by local or remote fault, and its admitted frames are dropped. -/
  | linkDown (sd : Side) (p : PortId) (cause : DownCause)
  /-- RX_CELL (R51): The receiving MAC hands a 256-byte cell, or a frame's first cell, to the Prism. -/
  | rxCell (sd : Side) (p : PortId) (cell : List Byte)
  /-- RX_FRAME_END (R48): A received frame ends, passes or fails the MAC checks, and is counted. -/
  | rxFrameEnd (sd : Side) (p : PortId) (tail : List Byte) (bad : Bool)
  /-- EGRESS_TX_FRAME (R53): The egress MAC transmits a released frame with its FCS. -/
  | egressTxFrame (sd : Side) (p : PortId) (ecc : Ecc)
  /-- LANE_FENCE (R58): A write of LANE_CFG.FENCE fences a lane and takes its port down. -/
  | laneFence (sd : Side) (l : PortId)
  /-- LANE_CAL_FAIL (R58): A lane's receive calibration fails, and after three failures the lane is fenced. -/
  | laneCalFail (sd : Side) (l : PortId)
  /-- UNFENCE (R66): A write of 1 clears a lane's FENCE if its port is disabled. -/
  | unfence (sd : Side) (l : PortId)
  /-- QUAD_FENCE (R59): A write of QUAD_CTL.FENCE fences a quad and its ports. -/
  | quadFence (sd : Side) (q : QuadId)
  /-- QUAD_FAULT (R68): A PLL lock loss beyond 10 us, a third calibration failure or a parity error fences the quad with FAULT_CODE. -/
  | quadFault (sd : Side) (q : QuadId) (code : QuadCode)
  /-- LINE_LOCK (R69): Setting LOCK freezes the RWL fields of a line side until reset. -/
  | lineLock (sd : Side)
  /-- PRISM_DECISION (R91): The Prism takes an admission decision for a frame 24 FCLK after its first cell, admitting, spilling or refusing it. -/
  | prismDecision (sd : Side) (p : PortId) (ecc : Ecc)
  /-- CLINK_CELL_RX (R101): A cell or control message arrives over a cluster link direction and is checked and written. -/
  | clinkCellRx (c : ClId) (d : LinkDir) (err : Word) (ecc : Ecc)
  /-- CLINK_CELL_TIMEOUT (R102): A cell unacknowledged for 64 FCLK counts as NACKed and replay starts. -/
  | clinkCellTimeout (c : ClId) (d : LinkDir)
  /-- CLINK_CREDIT_AUDIT (R104): At an idle point the link's credits are audited, and a mismatch fences it. -/
  | clinkCreditAudit (c : ClId) (d : LinkDir)
  /-- CLINK_IDLE_INSERT (R104): A direction with no idle point for 1 ms inserts one idle FCLK. -/
  | clinkIdleInsert (c : ClId) (d : LinkDir)
  /-- CLINK_FENCE (R115): A write of CLINK_CTL.FENCE fences a cluster link by command. -/
  | clinkFence (c : ClId)
  /-- CLINK_POOL_WRITE (R115): A write to CLINK_POOL is applied or ignored as a whole. -/
  | clinkPoolWrite (who : Prin) (c : ClId) (v : Word)
  /-- CLINK_TRAINED (R115): A cluster link completes training and CLINK_STAT.UP rises. -/
  | clinkTrained (c : ClId)
  /-- CLINK_LOCK (R115): Setting CLINK_LOCK freezes the CLINK block's RWL fields. -/
  | clinkLock (who : Prin)
  /-- PRISM_LOCK (R112): Setting PRISM_LOCK freezes the PRISM block's RWL fields. -/
  | prismLock (who : Prin) (sd : Side)
  /-- RSQ_LOCK (R114): Setting RSQ_LOCK freezes the Resequencer block's RWL fields. -/
  | rsqLock (who : Prin) (sd : Side)
  /-- DLV_LOCK (R137): Setting DLV_LOCK freezes the delivery block's RWL fields. -/
  | dlvLock (who : Prin)
  /-- LEDGER_LOCK (R116): Setting LEDGER_CTL.LOCK freezes the ledger checker enable. -/
  | ledgerLock (who : Prin)
  /-- RESEQ_RELEASE (R105): The head frame of an egress partition meets its release condition and is released or skipped. -/
  | reseqRelease (sd : Side) (p : PortId)
  /-- DEADLINE_MISS (R108): A frame not started by its latest start is dropped and recorded. -/
  | deadlineMiss (sd : Side) (p : PortId)
  /-- LEDGER_AUDIT (R110): Every 1 ms the ledger checker snapshots and verifies all 32 ledgers, raising LEDGER_ERR. -/
  | ledgerAudit
  /-- COST_COMMIT (R98): COMMIT_t checks a cost slot and makes it valid or records ERR. -/
  | costCommit (who : Prin) (t : Bool)
  /-- COST_INVAL (R98): INVAL_t invalidates a cost slot unless a core in service runs its epoch. -/
  | costInval (who : Prin) (t : Bool)
  /-- SA_KEY_WRITE (R85): A Warden write of SA_KEY also clears STOPPED. -/
  | saKeyWrite (sa : BitVec 12) (v : Word)
  /-- SA_NEXT_PN_WRITE (R107): A Warden write of a key's next PN clears its replay bitmap. -/
  | saNextPnWrite (sa : BitVec 12) (k : Bool) (v : DWord)
  /-- SA_EVT_POP (R333): A Warden read pops the oldest SA event. -/
  | saEvtPop
  /-- PUTTY_JOB (R133): The red Prism issues a Putty job for a reserve below depth. -/
  | puttyJob (p : PortId) (b : R3)
  /-- SLOT_START (R131): A TFC slot starts and carries a real frame, a Putty frame or idle. -/
  | slotStart (p : PortId)
  /-- TFC_STREAM_START (R136): Once every reserve is full the slot stream of a TFC port starts at slot 0. -/
  | tfcStreamStart (p : PortId)
  /-- ZTF_COMMIT (R140): COMMIT checks staged ZTF values and copies them to the values in use or records ERR. -/
  | ztfCommit (who : Prin) (p : PortId)
  /-- EVC_SOURCE_EVENT (R316): A raw event reaches an EVC source and sets PENDING, subject to coalescing. -/
  | evcSourceEvent (src : EvSrc)
  /-- SRC_CMD_SET (R337): SRC_CMD.SET raises one event of an edge source. -/
  | srcCmdSet (src : EvSrc)
  /-- SRC_CMD_CLR (R337): SRC_CMD.CLR clears PENDING and OCC of an edge source. -/
  | srcCmdClr (src : EvSrc)
  /-- COALESCE_TIMEOUT (R324): A coalescing window's TIME expires and PENDING is set. -/
  | coalesceTimeout (src : EvSrc)
  /-- SRC_CFG_WRITE (R326): A write of PRI, ENABLE or TARGET changes or withdraws a source's presentation. -/
  | srcCfgWrite (who : Prin) (src : EvSrc) (v : Word)
  /-- PIN_FILTER_CHANGE (R317): A filtered EVT_IN, TAMPER or reset input changes after STABLE samples, or a glitch is counted. -/
  | pinFilterChange (pin : PinId) (v : Bool)
  /-- SKIM_REGION (R362): Skim copies a CMEM region into the save buffer, tests it and restores it. -/
  | skimRegion (c : ClId) (failRow : Option (BitVec 5)) (ecc : Ecc)
  /-- REMAP_START (R365): REMAP_CTL.START starts copying a CMEM bank to the spare. -/
  | remapStart (c : ClId) (bank : R5)
  /-- REMAP_DONE (R365): The remap copy ends and the spare serves the bank. -/
  | remapDone (c : ClId)
  /-- CMEM_BEAT_GRANT (R352): The arbiter grants a waiting beat its bank for the next FCLK. -/
  | cmemBeatGrant (c : ClId) (beats : List Beat)
  /-- QUOTA_WINDOW_END (R355): A quota window ends and masked requesters are unmasked. -/
  | quotaWindowEnd (c : ClId)
  /-- ARB_PRI_WRITE (R353): A write of BASE applies to the next phase. -/
  | arbPriWrite (c : ClId) (r : Fin 12) (v : Word)
  /-- MREP_APPLY (R374): APPLY makes a soft column repair of an array. -/
  | mrepApply (c : ClId) (n : R3) (v : Word)
  /-- DMA_ENABLE (R391): Setting EN starts a channel, or is refused with CFG_ERR. -/
  | dmaEnable (who : Prin) (c : ClId) (ch : R4)
  /-- DMA_TAIL_WRITE (R377): Advancing TAIL queues descriptors for the channel. -/
  | dmaTailWrite (who : Prin) (c : ClId) (ch : R4) (v : Word)
  /-- DMA_DESCRIPTOR_START (R379): The channel fetches and checks a descriptor before its first burst. -/
  | dmaDescriptorStart (c : ClId) (ch : R4)
  /-- DMA_BURST (R380): A copy, fill or compare burst of up to 64 bytes runs. -/
  | dmaBurst (c : ClId) (ch : R4) (ecc : Ecc)
  /-- DMA_DESCRIPTOR_FINISH (R384): A descriptor finishes, writes RESULT, raises its sources and advances HEAD. -/
  | dmaDescriptorFinish (c : ClId) (ch : R4)
  /-- DMA_ABORT (R385): ABORT stops the channel and marks its descriptor ABORT_SW. -/
  | dmaAbort (who : Prin) (c : ClId) (ch : R4)
  /-- MBX_GO (R537): The host submits CMD_BUF, and GEN, BUSY and source 60 move. -/
  | mbxGo
  /-- MBX_ACK (R537): The host acknowledges, clearing RSP_VALID and TIMEOUT. -/
  | mbxAck
  /-- MBX_TIMEOUT (R538): BUSY lasts MBX_TMO ms, so TIMEOUT sets and vector 0 is sent. -/
  | mbxTimeout
  /-- GET_INFO (R401): Returns IDCODE, lifecycle, SVNs and vault status. -/
  | getInfo
  /-- GET_RANDOM (R401): Returns bytes from the public random port. -/
  | getRandom
  /-- GET_CHALLENGE (R401): Returns a fresh nonce for signed commands. -/
  | getChallenge
  /-- SA_CREATE (R401): Creates an SA context and its lookup entry. -/
  | saCreate
  /-- SA_DELETE (R412): Invalidates an SA and retires its keys in the background. -/
  | saDelete
  /-- SA_UPDATE (R412): Changes an SA's home clusters, epoch or replay window. -/
  | saUpdate
  /-- KEY_IMPORT (R410): Unwraps a key, expands it into the home SKBs and makes it live. -/
  | keyImport
  /-- KEY_ACTIVATE (R412): Makes a live key the active key of an encrypt SA. -/
  | keyActivate
  /-- KEY_RETIRE (R412): Clears a key's KV and starts its background retirement. -/
  | keyRetire
  /-- KEY_RETIRE_COMPLETE (R412): After the budget plus 1 us the key's contexts are retired and its vault copy erased. -/
  | keyRetireComplete (sa : BitVec 12) (k : Bool)
  /-- SA_STATUS (R401): Returns an SA's registers. -/
  | saStatus
  /-- KE_INIT (R414): Starts key establishment as initiator on a spare core. -/
  | keInit
  /-- KE_RESPOND (R414): Answers a key establishment and installs the derived key. -/
  | keRespond
  /-- KE_FINISH (R414): Completes key establishment as initiator and installs the key. -/
  | keFinish
  /-- KE_ABORT (R401): Closes a key-establishment handle. -/
  | keAbort
  /-- KE_HANDLE_TIMEOUT (R416): A handle without KE_FINISH for 60 s is closed and source 49 raised. -/
  | keHandleTimeout (h : R4)
  /-- IDENT_GET (R401): Returns the device's identity public keys. -/
  | identGet
  /-- COST_LOAD (R401): Loads and commits a cost table into a cost slot. -/
  | costLoad
  /-- IMAGE_STAGE (R401): Stages a chunk of an image. -/
  | imageStage
  /-- IMAGE_COMMIT (R444): Verifies the staged image and writes flash or starts a Mirror update. -/
  | imageCommit
  /-- SVN_COMMIT (R420): Raises the fused SVN minimums. -/
  | svnCommit
  /-- PRIN_SET (R401): Changes PRIN_CTL, only clearing bits in DEPLOYED. -/
  | prinSet
  /-- PEER_TRUST (R401): Adds or removes a trusted peer key hash. -/
  | peerTrust
  /-- SA_PROTECT (R517): Sets an SA's replication mode and ring direction. -/
  | saProtect
  /-- OWNER_PROVISION (R415): Installs the owner's KEKs and fuses the owner hash. -/
  | ownerProvision
  /-- LC_ADVANCE (R422): Zeroises as required, writes the lifecycle fuses and warm-resets. -/
  | lcAdvance
  /-- ZEROISE (R424): Mailbox command that starts zeroisation. -/
  | zeroise
  /-- ZEROISE_DONE (R425): Zeroisation completes, DONE sets and a warm reset is applied. -/
  | zeroiseDone
  /-- TAMPER_BREACH (R423): A tamper loop mismatch lasting STABLE samples starts zeroisation. -/
  | tamperBreach (loop : BitVec 2)
  /-- VBAT_TAMPER_BREACH (R423): The VBAT-domain monitor confirms a breach and clears the root store. -/
  | vbatTamperBreach
  /-- SCAN_REQ (R428): The Lens requests scan, starting zeroisation or acting as BYPASS. -/
  | scanReq
  /-- TRNG_HEALTH_FAIL (R407): A TRNG health test fails, and both ports return {1, 1} zeros. -/
  | trngHealthFail
  /-- TRNG_RECOVER (R407): After 4,096 good samples the DRBG is instantiated again. -/
  | trngRecover
  /-- DRBG_RESEED (R407): The DRBG reseeds after 65,536 requests or 100 ms. -/
  | drbgReseed
  /-- TRNG_PUB (R408): A Keeper read takes 64 untinted bits from the public port. -/
  | trngPub (g : CoreId) (rd : R5)
  /-- TRNG_SEC (R408): A Keeper read takes 64 K-tinted bits from the secret port. -/
  | trngSec (g : CoreId) (rd : R5)
  /-- WARDEN_BOOT (R419): From reset release the Warden self-tests, verifies images, loads and releases the cores. -/
  | wardenBoot
  /-- LOCKSTEP_MISMATCH (R397): The Warden's comparator finds a mismatch and stops both cores. -/
  | lockstepMismatch
  /-- WARDEN_HOT_RESTART (R446): The Warden restarts from the newer valid slot while traffic runs. -/
  | wardenHotRestart
  /-- FLASH_WRITE_TIMEOUT (R540): A flash area write exceeds its limit and is abandoned. -/
  | flashWriteTimeout
  /-- ROT_STEP (R437): A rotation step returns the spare to service and drains the next core. -/
  | rotStep (c : ClId)
  /-- STEP_NOW (R462): A Warden write starts a rotation step now. -/
  | stepNow (c : ClId)
  /-- FORCE (R462): A Warden write makes the next step take FORCE_CORE out of service. -/
  | force (c : ClId) (n : R3)
  /-- ROT_DRAIN_DONE (R438): A draining core's queue empties, it enters TEST and BIST starts. -/
  | rotDrainDone (g : CoreId)
  /-- ROT_DRAIN_TIMEOUT (R438): DRAIN_LIMIT passes and the core is fenced with CORE_LOST. -/
  | rotDrainTimeout (g : CoreId)
  /-- BIST_DONE (R438): Logic and memory BIST end, and the core enters RELOAD or is fenced. -/
  | bistDone (g : CoreId) (logicOk memOk : Bool)
  /-- RELEASE (R439): The Warden ends RELOAD, and the core starts at vector 0 of its slot. -/
  | release (g : CoreId)
  /-- STARTUP_TIMEOUT (R439): No ROT_RDY within 50 us of RELEASE fences the core. -/
  | startupTimeout (g : CoreId)
  /-- MIRROR_SWAP (R443): Setting MIRROR_SWAP toggles the active slot at the next RELEASE. -/
  | mirrorSwap (g : CoreId)
  /-- MIRROR_DONE (R444): Every core runs the new epoch, so the update ends and the old cost slot is invalidated. -/
  | mirrorDone
  /-- CORE_FENCE (R464): A Warden write of STATE 5 fences a core and queues CORE_FENCE. -/
  | coreFence (g : CoreId)
  /-- DUST_RELEASE (R449): The Warden starts releasing a fenced unit. -/
  | dustRelease (v : Word)
  /-- DUST_RELEASE_DONE (R449): A release finishes, clearing the fence or setting FAILED. -/
  | dustReleaseDone (ok : Bool)
  /-- ERRQ_POP (R456): A read pops the highest-class oldest cluster error record. -/
  | errqPop (who : Prin) (c : ClId)
  /-- DERRQ_POP (R456): A Warden read pops the highest-class oldest device error record. -/
  | derrqPop (who : Prin)
  /-- ALIVE_KICK (R459): The Warden keeps ALIVE toggling. -/
  | aliveKick
  /-- ALIVE_TIMEOUT (R459): No kick for 2 ms drives ALIVE low. -/
  | aliveTimeout
  /-- POWER_OFF (R472): A power command quiesces a domain for power-off. -/
  | powerOff (who : Prin) (v : Word)
  /-- DOMAIN_DRAINED (R472): A quiescing domain reports drained and is powered down. -/
  | domainDrained
  /-- QUIESCE_TIMEOUT (R472): A domain not drained in 10 us returns to ON with RESULT 1. -/
  | quiesceTimeout
  /-- POWER_UP (R473): A power command closes a domain's switch and resets it. -/
  | powerUp (who : Prin) (v : Word)
  /-- POWER_UP_DONE (R473): A domain reaches ON after its power-up time. -/
  | powerUpDone
  /-- REFCLK_FAULT (R482): The monitor finds the active REFCLK lost or out of range and starts a switchover. -/
  | refclkFault (refA : Bool)
  /-- REF_FREQ_WINDOW (R482): A 10 ms frequency window ends and the REFCLKs are compared with SDREF_0. -/
  | refFreqWindow (ppmA ppmB : BitVec 16)
  /-- REF_SEL (R483): A write changing REF_SEL starts a reference switchover. -/
  | refSel (who : Prin) (b : Bool)
  /-- REF_SWITCH_DONE (R483): Both PLLs relock on the new REFCLK and REF_SWITCH is recorded. -/
  | refSwitchDone
  /-- PLL_FAULT (R484): The running PLL loses lock and the root moves to the standby. -/
  | pllFault
  /-- PLL_SEL (R484): A write changing PLL_SEL switches PLLs if STBY_OK is set. -/
  | pllSel (who : Prin) (b : Bool)
  /-- STANDBY_RELOCK (R484): The failed PLL locks and aligns and becomes standby. -/
  | standbyRelock
  /-- SUPPLY_DROOP (R485): A supply below WARN for 100 ns is counted and recorded. -/
  | supplyDroop (n : BitVec 4)
  /-- BROWN_OUT (R485): A supply below FAIL for 500 ns causes a power-on reset. -/
  | brownOut (n : BitVec 4)
  /-- THERMAL_SAMPLE (R486): Every 10 us the thermal sensors are sampled against WARN, HOT and TRIP. -/
  | thermalSample (samples : List (BitVec 16))
  /-- POWER_ON_RESET (R487): POR_N resets everything except VBAT, fuses and kept state. -/
  | powerOnReset
  /-- WARM_RESET (R487): WARM_N resets switched domains and registers not kept. -/
  | warmReset
  /-- WARM_REQ (R495): A write of CLK_CTL.WARM_REQ starts a warm reset. -/
  | warmReq
  /-- TINT_RCLR_EN_WRITE (R285): A write of RCLR_EN takes effect for bundles from CCLK a + 2. -/
  | tintRclrEnWrite (v : Word)
  /-- RING_HELLO (R507): A HELLO flit is received and advances ring-up, loss or a wiring fence. -/
  | ringHello (e : RPort) (east : Bool) (ringId : BitVec 16) (node : BitVec 8)
  /-- HELLO_SEND (R507): In TRAINING a port sends a HELLO every 1 us. -/
  | helloSend (e : RPort)
  /-- RING_HANDSHAKE (R508): A HANDSHAKE message runs the next ring-up step or fences the port. -/
  | ringHandshake (e : RPort) (step : BitVec 2) (parts : List (List Byte))
  /-- HANDSHAKE_RETRY (R508): A ring-up step waiting for a spare core is retried after 1 ms. -/
  | handshakeRetry (e : RPort)
  /-- RING_IDLE (R501): An IDLE flit carries acknowledgement and credit. -/
  | ringIdle (e : RPort) (h : FlitHdr)
  /-- RING_FLIT_ERROR (R504): A flit with a CRC mismatch or out-of-order SEQ is NACKed, or a bad tag fences the port. -/
  | ringFlitError (e : RPort) (kind : FlitErr)
  /-- RING_FLIT_TIMEOUT (R504): A flit unacknowledged for 2 us is replayed. -/
  | ringFlitTimeout (e : RPort)
  /-- RING_CREDIT_AUDIT (R505): Each ring credit pool is audited, and a mismatch fences the port. -/
  | ringCreditAudit (e : RPort) (d0 d1 c0 c1 : BitVec 9)
  /-- RING_HEARTBEAT (R510): A HEARTBEAT is accepted from the neighbour. -/
  | ringHeartbeat (e : RPort) (h : FlitHdr)
  /-- HEARTBEAT_SEND (R510): In UP a port sends a HEARTBEAT every 1 us. -/
  | heartbeatSend (e : RPort)
  /-- NEIGHBOUR_LOST (R510): No heartbeat for 4 us, PCS loss or fence declares the neighbour lost and wraps the ring. -/
  | neighbourLost (e : RPort)
  /-- RING_PCS_LOCK (R499): A ring port locks to flits after 8 good CRCs. -/
  | ringPcsLock (e : RPort)
  /-- RING_PCS_LOSS (R499): A ring port loses flit lock after 4 bad CRCs. -/
  | ringPcsLoss (e : RPort)
  /-- RING_ADVERT (R511): An ADVERT is received, recorded and forwarded. -/
  | ringAdvert (e : RPort) (h : FlitHdr) (a : Advert)
  /-- ADVERT_SEND (R511): Every 10 us the device broadcasts an ADVERT. -/
  | advertSend
  /-- NODE_UNREACHED (R511): No ADVERT from a node for 40 us makes it unreached. -/
  | nodeUnreached (n : BitVec 8)
  /-- RING_LOSS (R512): A LOSS message drops spills awaiting the lost node and moves the dateline. -/
  | ringLoss (e : RPort) (h : FlitHdr) (y : BitVec 8)
  /-- REPLICA_PROMOTE (R521): The protect device promotes a fresh replica after both LOSS messages. -/
  | replicaPromote (n : BitVec 8)
  /-- RING_SPILL (R515): A taker receives a SPILL message and admits it to its cores or refuses it. -/
  | ringSpill (e : RPort) (h : FlitHdr) (x : SpillHdr) (bytes : List Byte) (rmask : List Bool)
  /-- RING_SPILL_RESULT (R516): The origin receives a spilled frame's result and completes the frame. -/
  | ringSpillResult (e : RPort) (h : FlitHdr) (x : SpillHdr) (bytes : List Byte) (rmask : List Bool)
  /-- RING_REPL (R518): The protect device receives a replication message and updates its replica. -/
  | ringRepl (e : RPort) (h : FlitHdr) (m : ReplMsg)
  /-- RING_REPL_ACK (R518): The working device receives a replication acknowledgement. -/
  | ringReplAck (e : RPort) (h : FlitHdr) (sa : BitVec 12) (seq : Word)
  /-- REPL_ACK_TIMEOUT (R518): A mailbox command waits REPL_DEADLINE for REPL_ACK and then completes. -/
  | replAckTimeout
  /-- REPL_PN_TIMER (R519): 10 us after a small next-PN advance the decrypt next PN is replicated. -/
  | replPnTimer (sa : BitVec 12)
  /-- LEASE_SUSPEND (R520): P unreached for REPL_DEADLINE plus 10 us suspends the lease limit. -/
  | leaseSuspend (n : BitVec 8)
  /-- REPL_RESYNC (R518): W reaches P again and sends a full resynchronisation. -/
  | replResync (n : BitVec 8)
  /-- RING_PORT_FENCE (R527): A write of RPORT_CTL.FENCE fences a ring port by command. -/
  | ringPortFence (e : RPort)
  /-- RING_CFG_WRITE (R524): A write of RING_CFG is applied only while every port is DOWN or FENCED. -/
  | ringCfgWrite (who : Prin) (v : Word)
  /-- PCIE_FUNCTION_RESET (R534): PERST_N, hot reset or FLR resets only the PCIe function and mailbox transport. -/
  | pcieFunctionReset
  /-- MSIX_HOLDOFF_END (R535): A vector's holdoff ends and a merged message is sent. -/
  | msixHoldoffEnd (v : BitVec 5)
  /-- MEMWIN_WRITE (R550): A principal selects the target of its memory aperture. -/
  | memwinWrite (who : Prin) (v : Word)
  /-- APERTURE_ACCESS (R552): A host, Lens or Warden access through the aperture reaches the selected memory or reads zero. -/
  | apertureAccess (who : Prin) (x : BitVec 22) (size : Nat) (wr : Option (BitVec 64))
  /-- ACCESS_REFUSED (R533): A host, SMBus or Lens access refused by the access table reads zero, is counted and logged. -/
  | accessRefused (who : Prin) (off : BitVec 24) (wr : Option Word)
  /-- READ_ZEROED (R278): A host or Lens read of a tinted unit returns zero and is logged. -/
  | readZeroed (who : Prin) (off : BitVec 24) (wr : Option Word)
  /-- ACCESS_UNAVAIL (R532): An access to a block that is off or silent reads zero and counts HOST_UNAVAIL. -/
  | accessUnavail (who : Prin) (off : BitVec 24) (wr : Option Word)
  /-- SMB_IDCODE (R542): SMBus code 0x00 returns IDCODE. -/
  | smbIdcode
  /-- SMB_LC_STATE (R542): SMBus code 0x01 returns the lifecycle state and flags. -/
  | smbLcState
  /-- SMB_STATUS (R542): SMBus code 0x02 returns FAULT_N, ALIVE, zeroise and holdover state. -/
  | smbStatus
  /-- SMB_FAULT_STAT (R542): SMBus code 0x03 returns FAULT_STAT. -/
  | smbFaultStat
  /-- SMB_THERM_MAX (R542): SMBus code 0x10 returns the highest thermal sample. -/
  | smbThermMax
  /-- SMB_THERM (R542): SMBus codes 0x11 to 0x28 return one sensor's sample. -/
  | smbTherm (k : R5)
  /-- SMB_MON_EVT (R542): SMBus code 0x30 returns MON_EVT. -/
  | smbMonEvt
  /-- SMB_LINK_UP (R542): SMBus code 0x40 returns every line port's LINK_UP. -/
  | smbLinkUp
  /-- SMB_RING_STATE (R542): SMBus code 0x41 returns the ring port states. -/
  | smbRingState
  /-- SMB_DERRQ_STAT (R542): SMBus code 0x50 returns DERRQ_STAT. -/
  | smbDerrqStat
  /-- SMB_NOTIFY (R542): SMBus code 0xF0 writes SMB_NOTIFY and raises source 62. -/
  | smbNotify (v : Word)
  /-- SMB_BUS_TIMEOUT (R541): The clock held low for 30 ms makes the target release the bus. -/
  | smbBusTimeout
  /-- REGISTER_WRITE (R15): A write to a register with no behaviour of its own acts on its fields by their access codes. -/
  | registerWrite (who : Prin) (bar2 : Bool) (off : BitVec 24) (v : Word)
  /-- REFCLK_RECOVER (R483): A lost or out-of-range REFCLK returns, REF_A_OK or REF_B_OK rises, and PLLs in holdover relock to it at step 4. -/
  | refclkRecover (refA : Bool)
  /-- STANDBY_LOST (R496): The standby PLL loses lock or alignment without a switch, so STBY_OK falls and CLK_EVT.STBY_LOST is set. -/
  | standbyLost
  /-- RX_FEC_CODEWORD (R65): The RS-FEC decoder of a port finishes a codeword, corrected or uncorrectable, within a frame or not, updating FEC_CORR_CW, FEC_SYMBOL_ERR, FEC_UNCORR_CW and PORT_EVT.FEC_UNCORR. -/
  | rxFecCodeword (sd : Side) (p : PortId) (symbols : BitVec 8) (bad inFrame : Bool)
  /-- LANE_RX_LOCK (R67): A lane's receiver gains or loses signal detect, clock-recovery lock, calibration or block lock, changing LANE_STAT and PORT_STAT.LANE_LOCK. -/
  | laneRxLock (sd : Side) (l : PortId) (sig cdr cal blk : Bool)
  /-- SKB_CONTEXT_RESTORE (R343): After an SKB read error the vault finishes expanding the retired context again from its sealed copy, within 100 us. -/
  | skbContextRestore (c : ClId) (n : BitVec 10) (ecc : Ecc)
  /-- RING_FORWARD (R506): A flit whose DEST is another node arrives on a ring port and is forwarded, or turned at a wrap, setting DL when it crosses the dateline. -/
  | ringForward (e : RPort) (h : FlitHdr) (body : RBody)
  deriving DecidableEq, Repr

end Sys2Proof
end

