-- ==== Sys2Proof/Decode.lean ====
section
/-! DEFINITION. The commands that words spell. The table of operations and events gives no row any bits: a command reaches
the block as an operation or event, never as a word. (The syllables of a core's own bundles are read in
Machine/Syllable.lean.) -/

namespace Sys2Proof

/-- The command that a word of `nbits` bits spells: no row of the table has bits, so none does.
[Marks: DEDUCED (log entry 79)] -/
def decodeTableWord (_nbits _w : Nat) : Option Instr := none

end Sys2Proof
end

