-- ==== Sys2Proof/Config.lean ====
section
/-! DEFINITION. The constants that an implementation fixes and the free values: each has no body, so a statement about it
holds for every value. -/

namespace Sys2Proof.Config

/-- A 64-bit word that the spec leaves open, by the number of the draw. [Marks: DESIGN CHOICE (log entry 7)] -/
opaque freeDWord : Nat → DWord
/-- A string of bytes that the spec leaves open, by the number of the draw and its length in bytes.
[Marks: DESIGN CHOICE (log entry 7)] -/
opaque freeBytes : Nat → Nat → List Byte

/-- Spare columns of an array of a core's IMEM or DMEM that the fuses of this part use, by global core and array (R344).
[Marks: DESIGN CHOICE (log entry 7)] -/
opaque fuseRepairs : Nat → Nat → Nat

/-! What the standards that the spec names compute: FIPS 203 and FIPS 204, which the spec does not restate. -/

/-- ML-DSA-87: the public key of a key-generation seed. [Marks: DEDUCED (log entry 8)] -/
opaque mldsaPublic : List Byte → List Byte
/-- ML-DSA-87: the signature, with an empty context string, under the key of a seed, of a message, with hedging bytes.
[Marks: DEDUCED (log entry 8)] -/
opaque mldsaSign : List Byte → List Byte → List Byte → List Byte
/-- ML-DSA-87: a signature verifies under a public key over a message, with an empty context string.
[Marks: DEDUCED (log entry 8)] -/
opaque mldsaVerify : List Byte → List Byte → List Byte → Bool
/-- The same, under the public key that has a given SHA3-512 hash. [Marks: DEDUCED (log entry 8)] -/
opaque mldsaVerifyBy : BitVec 512 → List Byte → List Byte → Bool
/-- ML-KEM-1024 KeyGen: EK and DK from the seeds d and z. [Marks: DEDUCED (log entry 8)] -/
opaque mlkemKeys : List Byte → List Byte × List Byte
/-- ML-KEM-1024 Encaps: K and CT from EK and m. [Marks: DEDUCED (log entry 8)] -/
opaque mlkemEncaps : List Byte → List Byte → List Byte × List Byte
/-- ML-KEM-1024 Decaps: K from DK and CT. [Marks: DEDUCED (log entry 8)] -/
opaque mlkemDecaps : List Byte → List Byte → List Byte

/-- SHA3-512 of the Vilboken public key, in the boot ROM (R402, R418). [Marks: DESIGN CHOICE (log entry 7)] -/
opaque vilbokenHash : BitVec 512
/-- Bits 11:0 of IDCODE. [Marks: DESIGN CHOICE (log entry 7)] -/
opaque idcodeLow : BitVec 12
/-- The levels of the SMBus address straps at power-on reset (R541). [Marks: DESIGN CHOICE (log entry 7)] -/
opaque smbStrap : BitVec 2

/-- The NODE that stands a number of hops away in a direction of the ring's cabling (R511).
[Marks: DESIGN CHOICE (log entry 7)] -/
opaque ringNode : Nat → Nat → BitVec 8

end Sys2Proof.Config
end

