-- ==== Sys2Proof/Machine/Map.lean ====
section
/-! DEFINITION. The sparse map: lookup, update and its canonical form. -/

namespace Sys2Proof

/-- The value at key `k`; an unlisted key reads as `d`. [Marks: DESIGN CHOICE (log entry 3)] -/
def SMap.get {α : Type} (d : α) : SMap α → Nat → α
  | [], _ => d
  | (k', v) :: m, k => if k < k' then d else if k = k' then v else SMap.get d m k

/-- Insert or replace the entry of key `k`, keys kept rising. -/
def SMap.insert {α : Type} (k : Nat) (v : α) : SMap α → SMap α
  | [] => [(k, v)]
  | (k', v') :: m =>
    if k < k' then (k, v) :: (k', v') :: m
    else if k = k' then (k, v) :: m
    else (k', v') :: SMap.insert k v m

/-- Remove the entry of key `k`. -/
def SMap.erase {α : Type} (k : Nat) : SMap α → SMap α
  | [] => []
  | (k', v') :: m =>
    if k < k' then (k', v') :: m
    else if k = k' then m.filter (fun e => decide (k < e.1))
    else (k', v') :: SMap.erase k m

/-- Write `v` at key `k`: writing the default removes the entry, so equal maps are equal lists. -/
def SMap.set {α : Type} [DecidableEq α] (d : α) (m : SMap α) (k : Nat) (v : α) : SMap α :=
  if v = d then m.erase k else m.insert k v

/-- Change the value at key `k` by `f`. -/
def SMap.modify {α : Type} [DecidableEq α] (d : α) (m : SMap α) (k : Nat) (f : α → α) : SMap α :=
  m.set d k (f (m.get d k))

/-- The canonical form: every key above `lo`, keys strictly rising, no entry equal to the default. -/
def SMap.okFrom {α : Type} [DecidableEq α] (d : α) : Nat → SMap α → Bool
  | _, [] => true
  | lo, (k, v) :: m => decide (lo ≤ k) && decide (v ≠ d) && SMap.okFrom d (k + 1) m

/-- The map is in canonical form. -/
def SMap.wf {α : Type} [DecidableEq α] (d : α) (m : SMap α) : Bool := SMap.okFrom d 0 m

/-- The keys of the entries, rising. -/
def SMap.keys {α : Type} (m : SMap α) : List Nat := m.map (fun e => e.1)

/-- Write a list of values at consecutive keys from `k`. -/
def SMap.setRange {α : Type} [DecidableEq α] (d : α) (m : SMap α) : Nat → List α → SMap α
  | _, [] => m
  | k, v :: vs => SMap.setRange d (m.set d k v) (k + 1) vs

/-- Read `n` values at consecutive keys from `k`. -/
def SMap.getRange {α : Type} (d : α) (m : SMap α) (k : Nat) : Nat → List α
  | 0 => []
  | n + 1 => m.get d k :: SMap.getRange d m (k + 1) n

/-- The numbers `lo`, `lo + 1`, …, `n` of them. -/
def range (lo : Nat) : Nat → List Nat
  | 0 => []
  | n + 1 => lo :: range (lo + 1) n

/-- The value of a byte string, byte 0 the least significant (R8). -/
def leNat : List Byte → Nat
  | [] => 0
  | b :: bs => b.toNat + 256 * leNat bs

/-- The value of a byte string, byte 0 the most significant (network order). -/
def beNat (bs : List Byte) : Nat := bs.foldl (fun a b => a * 256 + b.toNat) 0

/-- The `n` bytes of a number, least significant first. -/
def toLE : Nat → Nat → List Byte
  | 0, _ => []
  | n + 1, v => BitVec.ofNat 8 v :: toLE n (v / 256)

/-- The `n` bytes of a number, most significant first. -/
def toBE (n v : Nat) : List Byte := (toLE n v).reverse

/-- Bits [hi:lo] of a number. -/
def bits (v hi lo : Nat) : Nat := (v / 2 ^ lo) % 2 ^ (hi + 1 - lo)

/-- Bit `i` of a number. -/
def bitN (v i : Nat) : Bool := v / 2 ^ i % 2 == 1

/-- A list cut or padded with `d` to exactly `n` entries. -/
def fitTo {α : Type} (d : α) : Nat → List α → List α
  | 0, _ => []
  | n + 1, [] => d :: fitTo d n []
  | n + 1, x :: xs => x :: fitTo d n xs

/-- The entry at index `i`, or `d`. -/
def nth {α : Type} (d : α) : List α → Nat → α
  | [], _ => d
  | x :: _, 0 => x
  | _ :: xs, n + 1 => nth d xs n

/-- The list with entry `i` replaced, if it has one. -/
def setNth {α : Type} : List α → Nat → α → List α
  | [], _, _ => []
  | _ :: xs, 0, v => v :: xs
  | x :: xs, n + 1, v => x :: setNth xs n v

end Sys2Proof
end

