-- ==== Sys2Proof/Machine/CoreState.lean ====
section
/-! DEFINITION. The state of one Lidrik core: registers, results in flight, far accesses, key slots, predictor,
memories and frame queue. -/

namespace Sys2Proof.Machine

/-- A tinted 32-bit register. -/
abbrev TW := Tagged Word
/-- The reset content of a tinted 32-bit register (R151). -/
abbrev tw0 : TW := ⟨0, .clean⟩
/-- A tinted 64-bit half. -/
abbrev TD := Tagged DWord
/-- The reset content of a 64-bit half (R151). -/
abbrev td0 : TD := ⟨0, .clean⟩

/-- A byte-addressed memory with one tint for each aligned 64-bit word (R259). Unlisted bytes read zero, untinted. -/
structure Mem where
  b : SMap Byte
  /-- keyed by byte offset / 8 -/
  t : SMap Tint
  deriving DecidableEq, Repr

/-- A memory that holds zero, untinted, everywhere. [Marks: DESIGN CHOICE (log entry 3)] -/
def Mem.zero : Mem := ⟨[], []⟩

/-- A fixed-latency result in flight, in the shape of a pending entry (R157, R302). -/
structure Flight where
  /-- FILE code of R302 -/
  file : Nat
  num : Nat
  shape : Nat
  field : Nat
  byteEn : BitVec 16
  /-- 0 none, 1 DZ, 2 DOV, 3 MODR (R302) -/
  cond : Nat
  /-- SLOT code of R143 of the operation -/
  slot : Nat
  /-- address of its bundle -/
  pc : Word
  /-- issue cycle of the commit point -/
  commit : Nat
  v0 : TD
  v1 : TD
  v2 : TD
  v3 : TD
  /-- false for an annulled or suppressed operation, which only counts for R156 and R158 -/
  live : Bool
  /-- 0 none, 1 counts in DECL, 2 counts in RCLR (R271) -/
  decl : Nat
  /-- sets ARITH.SATF at its commit point (R181) -/
  satf : Bool
  /-- sets ARITH.ACCOV at its commit point (R176) -/
  accov : Bool
  /-- the data address of a DMEM load -/
  dload : Option Word
  deriving DecidableEq, Repr

/-- The destination of a far access. -/
inductive FarDst where
  /-- a store -/
  | none
  /-- g register, with the load form -/
  | g (n : Nat) (f : LdF)
  /-- d or q register -/
  | dq (n : Nat) (long : Bool)
  /-- byte lanes of a VLDS destination: register, first byte, form -/
  | lane (n : Nat) (lo : Nat) (long : Bool)
  deriving DecidableEq, Repr

/-- One far access outstanding (R161). -/
structure Far where
  addr : Word
  size : Nat
  wr : Bool
  dst : FarDst
  lo : TD
  hi : TD
  /-- made at Keeper level / Supervisor level or above -/
  pl : Nat
  pc : Word
  slot : Nat
  /-- CCLK of its issue -/
  at_ : Nat
  /-- part of a locked sequence (R358) -/
  locked : Bool
  /-- the FCLK of the CMEM arbitration phase that granted it (R351, R352) -/
  granted : Option Nat
  /-- its CMEM bank cycle is over: a store is in memory, a load holds what it read in lo and hi -/
  perf : Bool
  /-- an element of the resumable operation, which holds the resumable entry (R224) -/
  elem : Bool
  deriving DecidableEq, Repr

/-- A key slot k0–k15 (R235). -/
structure KeySlot where
  /-- 0 EMPTY, 1 LOADING, 2 READY, 3 FRAME -/
  st : Nat
  key : BitVec 256
  h : Quad
  ivb : BitVec 96
  dir : Bool
  ctr : Word
  iv : BitVec 96
  tmask : Quad
  acc : Quad
  accR : Bool
  idx : Nat
  loaderr : Nat
  /-- CCLK at which the operations issued on the slot have finished with it (R240) -/
  busy : Nat
  /-- CCLK of the last VCTR INIT, plus one; 0 none (R250) -/
  initAt : Nat
  deriving DecidableEq, Repr

/-- An empty key slot. [Marks: DESIGN CHOICE (log entry 4)] -/
def KeySlot.empty : KeySlot := ⟨0, 0, 0, 0, false, 0, 0, 0, 0, false, 0, 0, 0, 0⟩

/-- A KLOAD outstanding (R239). -/
structure KLoad where
  ks : Nat
  idx : Nat
  keeper : Bool
  at_ : Nat
  deriving DecidableEq, Repr

/-- A KEXPORT outstanding (R241). -/
structure KExp where
  secret : BitVec 256
  handle : Word
  at_ : Nat
  deriving DecidableEq, Repr

/-- A VLDS or VSTS in progress (R223, R224). -/
structure VRun where
  o : VM
  store : Bool
  base : Word
  stride : Word
  /-- lanes selected, by R213 -/
  sel : BitVec 16
  /-- element count of the register -/
  lanes : Nat
  src0 : TD
  src1 : TD
  pc : Word
  pl : Nat
  /-- next lane to access -/
  next : Nat
  /-- the bundle's S0 operation set up a shadow, which follows the bundle (R205) -/
  made : Bool
  /-- SLOT codes of the bundle's other slots, for SLOT_DONE -/
  others : List Nat
  /-- CCLK from which the next bundle may issue, as far as the elements accessed in DMEM require (R224) -/
  last : Nat
  /-- what follows the bundle -/
  succ : Word
  deriving DecidableEq, Repr

/-- An entry of the branch target buffer (R196). -/
structure Btb where
  ctx : Nat
  tag : Nat
  target : Nat
  ctr : Nat
  valid : Bool
  deriving DecidableEq, Repr

/-- The invalid entry. -/
def Btb.none : Btb := ⟨0, 0, 0, 0, false⟩

/-- A frame descriptor in a core's queue (R99), with its arrival word, INIT_DONE and last progress. -/
structure Desc where
  w0 : Word
  w1 : Word
  w2 : Word
  w3 : Word
  arrived : Word
  initDone : Bool
  cells : Nat
  /-- the frame's number in the frame table -/
  fid : Nat
  deriving DecidableEq, Repr

/-- An interrupt on a core's running-priority stack (R321). -/
structure StackEnt where
  id : Nat
  pri : Nat
  occ : Nat
  deriving DecidableEq, Repr

/-- A sleep in progress (R477). -/
structure Sleep where
  depth : Nat
  /-- the request cycle s -/
  at_ : Nat
  deriving DecidableEq, Repr

/-- An exception entry that waits for outstanding far accesses (R304). -/
structure Entry where
  /-- the CCLK of acceptance -/
  at_ : Nat
  /-- the largest REMAIN -/
  k : Nat
  /-- CCLK added after max(F, K) -/
  extra : Nat
  deriving DecidableEq, Repr

/-- The locked CMEM sequence of a core (R358, R367). -/
structure Lock where
  active : Bool
  broken : Bool
  /-- banks held, highest first -/
  held : List Nat
  high : Nat
  beats : Nat
  /-- FCLK of the first acquisition, plus one; 0 none -/
  first : Nat
  /-- END has been written and the sequence's accesses are not yet performed -/
  ending : Bool
  /-- the sequence ran past 64 FCLK: the next locked access raises cause 10 (R359) -/
  timedOut : Bool
  deriving DecidableEq, Repr

/-- No locked sequence. -/
def Lock.none : Lock := ⟨false, false, [], 0, 0, 0, false, false⟩

/-- One Lidrik core. -/
structure Core where
  /-- released from reset and powered -/
  run : Bool
  pc : Word
  /-- delay or set-up slots still to issue (R205) -/
  shLeft : Nat
  shAnnul : Bool
  shNext : Word
  /-- a redirect event follows the shadow (R193) -/
  shRedir : Bool
  /-- issue cycles so far: the issue cycle of the next bundle (R142) -/
  issueCyc : Nat
  /-- the first CCLK in which a bundle may issue -/
  ready : Nat
  /-- CCLK of the last reset (R154) -/
  rstAt : Nat
  g : SMap TW
  a : SMap TW
  o : SMap TW
  m : SMap TW
  acc : SMap (Tagged AccW)
  /-- halves: 2n the low half of qn, 2n + 1 the high half -/
  q : SMap TD
  p : SMap (Tagged (BitVec 16))
  lc : SMap TW
  ls : SMap TW
  le : SMap TW
  /-- control registers by number (R152, R556), those that hold a value of their own -/
  cr : SMap TW
  issueCnt : DWord
  stallCnt : DWord
  redirCnt : DWord
  declCnt : DWord
  rclrCnt : DWord
  /-- the LO control register read last and the HI word it captured (R154) -/
  crCap : Option (Nat × Word)
  btb : SMap Btb
  btbKey : SMap (BitVec 8)
  /-- CTX, BAR and key of the previous issue cycle and of the one before (R198) -/
  hist1 : Nat × Bool × Nat
  hist2 : Nat × Bool × Nat
  /-- a PFLUSH to act at the end of the given issue cycle -/
  flushAt : Option Nat
  /-- KRGN_s_n at 4s + n (R314) -/
  krgn : SMap Word
  keeperLimit : Word
  /-- CCLK of the last Keeper entry (R295) -/
  keeperAt : Nat
  /-- the active image slot: false A, true B -/
  slotB : Bool
  slots : SMap KeySlot
  kloads : List KLoad
  kexp : List KExp
  flight : List Flight
  far : List Far
  vrun : Option VRun
  /-- issue cycle from which another divide, or another VCTR or VECB, may issue (R155) -/
  divFree : Nat
  vctrFree : Nat
  /-- per level: issue cycle of the last LOOP, LOOPI or LCLR on it, plus one (R204) -/
  loopChg : SMap Nat
  /-- per level: 1 while the first loop-end test after its own LOOP or LOOPI is to come -/
  loopFresh : SMap Nat
  /-- ARITH enables before the last MTC, and that MTC's commit point (R186) -/
  arithOld : Word
  arithChg : Nat
  /-- an uncorrectable data error due at the next boundary: SUB and FADDR (R297) -/
  imp13 : Option (Nat × Word)
  /-- a far access error due at the next boundary: FADDR -/
  imp15 : Option Word
  /-- an arithmetic exception due at the next boundary: bundle address and slot -/
  imp7 : Option (Word × Nat)
  /-- a SYSCALL, or a KCALL, entry to make at the next boundary: CODE, SUB and gate address -/
  callPend : Option (Nat × Nat × Word)
  /-- a Lens halt request that is not accepted yet (R295) -/
  haltReq : Bool
  /-- REPLAY in progress: slot codes to suppress in the next bundle (R306) -/
  replay : Option (List Nat)
  sleep : Option Sleep
  entry : Option Entry
  lock : Lock
  imem : SMap Byte
  dmem : Mem
  /-- owner of each DMEM bank: 0 CORE, 1 DMA, 2 LOADER (R346) -/
  dbOwn : SMap Nat
  /-- handovers in progress and waiting, for each bank: new owners in order (R348) -/
  dbBusy : SMap (List Nat)
  fnext : List Desc
  popped : List Desc
  /-- words 1 to 3 captured by the last FRM_NEXT pop -/
  nextCap : List Word
  /-- the running-priority stack, top first (R321) -/
  stack : List StackEnt
  /-- CAUSE.SUB of the next start at vector 0 (R297, R439) -/
  resetSub : Nat
  /-- RCLR_EN as the core sees it before the CCLK named, and that CCLK (R285) -/
  rclrOld : Bool
  rclrFrom : Nat
  deriving DecidableEq, Repr

/-- The control registers after any core reset: STATUS with PL 1 and EXL 1, VL 16, VTYPE LONG 1 (R230, R231, R310). -/
def crReset : SMap TW := [(0, ⟨0x401, .clean⟩), (7, ⟨16, .clean⟩), (32, ⟨4, .clean⟩)]

/-- A core held in reset. [Marks: DESIGN CHOICE (log entry 4)] -/
def Core.reset : Core where
  run := false
  pc := 0
  shLeft := 0
  shAnnul := false
  shNext := 0
  shRedir := false
  issueCyc := 0
  ready := 0
  rstAt := 0
  g := []
  a := []
  o := []
  m := []
  acc := []
  q := []
  p := []
  lc := []
  ls := []
  le := []
  cr := crReset
  issueCnt := 0
  stallCnt := 0
  redirCnt := 0
  declCnt := 0
  rclrCnt := 0
  crCap := none
  btb := []
  btbKey := []
  hist1 := (0, false, 0)
  hist2 := (0, false, 0)
  flushAt := none
  krgn := []
  keeperLimit := 0x100000
  keeperAt := 0
  slotB := false
  slots := []
  kloads := []
  kexp := []
  flight := []
  far := []
  vrun := none
  divFree := 0
  vctrFree := 0
  loopChg := []
  loopFresh := []
  arithOld := 0
  arithChg := 0
  imp13 := none
  imp15 := none
  imp7 := none
  callPend := none
  haltReq := false
  replay := none
  sleep := none
  entry := none
  lock := Lock.none
  imem := []
  dmem := Mem.zero
  dbOwn := [(0, 2), (1, 2), (2, 2), (3, 2), (4, 2), (5, 2), (6, 2), (7, 2)]
  dbBusy := []
  fnext := []
  popped := []
  nextCap := []
  stack := []
  resetSub := 0
  rclrOld := false
  rclrFrom := 0

end Sys2Proof.Machine
end

