-- ==== Sys2Proof/Machine/Operands.lean ====
section
/-! DEFINITION. Reading and writing a core's registers and memories, effective addresses and address updates. -/

namespace Sys2Proof.Machine

/-- g registers: g0 reads zero, untinted (R149). -/
def Core.rdG (c : Core) (n : Nat) : TW := if n = 0 then tw0 else c.g.get tw0 n
/-- A write of g0 is discarded (R149). -/
def Core.wrG (c : Core) (n : Nat) (v : TW) : Core := if n = 0 then c else { c with g := c.g.set tw0 n v }
def Core.rdA (c : Core) (n : Nat) : TW := c.a.get tw0 n
def Core.wrA (c : Core) (n : Nat) (v : TW) : Core := { c with a := c.a.set tw0 n v }
def Core.rdO (c : Core) (n : Nat) : TW := c.o.get tw0 n
def Core.wrO (c : Core) (n : Nat) (v : TW) : Core := { c with o := c.o.set tw0 n v }
def Core.rdM (c : Core) (n : Nat) : TW := c.m.get tw0 n
def Core.wrM (c : Core) (n : Nat) (v : TW) : Core := { c with m := c.m.set tw0 n v }
/-- An accumulator at reset (R151). -/
abbrev acc0 : Tagged AccW := ⟨0, .clean⟩
def Core.rdAcc (c : Core) (n : Nat) : Tagged AccW := c.acc.get acc0 n
def Core.wrAcc (c : Core) (n : Nat) (v : Tagged AccW) : Core := { c with acc := c.acc.set acc0 n v }
/-- A predicate at reset (R151). -/
abbrev p0 : Tagged (BitVec 16) := ⟨0, .clean⟩
def Core.rdP (c : Core) (n : Nat) : Tagged (BitVec 16) := c.p.get p0 n
def Core.wrP (c : Core) (n : Nat) (v : Tagged (BitVec 16)) : Core := { c with p := c.p.set p0 n v }
/-- The low half of qn, which is dn (R149). -/
def Core.rdLo (c : Core) (n : Nat) : TD := c.q.get td0 (2 * n)
/-- The high half of qn. -/
def Core.rdHi (c : Core) (n : Nat) : TD := c.q.get td0 (2 * n + 1)
def Core.wrLo (c : Core) (n : Nat) (v : TD) : Core := { c with q := c.q.set td0 (2 * n) v }
def Core.wrHi (c : Core) (n : Nat) (v : TD) : Core := { c with q := c.q.set td0 (2 * n + 1) v }
/-- The 128-bit value of qn. -/
def Core.rdQ (c : Core) (n : Nat) : Nat := (c.rdLo n).v.toNat + 2 ^ 64 * (c.rdHi n).v.toNat
/-- A stored control register (R152). -/
def Core.rdCr (c : Core) (n : Nat) : TW := c.cr.get tw0 n
def Core.wrCr (c : Core) (n : Nat) (v : TW) : Core := { c with cr := c.cr.set tw0 n v }
/-- Write a control register untinted. -/
def Core.wrCr0 (c : Core) (n : Nat) (v : Word) : Core := c.wrCr n ⟨v, .clean⟩
def Core.slot (c : Core) (k : Nat) : KeySlot := c.slots.get KeySlot.empty k
def Core.setSlot (c : Core) (k : Nat) (v : KeySlot) : Core := { c with slots := c.slots.set KeySlot.empty k v }

/-- STATUS.PL (R288, R310). -/
def Core.pl (c : Core) : Nat := (c.rdCr 0).v.toNat % 4
/-- STATUS.GIE. -/
def Core.gie (c : Core) : Bool := bitN (c.rdCr 0).v.toNat 8
/-- STATUS.PRECISE. -/
def Core.precise (c : Core) : Bool := bitN (c.rdCr 0).v.toNat 9
/-- STATUS.EXL. -/
def Core.exl (c : Core) : Bool := bitN (c.rdCr 0).v.toNat 10
/-- STATUS.DFL. -/
def Core.dfl (c : Core) : Bool := bitN (c.rdCr 0).v.toNat 11
/-- VL.LEN (R230). -/
def Core.vlen (c : Core) : Nat := (c.rdCr 7).v.toNat % 32
/-- VEI.ELEM (R232). -/
def Core.velem (c : Core) : Nat := (c.rdCr 8).v.toNat % 16
/-- Owner of DMEM bank b: 0 CORE, 1 DMA, 2 LOADER (R346). -/
def Core.owner (c : Core) (b : Nat) : Nat := c.dbOwn.get 0 b
/-- A handover of bank b is in progress (R348, R368). -/
def Core.bankBusy (c : Core) (b : Nat) : Bool := !(c.dbBusy.get [] b).isEmpty
/-- The core may access DMEM bank b: it owns it and no handover has begun (R346, R348). -/
def Core.ownsBank (c : Core) (b : Nat) : Bool := c.owner b == 0 && !c.bankBusy b

/-- The canonical form of a memory: its bytes and its tints are canonical maps, so equal contents are equal data. -/
def Mem.wf (m : Mem) : Bool := SMap.wf 0 m.b && SMap.wf Tint.clean m.t

/-- The tint of the 64-bit word that holds a byte address. [Marks: DESIGN CHOICE (log entry 3)] -/
def Mem.tint (m : Mem) (addr : Nat) : Tint := m.t.get .clean (addr / 8)
/-- `n` bytes from a byte address. -/
def Mem.bytes (m : Mem) (addr n : Nat) : List Byte := m.b.getRange 0 addr n
/-- The little-endian value of `n` bytes (R8). -/
def Mem.val (m : Mem) (addr n : Nat) : Nat := leNat (m.bytes addr n)
/-- A 64-bit word with its tint. -/
def Mem.word (m : Mem) (addr : Nat) : TD := ⟨BitVec.ofNat 64 (m.val addr 8), m.tint addr⟩
/-- Set the tint of the word that holds a byte address. -/
def Mem.setTint (m : Mem) (addr : Nat) (t : Tint) : Mem := { m with t := m.t.set .clean (addr / 8) t }
/-- A store of at most 8 bytes within one 64-bit word: a whole word takes the tint, a part merges it (R266, R267). -/
def Mem.store (m : Mem) (addr : Nat) (bs : List Byte) (t : Tint) : Mem :=
  { b := m.b.setRange 0 addr bs
    t := m.t.set .clean (addr / 8) (if bs.length = 8 then t else t.or (m.tint addr)) }
/-- A store of any length, split at 64-bit words, every word taking the same tint. -/
def Mem.storeWords (m : Mem) (addr : Nat) (bs : List Byte) (t : Tint) : Nat → Mem
  | 0 => m
  | n + 1 =>
    if bs.isEmpty then m
    else
      let k := 8 - addr % 8
      Mem.storeWords (m.store addr (bs.take k) t) (addr + k) (bs.drop k) t n
/-- A store of any length with one tint (R267). -/
def Mem.storeAll (m : Mem) (addr : Nat) (bs : List Byte) (t : Tint) : Mem := m.storeWords addr bs t (bs.length + 1)
/-- The OR of the tints of the words that `n` bytes from `addr` touch. -/
def Mem.tintOf (m : Mem) (addr n : Nat) : Tint :=
  (Sys2Proof.range (addr / 8) ((addr + n + 7) / 8 - addr / 8)).foldl (fun t w => t.or (m.t.get .clean w)) .clean
/-- Zero, untinted, over a range of bytes. -/
def Mem.clearRange (m : Mem) (addr n : Nat) : Mem :=
  { b := m.b.filter (fun e => decide (e.1 < addr || addr + n ≤ e.1))
    t := m.t.filter (fun e => decide (e.1 < addr / 8 || (addr + n) / 8 ≤ e.1)) }
/-- Every word whose tint is not {0, 0} becomes zero, untinted (R273). -/
def Mem.zeroTinted (m : Mem) : Mem :=
  { b := m.b.filter (fun e => m.t.get .clean (e.1 / 8) == .clean), t := [] }

/-- The DMEM base in the core map (R554). -/
def dmemBase : Nat := 0x100000
/-- The DMEM bank of a core address (R346). -/
def dmemBank (ea : Nat) : Nat := (ea - dmemBase) / 0x4000 % 8

/-- The regions of the core memory map (R554). -/
inductive Region where
  | imem | dmem | cmem | clreg | cctl | devw | vault | none
  deriving DecidableEq, Repr

/-- The region of a core address. -/
def region (ea : Nat) : Region :=
  if ea < 0x20000 then .imem
  else if dmemBase ≤ ea ∧ ea < dmemBase + 0x20000 then .dmem
  else if 0x1000000 ≤ ea ∧ ea < 0x1400000 then .cmem
  else if 0x8000000 ≤ ea ∧ ea < 0x8040000 then .clreg
  else if 0x9000000 ≤ ea ∧ ea < 0x9001000 then .cctl
  else if 0xA000000 ≤ ea ∧ ea < 0xB000000 then .devw
  else if 0xC000000 ≤ ea ∧ ea < 0xC008000 then .vault
  else .none

/-- Whether IMEM slot-relative line `line` of slot `s` lies in an enabled Keeper region (R291). -/
def Core.inKeeper (c : Core) (addr : Nat) : Bool :=
  let s := if addr < 0x10000 then 0 else 1
  let line := addr % 0x10000 / 64
  decide (s = b2n c.slotB) && (Sys2Proof.range 0 4).any (fun n =>
    let w := (c.krgn.get 0 (4 * s + n)).toNat
    bitN w 31 && decide (bits w 30 21 ≤ line) && decide (line ≤ bits w 30 21 + bits w 20 11))

/-- FRM_NEXT, FRM_ARRIVED, FRM_PROGRESS and FRM_DONE, the control window that User may reach (R290). -/
def userWindow (ea : Nat) : Bool :=
  decide (0x9000200 ≤ ea ∧ ea < 0x9000214) || decide (0x9000218 ≤ ea ∧ ea < 0x900021C)
    || decide (0x9000220 ≤ ea ∧ ea < 0x9000228)

/-- The words of the control window that hold WDN fields: BTB_KEY, KRGN and KEEPER_LIMIT (R17, R210, R314). -/
def wdnWindow (ea : Nat) : Bool :=
  decide (0x9000300 ≤ ea ∧ ea < 0x9000364)

/-- An access of `size` bytes at `ea` is permitted at level `pl` (R172, R290, R579, R554). -/
def Core.mayAccess (c : Core) (pl ea size : Nat) (wr : Bool) : Bool :=
  let last := ea + size - 1
  region ea == region last &&
  match region ea with
  | .none => false
  | .imem => !wr && (pl == 2 || (pl == 1 && !c.inKeeper ea))
  | .dmem => c.ownsBank (dmemBank ea) && (pl != 0 || bitN (c.rdCr 43).v.toNat (dmemBank ea))
  | .cmem => true
  | .clreg => pl != 0 && decide (4 ≤ size)
  | .cctl => decide (4 ≤ size) && (if pl == 0 then userWindow ea && userWindow last else !wdnWindow ea && !wdnWindow last)
  | .devw => pl != 0 && !wr && decide (4 ≤ size) && decide (last < 0xAC00000)
      && !decide (0xA000010 ≤ last ∧ ea < 0xA000014)
  | .vault => pl == 2

/-- The bits [hi:lo] of a number taken in reverse order, `w` bits. -/
def revBits : Nat → Nat → Nat
  | 0, _ => 0
  | w + 1, v => (v % 2) * 2 ^ w + revBits w (v / 2)

/-- The smallest power of two at least `n`, from 1, within 32 doublings. -/
def pow2ge (n : Nat) : Nat := nth 0 (((List.range 33).map (fun i => 2 ^ i)).filter (fun p => decide (n ≤ p))) 0

/-- The base-2 logarithm of a power of two. -/
def log2p (n : Nat) : Nat := n.log2

/-- The circular update of R175, or none where its conditions fail. -/
def circNext (ab o len size : Nat) : Option Nat :=
  let sp := pow2ge len
  let base := ab - ab % sp
  let oi : Int := if o < 2 ^ 31 then (o : Int) else (o : Int) - 2 ^ 32
  if 0 < len ∧ len ≤ 0x100000 ∧ len % size = 0 ∧ oi.natAbs ≤ len ∧ ab - base < len then
    let na : Int := (ab : Int) + oi
    let na := if (base : Int) + len ≤ na then na - len else if na < base then na + len else na
    some (na.toNat % 2 ^ 32)
  else none

/-- The bit-reversed update of R175, or none where its conditions fail. -/
def brevNext (ab o len size : Nat) : Option Nat :=
  if len = 2 ^ log2p len ∧ 2 * size ≤ len ∧ len ≤ 0x100000 then
    let w := log2p len
    let z := log2p size
    let n := w - z
    let f := revBits n ((revBits n (ab / 2 ^ z % 2 ^ n) + revBits n (o / 2 ^ z % 2 ^ n)) % 2 ^ n)
    some (ab / 2 ^ w * 2 ^ w + f * 2 ^ z + ab % 2 ^ z)
  else none

/-- The effective address of a memory operand (R172). -/
def Core.ea (c : Core) (m : MemOp) : Word :=
  match m.mode with
  | .base off => (c.rdA m.ab.toNat).v + off
  | _ => (c.rdA m.ab.toNat).v

/-- The updated address register of a post-modify mode with its tint: none for MODE 0, some none where R175 fails. -/
def Core.amod (c : Core) (m : MemOp) (size : Nat) : Option (Option TW) :=
  let ab := c.rdA m.ab.toNat
  match m.mode with
  | .base _ => none
  | .post o =>
    let o := c.rdO o.toNat
    some (some ⟨ab.v + o.v, ab.t.or o.t⟩)
  | .circ o l =>
    let o := c.rdO o.toNat
    let l := c.rdM l.toNat
    some ((circNext ab.v.toNat o.v.toNat l.v.toNat size).map
      (fun n => ⟨BitVec.ofNat 32 n, (ab.t.or o.t).or l.t⟩))
  | .brev o l =>
    let o := c.rdO o.toNat
    let l := c.rdM l.toNat
    some ((brevNext ab.v.toNat o.v.toNat l.v.toNat size).map
      (fun n => ⟨BitVec.ofNat 32 n, (ab.t.or o.t).or l.t⟩))

/-- The access size of a load (R171). -/
def ldSize : LdF → Nat
  | .b => 1 | .bu => 1 | .h => 2 | .hu => 2 | .w => 4 | .d => 8 | .q => 16
/-- The access size of a store (R171). -/
def stSize : StF → Nat
  | .b => 1 | .h => 2 | .w => 4 | .d => 8 | .q => 16

/-- A loaded value extended to 32 bits as the load form says (R171). -/
def ldExtend (f : LdF) (v : Nat) : Word :=
  match f with
  | .b => (BitVec.ofNat 8 v).signExtend 32
  | .h => (BitVec.ofNat 16 v).signExtend 32
  | .bu => (BitVec.ofNat 8 v).zeroExtend 32
  | .hu => (BitVec.ofNat 16 v).zeroExtend 32
  | _ => BitVec.ofNat 32 v

/-- One half of a vector register after a write of the bytes in `en` (R159, R266): a whole half takes value and tint,
a part merges both, no byte leaves it. -/
def mergeHalf (old : TD) (en : Nat) (new : TD) : TD :=
  if en % 256 = 255 then new
  else if en % 256 = 0 then old
  else
    let mask := (List.range 8).foldl (fun (m : Nat) i => if bitN en i then m + 255 * 2 ^ (8 * i) else m) 0
    ⟨(old.v &&& ~~~ BitVec.ofNat 64 mask) ||| (new.v &&& BitVec.ofNat 64 mask), old.t.or new.t⟩

/-- Write the enabled bytes of a q register (R159). -/
def Core.wrQen (c : Core) (n en : Nat) (lo hi : TD) : Core :=
  (c.wrLo n (mergeHalf (c.rdLo n) (en % 256) lo)).wrHi n (mergeHalf (c.rdHi n) (en / 256 % 256) hi)

/-- Write the enabled bytes of a d register and clear the upper half (R150). -/
def Core.wrDen (c : Core) (n en : Nat) (lo : TD) : Core :=
  (c.wrLo n (mergeHalf (c.rdLo n) (en % 256) lo)).wrHi n td0

/-- A tagged doubleword of a tagged word. -/
def TD.ofW (w : TW) : TD := ⟨w.v.zeroExtend 64, w.t⟩
/-- The low word of a tagged doubleword. -/
def TD.toW (d : TD) : TW := ⟨d.v.truncate 32, d.t⟩

/-- Enter a result in its register (R157, R159, R302). -/
def Flight.apply (f : Flight) (c : Core) : Core :=
  match f.file with
  | 0 =>
    let c := c.wrG f.num f.v0.toW
    if f.shape = 1 then c.wrG (f.num + 1) f.v1.toW else c
  | 1 => c.wrA f.num f.v0.toW
  | 2 => c.wrO f.num f.v0.toW
  | 3 => c.wrM f.num f.v0.toW
  | 4 =>
    let old := c.rdAcc f.num
    if f.shape = 2 then
      let n := old.v.toNat
      let v := f.v0.v.toNat
      let nv := match f.field with
        | 1 => n - n % 2 ^ 32 + v % 2 ^ 32
        | 2 => n - bits n 63 32 * 2 ^ 32 + v % 2 ^ 32 * 2 ^ 32
        | _ => n % 2 ^ 64 + v % 2 ^ 16 * 2 ^ 64
      c.wrAcc f.num ⟨BitVec.ofNat 80 nv, old.t.or f.v0.t⟩
    else c.wrAcc f.num ⟨BitVec.ofNat 80 (f.v0.v.toNat + f.v1.v.toNat % 2 ^ 16 * 2 ^ 64), f.v0.t⟩
  | 5 => c.wrDen f.num f.byteEn.toNat f.v0
  | 6 =>
    let c := c.wrQen f.num f.byteEn.toNat f.v0 f.v1
    if f.shape = 1 then c.wrQen (f.num + 1) f.byteEn.toNat f.v2 f.v3 else c
  | _ => c.wrP f.num ⟨f.v0.v.truncate 16, f.v0.t⟩

/-- The registers a result writes, as (file, number) with d and q names of one register alike (R158). -/
def Flight.regs (f : Flight) : List (Nat × Nat) :=
  let file := if f.file = 5 then 6 else f.file
  if f.shape = 1 then [(file, f.num), (file, f.num + 1)] else [(file, f.num)]

/-- A result with nothing in it, the base of every constructor below. -/
def Flight.base (slot : Nat) (pc : Word) (commit : Nat) : Flight :=
  ⟨0, 0, 0, 0, 0xFFFF, 0, slot, pc, commit, td0, td0, td0, td0, true, 0, false, false, none⟩

end Sys2Proof.Machine
end

