-- ==== Sys2Proof/Machine/Crypto.lean ====
section
/-! DEFINITION. The standard functions the spec names: CRC-32C (R576), the Ethernet FCS (R21), AES-256 (FIPS 197),
GHASH (SP 800-38D), AES key wrap (SP 800-38F) and SHA3-512 (FIPS 202), over bytes and natural numbers. -/

namespace Sys2Proof

/-- One bit step of a reflected CRC with reflected polynomial `poly`. -/
def crcBit (poly r : Nat) : Nat := if r % 2 = 1 then (r / 2) ^^^ poly else r / 2

/-- `n` bit steps. -/
def crcBits (poly : Nat) : Nat → Nat → Nat
  | 0, r => r
  | n + 1, r => crcBits poly n (crcBit poly r)

/-- The remainder after a byte string. -/
def crcBytes (poly : Nat) (r : Nat) (bs : List Byte) : Nat :=
  bs.foldl (fun r b => crcBits poly 8 (r ^^^ b.toNat)) r

/-- The CRC-32C of a byte string (R576). -/
def crc32c (bs : List Byte) : Nat := 0xFFFFFFFF ^^^ crcBytes 0x82F63B78 0xFFFFFFFF bs

/-- The CRC-32 of IEEE 802.3, the frame check sequence (R48, R53, R258). -/
def crc32 (bs : List Byte) : Nat := 0xFFFFFFFF ^^^ crcBytes 0xEDB88320 0xFFFFFFFF bs

/-- One row of the AES S-box. -/
def sboxRow : Nat → List Nat
  | 0 => [99, 124, 119, 123, 242, 107, 111, 197, 48, 1, 103, 43, 254, 215, 171, 118]
  | 1 => [202, 130, 201, 125, 250, 89, 71, 240, 173, 212, 162, 175, 156, 164, 114, 192]
  | 2 => [183, 253, 147, 38, 54, 63, 247, 204, 52, 165, 229, 241, 113, 216, 49, 21]
  | 3 => [4, 199, 35, 195, 24, 150, 5, 154, 7, 18, 128, 226, 235, 39, 178, 117]
  | 4 => [9, 131, 44, 26, 27, 110, 90, 160, 82, 59, 214, 179, 41, 227, 47, 132]
  | 5 => [83, 209, 0, 237, 32, 252, 177, 91, 106, 203, 190, 57, 74, 76, 88, 207]
  | 6 => [208, 239, 170, 251, 67, 77, 51, 133, 69, 249, 2, 127, 80, 60, 159, 168]
  | 7 => [81, 163, 64, 143, 146, 157, 56, 245, 188, 182, 218, 33, 16, 255, 243, 210]
  | 8 => [205, 12, 19, 236, 95, 151, 68, 23, 196, 167, 126, 61, 100, 93, 25, 115]
  | 9 => [96, 129, 79, 220, 34, 42, 144, 136, 70, 238, 184, 20, 222, 94, 11, 219]
  | 10 => [224, 50, 58, 10, 73, 6, 36, 92, 194, 211, 172, 98, 145, 149, 228, 121]
  | 11 => [231, 200, 55, 109, 141, 213, 78, 169, 108, 86, 244, 234, 101, 122, 174, 8]
  | 12 => [186, 120, 37, 46, 28, 166, 180, 198, 232, 221, 116, 31, 75, 189, 139, 138]
  | 13 => [112, 62, 181, 102, 72, 3, 246, 14, 97, 53, 87, 185, 134, 193, 29, 158]
  | 14 => [225, 248, 152, 17, 105, 217, 142, 148, 155, 30, 135, 233, 206, 85, 40, 223]
  | _ => [140, 161, 137, 13, 191, 230, 66, 104, 65, 153, 45, 15, 176, 84, 187, 22]

/-- The AES S-box. -/
def sbox (x : Nat) : Nat := nth 0 (sboxRow (x / 16)) (x % 16)

/-- Multiplication by x in GF(2^8). -/
def xtime (a : Nat) : Nat := if 128 ≤ a then (2 * a - 256) ^^^ 0x1B else 2 * a

/-- SubWord of FIPS 197, a word being four bytes. -/
def subWord (w : List Nat) : List Nat := w.map sbox

/-- Bytewise exclusive or. -/
def xorL (a b : List Nat) : List Nat := List.zipWith (· ^^^ ·) a b

/-- The key schedule of AES-256: `n` more words after the words `ws` (latest first). -/
def aesExpand : Nat → Nat → Nat → List (List Nat) → List (List Nat)
  | 0, _, _, ws => ws
  | n + 1, i, rc, ws =>
    let prev := nth [] ws 0
    let back := nth [] ws 7
    if i % 8 = 0 then
      let t := subWord (prev.drop 1 ++ prev.take 1)
      let t := xorL t [rc, 0, 0, 0]
      aesExpand n (i + 1) (xtime rc) (xorL back t :: ws)
    else if i % 8 = 4 then aesExpand n (i + 1) rc (xorL back (subWord prev) :: ws)
    else aesExpand n (i + 1) rc (xorL back prev :: ws)

/-- A list cut into pieces of `k`, `n` pieces. -/
def chunks {α : Type} (k : Nat) : Nat → List α → List (List α)
  | 0, _ => []
  | n + 1, l => l.take k :: chunks k n (l.drop k)

/-- The fifteen 16-byte round keys of a 32-byte key. -/
def aesRoundKeys (key : List Nat) : List (List Nat) :=
  let ws := aesExpand 52 8 1 (chunks 4 8 key).reverse
  chunks 16 15 ws.reverse.flatten

/-- ShiftRows on 16 bytes in column order. -/
def shiftRows (s : List Nat) : List Nat :=
  [0, 5, 10, 15, 4, 9, 14, 3, 8, 13, 2, 7, 12, 1, 6, 11].map (nth 0 s)

/-- InvShiftRows. -/
def invShiftRows (s : List Nat) : List Nat :=
  [0, 13, 10, 7, 4, 1, 14, 11, 8, 5, 2, 15, 12, 9, 6, 3].map (nth 0 s)

/-- MixColumns on one column. -/
def mixCol : List Nat → List Nat
  | [a, b, c, d] =>
    let t := a ^^^ b ^^^ c ^^^ d
    [a ^^^ t ^^^ xtime (a ^^^ b), b ^^^ t ^^^ xtime (b ^^^ c), c ^^^ t ^^^ xtime (c ^^^ d), d ^^^ t ^^^ xtime (d ^^^ a)]
  | l => l

/-- InvMixColumns on one column: MixColumns applied three times. -/
def invMixCol (c : List Nat) : List Nat := mixCol (mixCol (mixCol c))

/-- The rounds of the cipher over the remaining round keys. -/
def aesRounds : List (List Nat) → List Nat → List Nat
  | [], s => s
  | [k], s => xorL (shiftRows (s.map sbox)) k
  | k :: ks, s =>
    aesRounds ks (xorL ((chunks 4 4 (shiftRows (s.map sbox))).map mixCol).flatten k)

/-- AES-256 encryption of a 16-byte block under a 32-byte key (R237). -/
def aesEnc (key block : List Nat) : List Nat :=
  match aesRoundKeys key with
  | [] => block
  | k0 :: ks => aesRounds ks (xorL block k0)

/-- The inverse S-box: the index at which the S-box holds the value. -/
def invSbox (y : Nat) : Nat := ((List.range 256).find? (fun x => sbox x == y)).getD 0

/-- The inverse rounds over the remaining round keys, last round key first. -/
def aesInvRounds : List (List Nat) → List Nat → List Nat
  | [], s => s
  | [k], s => xorL s k
  | k :: ks, s =>
    let t := xorL s k
    let t := if ks.length = 14 then t else ((chunks 4 4 t).map invMixCol).flatten
    aesInvRounds ks ((invShiftRows t).map invSbox)

/-- AES-256 decryption of one block. -/
def aesDec (key block : List Nat) : List Nat := aesInvRounds (aesRoundKeys key).reverse block

/-- The 16 bytes of a quadword, block byte j from bits [8j + 7 : 8j] (R237). -/
def quadBytes (q : Nat) : List Nat := (toLE 16 q).map BitVec.toNat

/-- The number with given bytes, byte 0 least significant. -/
def leOfNats : List Nat → Nat
  | [] => 0
  | b :: bs => b + 256 * leOfNats bs

/-- The number with given bytes, byte 0 most significant. -/
def beOfNats (bs : List Nat) : Nat := bs.foldl (fun a b => a * 256 + b) 0

/-- AES-256 on a quadword in the register byte order of R237. -/
def aesQuad (key : List Nat) (q : Nat) : Nat := leOfNats (aesEnc key (quadBytes q))

/-- One step of the GF(2^128) product of SP 800-38D: `z` the sum, `v` the shifted operand. -/
def gfStep (x : Nat) (i : Nat) (zv : Nat × Nat) : Nat × Nat :=
  let z := if x / 2 ^ (127 - i) % 2 = 1 then zv.1 ^^^ zv.2 else zv.1
  let v := if zv.2 % 2 = 1 then (zv.2 / 2) ^^^ (0xE1 * 2 ^ 120) else zv.2 / 2
  (z, v)

/-- `n` steps from bit `i`. -/
def gfSteps (x : Nat) : Nat → Nat → Nat × Nat → Nat × Nat
  | 0, _, zv => zv
  | n + 1, i, zv => gfSteps x n (i + 1) (gfStep x i zv)

/-- The product of two blocks as elements of GF(2^128), blocks as most-significant-byte-first numbers. -/
def gfMul (x y : Nat) : Nat := (gfSteps x 128 0 (0, y)).1

/-- A quadword with its bytes in the opposite order: register order to block order and back. -/
def swap16 (q : Nat) : Nat := beOfNats (quadBytes q)

/-- The GHASH product of two quadwords in register byte order (R247). -/
def ghashMul (x h : Nat) : Nat := swap16 (gfMul (swap16 x) (swap16 h))

/-- The carry-less product of two 64-bit values, bit by bit (R222). -/
def clmulStep (a b : Nat) : Nat → Nat
  | 0 => 0
  | n + 1 => clmulStep a b n ^^^ (if b / 2 ^ n % 2 = 1 then a * 2 ^ n else 0)

/-- The 128-bit carry-less product of two 64-bit halves. -/
def clmul (a b : Nat) : Nat := clmulStep a b 64

/-- One pass of AES key unwrap (SP 800-38F): `t` the step counter, the registers last first. -/
def kwPass (key : List Nat) : Nat → Nat → List Nat → List (List Nat) → List (List Nat) → List Nat × List (List Nat)
  | 0, _, a, _, done => (a, done)
  | _ + 1, _, a, [], done => (a, done)
  | n + 1, t, a, r :: rs, done =>
    let x := leOfNats (xorL a ((toBE 8 t).map BitVec.toNat))
    let d := aesDec key ((toLE 8 x).map BitVec.toNat ++ r)
    kwPass key n (t - 1) (d.take 8) rs (d.drop 8 :: done)

/-- The six passes of AES key unwrap on `n` 8-byte registers. -/
def kwPasses (key : List Nat) (n : Nat) : Nat → List Nat → List (List Nat) → List Nat × List (List Nat)
  | 0, a, rs => (a, rs)
  | j + 1, a, rs =>
    let res := kwPass key n (n * (j + 1)) a rs.reverse []
    kwPasses key n j res.1 res.2

/-- AES key unwrap of `n` 8-byte blocks after the 8-byte check value; none where the check value is wrong (R410). -/
def aesUnwrap (key ct : List Nat) (n : Nat) : Option (List Nat) :=
  let res := kwPasses key n 6 (ct.take 8) (chunks 8 n (ct.drop 8))
  if res.1 = List.replicate 8 0xA6 then some res.2.flatten else none

end Sys2Proof
end

