-- ==== Sys2Proof/Machine/Alu.lean ====
section
/-! DEFINITION. The values that the scalar, multiply and vector operations compute, as functions of their operands alone. -/

namespace Sys2Proof.Machine

/-- The two-operand scalar functions (R169). -/
def aluVal (f : AluF) (a b : Word) : Word :=
  let n := b.toNat % 32
  match f with
  | .add => a + b
  | .sub => a - b
  | .and => a &&& b
  | .or => a ||| b
  | .xor => a ^^^ b
  | .andn => a &&& ~~~ b
  | .shl => a <<< n
  | .shr => a >>> n
  | .sra => a.sshiftRight n
  | .rotr => a.rotateRight n
  | .min => if a.slt b then a else b
  | .max => if a.slt b then b else a
  | .minu => if a.ult b then a else b
  | .maxu => if a.ult b then b else a

/-- The scalar relations (R169). -/
def cmpVal (f : CmpF) (a b : Word) : Bool :=
  match f with
  | .eq => a == b
  | .ne => a != b
  | .lt => a.slt b
  | .ltu => a.ult b
  | .le => a.sle b
  | .leu => a.ule b

/-- EXT (R169). -/
def extVal (m : BitVec 2) (a : Word) : Word :=
  match m.toNat with
  | 0 => (a.truncate 8).signExtend 32
  | 1 => (a.truncate 16).signExtend 32
  | 2 => (a.truncate 8).zeroExtend 32
  | _ => (a.truncate 16).zeroExtend 32

/-- CLZ: leading zeros, 32 for zero (R169). -/
def clzVal (a : Word) : Word := BitVec.ofNat 32 (if a.toNat = 0 then 32 else 31 - a.toNat.log2)

/-- POPC: one bits (R169). -/
def popcVal (a : Word) : Word :=
  BitVec.ofNat 32 ((List.range 32).foldl (fun n i => n + b2n (bitN a.toNat i)) 0)

/-- The immediate operations (R169). -/
def immVal (f : ImmF) (a imm : Word) : Word :=
  match f with
  | .add => a + imm
  | .and => a &&& imm
  | .or => a ||| imm
  | .xor => a ^^^ imm
  | .cmpeq => BitVec.ofNat 32 (b2n (a == imm))
  | .cmplt => BitVec.ofNat 32 (b2n (a.slt imm))
  | .cmpltu => BitVec.ofNat 32 (b2n (a.ult imm))

/-- Shift of a `w`-bit value. -/
def shiftVal {w : Nat} (f : ShF) (a : BitVec w) (n : Nat) : BitVec w :=
  match f with
  | .shl => a <<< n
  | .shr => a >>> n
  | .sra => a.sshiftRight n
  | .rotr => a.rotateRight n

/-- Divide and remainder with the arithmetic condition: 0 none, 1 DZ, 2 DOV (R170, R183). -/
def divVal (f : DivF) (a b : Word) : Word × Nat :=
  let signed := match f with
    | .div => true
    | .rem => true
    | _ => false
  let r : Word × Word × Nat :=
    if b = 0 then (0xFFFFFFFF, a, 1)
    else if signed && a == 0x80000000 && b == 0xFFFFFFFF then (0x80000000, 0, 2)
    else if signed then (a.sdiv b, a.srem b, 0)
    else (a.udiv b, a.umod b, 0)
  match f with
  | .div => (r.1, r.2.2)
  | .divu => (r.1, r.2.2)
  | .rem => (r.2.1, r.2.2)
  | .remu => (r.2.1, r.2.2)

/-- The condition of a conditional branch on a g register (R187). -/
def branchTaken (f : BcF) (v : Word) : Bool :=
  match f with
  | .bz => v == 0
  | .bnz => v != 0
  | .bltz => v.slt 0
  | .bgez => !v.slt 0
  | .bpa => v != 0
  | .bpn => v == 0

/-- An accumulator as a signed integer (R176). -/
def accInt (v : AccW) : Int := v.toInt

/-- An integer as an accumulator, with whether it wrapped (R176). -/
def accOf (i : Int) : AccW × Bool :=
  (BitVec.ofInt 80 i, decide (i < -(2 ^ 79) ∨ (2 ^ 79 : Int) ≤ i))

/-- The 16-bit product of R179. -/
def prod16 (md : Nat) (a b : Word) : Int :=
  let h (sel : Bool) (w : Word) : BitVec 16 := if sel then (w >>> 16).truncate 16 else w.truncate 16
  let x := h (bitN md 0) a
  let y := h (bitN md 1) b
  if bitN md 2 then (x.toNat : Int) * (y.toNat : Int) else x.toInt * y.toInt

/-- The extraction of MFA: the value and whether it saturated (R181). -/
def mfaVal (acc : AccW) (rnd sat : Bool) (sh : Nat) : Word × Bool :=
  let v := accInt acc
  let v := if rnd && decide (0 < sh) then v + 2 ^ (sh - 1) else v
  let v := v / 2 ^ sh
  if sat && decide (v > 0x7FFFFFFF ∨ v < -0x80000000) then
    (if v < 0 then 0x80000000 else 0x7FFFFFFF, true)
  else (BitVec.ofInt 32 v, false)

/-- The value of a `w`-bit field as a signed or unsigned integer. -/
def fieldInt (w : Nat) (uns : Bool) (v : Nat) : Int :=
  if uns then ((v % 2 ^ w : Nat) : Int) else (BitVec.ofNat w v).toInt

/-- The sum of `n` products of `w`-bit fields (R178, R219). -/
def dotVal (w : Nat) (ua ub : Bool) (a b : Nat) : Nat → Int
  | 0 => 0
  | n + 1 => dotVal w ua ub a b n + fieldInt w ua (a / 2 ^ (w * n)) * fieldInt w ub (b / 2 ^ (w * n))

/-- Whether MOD_Q raises MODR (R182). -/
def modBad (q : Nat) (mont : Bool) : Bool := decide (q < 2) || (mont && decide (q % 2 = 0))

/-- The modular multiply-add of R182 for a legal modulus. -/
def mmadVal (q qinv : Nat) (mont noadd : Bool) (a b d : Nat) : Nat :=
  let t := a * b
  let t := if mont then (t + (t % 2 ^ 32 * qinv % 2 ^ 32) * q) / 2 ^ 32 else t
  let t := if noadd then t else t + d
  t % q

/-- Lane `i` of width `w` of a register value. -/
def lane (w v i : Nat) : Nat := v / 2 ^ (w * i) % 2 ^ w

/-- One lane of the element-wise operations (R219): operands and old destination lane of width `w`. -/
def laneVal (f : VF) (w a b : Nat) : Nat :=
  let A := BitVec.ofNat w a
  let B := BitVec.ofNat w b
  let n := b % w
  match f with
  | .add => (A + B).toNat
  | .sub => (A - B).toNat
  | .and => (A &&& B).toNat
  | .or => (A ||| B).toNat
  | .xor => (A ^^^ B).toNat
  | .andn => (A &&& ~~~ B).toNat
  | .min => if A.slt B then a else b
  | .max => if A.slt B then b else a
  | .minu => if A.ult B then a else b
  | .maxu => if A.ult B then b else a
  | .shl => (A <<< n).toNat
  | .shr => (A >>> n).toNat
  | .sra => (A.sshiftRight n).toNat
  | .rotr => (A.rotateRight n).toNat
  | .mul => a * b % 2 ^ w
  | .mulh => (BitVec.ofInt (2 * w) (A.toInt * B.toInt)).toNat / 2 ^ w
  | .mulhu => a * b / 2 ^ w
  | .mov => a
  | .cmpeq => b2n (a == b)
  | .cmplt => b2n (A.slt B)
  | .cmpltu => b2n (A.ult B)
  | .cmple => b2n (A.sle B)
  | .cmpleu => b2n (A.ule B)
  | _ => 0

/-- Put lanes of width `w` together, lane 0 lowest. -/
def ofLanes (w : Nat) : List Nat → Nat
  | [] => 0
  | x :: xs => x % 2 ^ w + 2 ^ w * ofLanes w xs

/-- One butterfly lane: the two outputs (R221). -/
def bflyLane (q qinv : Nat) (mont gs : Bool) (a b w : Nat) : Nat × Nat :=
  let mm x y := mmadVal q qinv mont true x y 0
  let sub x y := ((x : Int) - (y : Int)) % (q : Int)
  if gs then ((a + b) % q, mm (sub a b).toNat w)
  else
    let t := mm b w
    ((a + t) % q, (sub a t).toNat)

/-- VSHUF on 16 bytes: byte j is byte k of VA, or 0 for an index out of range (R222). -/
def shufVal (a b : Nat) (long : Bool) : Nat :=
  let n := if long then 16 else 8
  ofLanes 8 ((List.range n).map (fun j =>
    let k := lane 8 b j
    if k < n then lane 8 a k else 0))

/-- VZIPL and VZIPH: interleave the lanes of the low or high halves (R222). -/
def zipVal (w : Nat) (hi : Bool) (a b : Nat) : Nat :=
  let n := 64 / w
  let off := if hi then n else 0
  ofLanes w ((List.range n).flatMap (fun i => [lane w a (off + i), lane w b (off + i)]))

/-- VUZPE and VUZPO: the even or odd lanes of {VB, VA} (R222). -/
def uzpVal (w : Nat) (odd : Bool) (a b : Nat) : Nat :=
  let v := a + 2 ^ 128 * b
  ofLanes w ((List.range (128 / w)).map (fun i => lane w v (2 * i + b2n odd)))

/-- VEXT: bytes OFF to OFF + 15 of {VB, VA} (R222). -/
def vextVal (off a b : Nat) : Nat := (a + 2 ^ 128 * b) / 2 ^ (8 * off) % 2 ^ 128

end Sys2Proof.Machine
end

