-- ==== Sys2Proof/Machine/Syllable.lean ====
section
/-! DEFINITION. Syllables and bundles: the encodings of R143 to R147 and of every operation chapter, and the legality
of one operation in its slot. -/

namespace Sys2Proof.Machine

/-- The SLOT code of R143. -/
def slotCode : Slot → Nat
  | .s0 => 0 | .s1 => 1 | .l0 => 2 | .l1 => 3 | .m0 => 4 | .m1 => 5 | .v0 => 6 | .v1 => 7 | .v2 => 8 | .v3 => 9

/-- The slot of a SLOT code below 10. -/
def slotOfCode : Nat → Option Slot
  | 0 => some .s0 | 1 => some .s1 | 2 => some .l0 | 3 => some .l1 | 4 => some .m0
  | 5 => some .m1 | 6 => some .v0 | 7 => some .v1 | 8 => some .v2 | 9 => some .v3 | _ => none

/-- A syllable's bits as a bit vector field. -/
def bv (w : Nat) (s hi lo : Nat) : BitVec w := BitVec.ofNat w (bits s hi lo)

/-- The scalar two-operand function of an OPC (R169). -/
def aluOpc : Nat → Option AluF
  | 1 => some .add | 2 => some .sub | 3 => some .and | 4 => some .or | 5 => some .xor | 6 => some .andn
  | 7 => some .shl | 8 => some .shr | 9 => some .sra | 10 => some .rotr | 11 => some .min | 12 => some .max
  | 13 => some .minu | 14 => some .maxu | _ => none

/-- The scalar relation of an OPC (R169). -/
def cmpOpc : Nat → Option CmpF
  | 16 => some .eq | 17 => some .ne | 18 => some .lt | 19 => some .ltu | 20 => some .le | 21 => some .leu | _ => none

/-- The immediate operation of an OPC, with whether its immediate is sign-extended (R169). -/
def immOpc : Nat → Option (ImmF × Bool)
  | 25 => some (.add, true) | 26 => some (.and, false) | 27 => some (.or, false) | 28 => some (.xor, false)
  | 32 => some (.cmpeq, true) | 33 => some (.cmplt, true) | 34 => some (.cmpltu, false) | _ => none

/-- The branch condition of an OPC (R187). -/
def bcOpc : Nat → Option BcF
  | 42 => some .bz | 43 => some .bnz | 44 => some .bltz | 45 => some .bgez | 46 => some .bpa | 47 => some .bpn | _ => none

/-- The VR-format operation of an OPC (R219, R222). -/
def vrOpc : Nat → Option VF
  | 1 => some .add | 2 => some .sub | 3 => some .and | 4 => some .or | 5 => some .xor | 6 => some .andn
  | 7 => some .min | 8 => some .max | 9 => some .minu | 10 => some .maxu
  | 11 => some .shl | 12 => some .shr | 13 => some .sra | 14 => some .rotr | 15 => some .sel | 16 => some .mov
  | 17 => some .cmpeq | 18 => some .cmplt | 19 => some .cmpltu | 20 => some .cmple | 21 => some .cmpleu
  | 32 => some .mul | 33 => some .mulh | 34 => some .mulhu | 35 => some .mulw | 36 => some .mulwu
  | 37 => some .macw | 38 => some .macwu | 39 => some .dot4b | 40 => some .dot4h | 41 => some .mmad | 42 => some .bfly
  | 43 => some .shuf | 44 => some .zipl | 45 => some .ziph | 46 => some .uzpe | 47 => some .uzpo | 48 => some .ext
  | 49 => some .clmul | _ => none

/-- `some a` when the condition holds. -/
def onlyIf {α : Type} (b : Bool) (a : α) : Option α := if b then some a else none

/-- The scalar class (R169, R187, R199, R201, R270, R293, R475). `s` is the syllable, `x` its extension if X is 1. -/
def decS (s opc : Nat) (x : Option Nat) : Option Op :=
  let d := bv 6 s 19 14
  let a := bv 6 s 13 8
  let b := bv 6 s 7 2
  let md := bits s 1 0
  let noX := x.isNone
  match aluOpc opc, cmpOpc opc, immOpc opc, bcOpc opc with
  | some f, _, _, _ => onlyIf (noX && md == 0) (.alu f d a b)
  | _, some f, _, _ =>
    onlyIf (noX && decide (md < 2) && (md == 0 || decide (d.toNat < 8))) (.cmp f (md == 1) d a b)
  | _, _, some (f, sx), _ =>
    match x with
    | some e => some (.alui f d a (BitVec.ofNat 32 (e * 256 + bits s 7 0)))
    | none => some (.alui f d a (if sx then (bv 8 s 7 0).signExtend 32 else (bv 8 s 7 0).zeroExtend 32))
  | _, _, _, some f =>
    onlyIf (noX && (decide (opc < 46) || bits s 17 15 == 0))
      (.bc f (bitN s 19) (bitN s 18) (bv 6 s 17 12) (bv 12 s 11 0))
  | _, _, _, _ =>
    match opc with
    | 0 => onlyIf (noX && bits s 19 0 == 0) .nop
    | 15 => onlyIf (noX && md == 0) (.sel d a b)
    | 22 => onlyIf (noX && b == 0) (.ext (BitVec.ofNat 2 md) d a)
    | 23 => onlyIf (noX && b == 0 && md == 0) (.clz d a)
    | 24 => onlyIf (noX && b == 0 && md == 0) (.popc d a)
    | 29 => shiftI .shl d a
    | 30 => shiftI .shr d a
    | 31 => shiftI .sra d a
    | 35 => onlyIf (noX && b == 0 && md == 0) (.mfc d a)
    | 36 => onlyIf (noX && b == 0 && md == 0) (.mtc d a)
    | 37 => onlyIf (noX && md == 0) (.div .div d a b)
    | 38 => onlyIf (noX && md == 0) (.div .divu d a b)
    | 39 => onlyIf (noX && md == 0) (.div .rem d a b)
    | 40 => onlyIf (noX && md == 0) (.div .remu d a b)
    | 41 => onlyIf (noX && bits s 19 18 == 0) (.br (bv 18 s 17 0))
    | 48 => onlyIf (noX && bits s 19 18 == 0) (.call (bv 18 s 17 0))
    | 49 => onlyIf (noX && bits s 19 18 == 0 && bits s 5 0 == 0) (.jr (bv 6 s 17 12) (bv 6 s 11 6))
    | 50 => onlyIf noX (.loop (bv 2 s 19 18) (bv 6 s 17 12) (bv 12 s 11 0))
    | 51 => onlyIf noX (.loopi (bv 2 s 19 18) (bv 6 s 17 12) (bv 12 s 11 0))
    | 52 => onlyIf (noX && bits s 16 0 == 0) (.lclr (bv 3 s 19 17))
    | 53 => onlyIf (noX && bits s 19 0 == 0) .pflush
    | 54 => onlyIf (noX && bits s 19 1 == 0) (.pbar (bitN s 0))
    | 55 => onlyIf (noX && bits s 7 0 == 0) (.declass d a)
    | 56 => onlyIf (noX && bits s 7 0 == 0) (.rclr d a)
    | 57 => onlyIf (noX && bits s 19 16 == 0) (.syscall (bv 16 s 15 0))
    | 58 => onlyIf (noX && bits s 19 10 == 0 && bits s 7 6 == 0) (.kcall (bv 2 s 9 8) (bv 6 s 5 0))
    | 59 => onlyIf (noX && bits s 19 0 == 0) .retx
    | 60 => onlyIf (noX && bits s 19 2 == 0) (.sleep (bv 2 s 1 0))
    | _ => none
where
  /-- A shift by immediate: bits above IMM[4:0] must be zero (R169). -/
  shiftI (f : ShF) (d a : R6) : Option Op :=
    match x with
    | some e => onlyIf (e == 0 && bits s 7 5 == 0) (.shi f d a (bv 5 s 4 0))
    | none => onlyIf (bits s 7 5 == 0) (.shi f d a (bv 5 s 4 0))

/-- A format M memory operand of access size `size` (R166, R167). -/
def decM (s size : Nat) (x : Option Nat) : Option MemOp :=
  let ab := bv 4 s 13 10
  match bits s 9 8 with
  | 0 =>
    match x with
    | some e => some ⟨ab, .base (BitVec.ofNat 32 (e * 256 + bits s 7 0))⟩
    | none => some ⟨ab, .base ((bv 8 s 7 0).signExtend 32 * BitVec.ofNat 32 size)⟩
  | 1 => onlyIf (x.isNone && bits s 3 0 == 0) ⟨ab, .post (bv 4 s 7 4)⟩
  | 2 => onlyIf x.isNone ⟨ab, .circ (bv 4 s 7 4) (bv 4 s 3 0)⟩
  | _ => onlyIf x.isNone ⟨ab, .brev (bv 4 s 7 4) (bv 4 s 3 0)⟩

/-- The L class (R171, R173, R216, R238). -/
def decL (s opc : Nat) (x : Option Nat) : Option Op :=
  let rd := bv 6 s 19 14
  let noX := x.isNone
  let load (f : LdF) : Option Op := (decM s (ldSize f) x).map (fun m => .ld f rd m)
  let store (f : StF) : Option Op := (decM s (stSize f) x).map (fun m => .st f rd m)
  let vm : VM := ⟨bv 5 s 19 15, bv 4 s 14 11, bv 4 s 10 7, bitN s 6, bv 2 s 5 4, bv 2 s 3 2⟩
  match opc with
  | 0 => onlyIf (noX && bits s 19 0 == 0) .nop
  | 1 => load .b
  | 2 => load .bu
  | 3 => load .h
  | 4 => load .hu
  | 5 => load .w
  | 6 => load .d
  | 7 => load .q
  | 8 => store .b
  | 9 => store .h
  | 10 => store .w
  | 11 => store .d
  | 12 => store .q
  | 16 =>
    match decM s 1 x with
    | some ⟨ab, .base off⟩ => onlyIf (decide (rd.toNat < 16)) (.lea (bv 4 s 17 14) ab off)
    | _ => none
  | 17 =>
    match decM s 1 x with
    | some ⟨_, .base _⟩ => none
    | some m => onlyIf (rd == 0) (.amod m)
    | none => none
  | 18 => onlyIf (noX && bits s 7 0 == 0) (.movta rd (bv 6 s 13 8))
  | 19 => onlyIf (noX && bits s 7 0 == 0) (.movfa rd (bv 6 s 13 8))
  | 32 => onlyIf (noX && bits s 1 0 == 0) (.vlds vm)
  | 33 => onlyIf (noX && bits s 1 0 == 0) (.vsts vm)
  | 34 => onlyIf (noX && bits s 15 14 == 0 && bits s 7 0 == 0) (.kload (bv 4 s 19 16) (bv 6 s 13 8))
  | 35 => onlyIf (noX && bits s 15 0 == 0) (.kzero (bv 4 s 19 16))
  | 36 => onlyIf (noX && bits s 8 0 == 0) (.kexport (bv 5 s 19 15) (bv 6 s 14 9))
  | _ => none

/-- The M class (R166, R178). -/
def decMul (s opc : Nat) (x : Option Nat) : Option Op :=
  let d := bv 6 s 19 14
  let a := bv 6 s 13 8
  let b := bv 6 s 7 2
  let md := bits s 1 0
  let acc := bv 3 s 19 17
  let ma := bv 6 s 16 11
  let mb := bv 6 s 10 5
  let mm := bits s 4 0
  if x.isSome then none
  else match opc with
  | 0 => onlyIf (bits s 19 0 == 0) .nop
  | 1 => onlyIf (md == 0) (.mul d a b)
  | 2 => onlyIf (decide (mm < 8)) (.mac .mac acc ma mb (BitVec.ofNat 3 mm))
  | 3 => onlyIf (decide (mm < 8)) (.mac .msu acc ma mb (BitVec.ofNat 3 mm))
  | 4 => onlyIf (decide (mm < 8)) (.mac .macm acc ma mb (BitVec.ofNat 3 mm))
  | 5 => onlyIf (!bitN s 8) (.mfa d (bv 3 s 13 11) (bitN s 10) (bitN s 9) (bv 8 s 7 0))
  | 6 => onlyIf (mb == 0 && decide (mm < 4)) (.mta acc ma (BitVec.ofNat 2 mm))
  | 7 => onlyIf (decide (ma.toNat < 8) && mb == 0 && decide (mm < 2)) (.accadd acc (BitVec.ofNat 3 ma.toNat) (mm == 1))
  | 8 => onlyIf (decide (md < 2)) (.mulw16 (md == 1) d a b)
  | 9 => onlyIf (decide (md < 2)) (.mulw32 (md == 1) d a b)
  | 10 => onlyIf (mm == 0 || mm == 4) (.macw (mm == 4) acc ma mb)
  | 11 => some (.dot4b (bitN s 0) (bitN s 1) d a b)
  | 12 => onlyIf (mm == 0 || mm == 4) (.dot4h (mm == 4) acc ma mb)
  | 13 => some (.mmad (bitN s 0) (bitN s 1) d a b)
  | _ => none

/-- The V class (R216, R243, R270). -/
def decV (s opc : Nat) (x : Option Nat) : Option Op :=
  let vd := bv 5 s 19 15
  let va := bv 5 s 14 10
  let vb := bv 5 s 9 5
  let ks := bv 4 s 9 6
  let vr : VR := ⟨vd, va, vb, bitN s 4, bv 2 s 3 2, bv 2 s 1 0⟩
  let vs : VS := ⟨vd, va, bv 6 s 9 4, bitN s 3, bv 2 s 2 1⟩
  if x.isSome then none
  else match vrOpc opc with
  | some f => some (.vop f vr)
  | none => match opc with
    | 0 => onlyIf (bits s 19 0 == 0) .nop
    | 22 => onlyIf (!bitN s 0) (.vshi .shl vs)
    | 23 => onlyIf (!bitN s 0) (.vshi .shr vs)
    | 24 => onlyIf (!bitN s 0) (.vshi .sra vs)
    | 25 => onlyIf (!bitN s 0) (.vshi .rotr vs)
    | 26 => onlyIf (bits s 8 5 == 0) (.vdupg ⟨vd, bv 6 s 14 9, bitN s 4, bv 2 s 3 2, bv 2 s 1 0⟩)
    | 50 =>
      if bitN s 0 then onlyIf (vd == 0 && !bitN s 1) (.vctrInit va ks (bitN s 5) (bv 3 s 4 2))
      else some (.vctrData vd va (bv 5 s 5 1) ks)
    | 51 => onlyIf (bits s 5 0 == 0) (.vecb vd va ks)
    | 52 => onlyIf (vd == 0 && bits s 5 0 == 0) (.vghash va ks)
    | 53 => onlyIf (bits s 5 0 == 0) (.vtag vd va ks)
    | 54 => onlyIf (bits s 19 18 == 0 && !bitN s 0) (.vtagchk (bv 3 s 17 15) va vb (bv 4 s 4 1))
    | 55 => onlyIf (bits s 9 5 == 0 && bits s 3 0 == 0) (.vdeclass vd va (bitN s 4))
    | 56 => onlyIf (bits s 9 5 == 0 && bits s 3 0 == 0) (.vrclr vd va (bitN s 4))
    | _ => none

/-- An operation syllable in its slot's class (R143). -/
def decodeOp (sl : Slot) (s : Nat) (x : Option Nat) : Option Op :=
  let opc := bits s 26 21
  match sl with
  | .s0 => decS s opc x
  | .s1 => decS s opc x
  | .l0 => decL s opc x
  | .l1 => decL s opc x
  | .m0 => decMul s opc x
  | .m1 => decMul s opc x
  | _ => decV s opc x

/-- A control-register number that a chapter assigns (R147, R556). -/
def crAssigned (n : Nat) : Bool := decide (n < 49)

/-- Whether the latency table allows the operation in the slot (R147, R155). -/
def slotOk (op : Op) (sl : Slot) : Bool :=
  let s01 := sl == .s0 || sl == .s1
  let l01 := sl == .l0 || sl == .l1
  let m01 := sl == .m0 || sl == .m1
  let v23 := sl == .v2 || sl == .v3
  let vAny := sl == .v0 || sl == .v1 || v23
  match op with
  | .nop => true
  | .alu _ _ _ _ => s01
  | .sel _ _ _ => s01
  | .cmp _ _ _ _ _ => s01
  | .ext _ _ _ => s01
  | .clz _ _ => s01
  | .popc _ _ => s01
  | .alui _ _ _ _ => s01
  | .shi _ _ _ _ => s01
  | .mfc _ _ => s01
  | .div _ _ _ _ => sl == .s1
  | .ld _ _ _ => l01
  | .st _ _ _ => l01
  | .lea _ _ _ => l01
  | .amod _ => l01
  | .movta _ _ => l01
  | .movfa _ _ => l01
  | .vlds _ => sl == .l0
  | .vsts _ => sl == .l0
  | .kload _ _ => sl == .l0
  | .kzero _ => sl == .l0
  | .kexport _ _ => sl == .l0
  | .mul _ _ _ => m01
  | .mac _ _ _ _ _ => m01
  | .mfa _ _ _ _ _ => m01
  | .mta _ _ _ => m01
  | .accadd _ _ _ => m01
  | .mulw16 _ _ _ _ => m01
  | .mulw32 _ _ _ _ => m01
  | .macw _ _ _ _ => m01
  | .dot4b _ _ _ _ _ => m01
  | .dot4h _ _ _ _ => m01
  | .mmad _ _ _ _ _ => m01
  | .vop f _ => match f with
    | .clmul => sl == .v1
    | .mul => v23
    | .mulh => v23
    | .mulhu => v23
    | .mulw => v23
    | .mulwu => v23
    | .macw => v23
    | .macwu => v23
    | .dot4b => v23
    | .dot4h => v23
    | .mmad => v23
    | .bfly => v23
    | .shuf => v23
    | .zipl => v23
    | .ziph => v23
    | .uzpe => v23
    | .uzpo => v23
    | .ext => v23
    | _ => vAny
  | .vshi _ _ => vAny
  | .vdupg _ => vAny
  | .vctrInit _ _ _ _ => sl == .v0
  | .vctrData _ _ _ _ => sl == .v0
  | .vecb _ _ _ => sl == .v0
  | .vghash _ _ => sl == .v1
  | .vtag _ _ _ => sl == .v1
  | .vtagchk _ _ _ _ => sl == .v1
  | .vdeclass _ _ _ => sl == .v3
  | .vrclr _ _ _ => sl == .v3
  | _ => sl == .s0

/-- The legality of a VR-format operation's fields (R217, R219, R222). -/
def vrLegal (f : VF) (o : VR) : Bool :=
  let even (n : R5) := n.toNat % 2 == 0
  match f with
  | .sel => o.pg != 0
  | .mov => o.vb == 0
  | .cmpeq => decide (o.vd.toNat < 8)
  | .cmplt => decide (o.vd.toNat < 8)
  | .cmpltu => decide (o.vd.toNat < 8)
  | .cmple => decide (o.vd.toNat < 8)
  | .cmpleu => decide (o.vd.toNat < 8)
  | .mulw => !o.long && o.ew != 3
  | .mulwu => !o.long && o.ew != 3
  | .macw => !o.long && o.ew != 3
  | .macwu => !o.long && o.ew != 3
  | .bfly => o.long && even o.vd && even o.va
  | .shuf => o.pg == 0 && o.ew == 0
  | .zipl => o.pg == 0 && o.long
  | .ziph => o.pg == 0 && o.long
  | .uzpe => o.pg == 0 && o.long
  | .uzpo => o.pg == 0 && o.long
  | .ext => o.long
  | .clmul => o.pg == 0 && o.long
  | _ => true

/-- The conditions of R147 that an operation's own fields must meet. -/
def opLegal (op : Op) : Bool :=
  let even (n : R6) := n.toNat % 2 == 0
  match op with
  | .cmp _ toP d _ _ => !toP || decide (d.toNat < 8)
  | .mfc _ c => crAssigned c.toNat
  | .mtc c _ => crAssigned c.toNat
  | .bc f _ _ src _ => match f with
    | .bpa => decide (src.toNat < 8)
    | .bpn => decide (src.toNat < 8)
    | _ => true
  | .loop lv _ _ => lv != 3
  | .loopi lv cnt _ => lv != 3 && cnt != 0
  | .lclr mask => mask != 0
  | .sleep depth => decide (depth.toNat < 2)
  | .ld f rd _ => match f with
    | .d => decide (rd.toNat < 32)
    | .q => decide (rd.toNat < 32)
    | _ => true
  | .st f rd _ => match f with
    | .d => decide (rd.toNat < 32)
    | .q => decide (rd.toNat < 32)
    | _ => true
  | .amod m => match m.mode with
    | .base _ => false
    | _ => true
  | .movta d _ => decide (d.toNat < 48)
  | .movfa _ a => decide (a.toNat < 48)
  | .kexport qa _ => qa.toNat % 2 == 0
  | .mac f _ a _ _ => match f with
    | .macm => a != 63
    | _ => true
  | .mfa _ _ _ _ sh => decide (sh.toNat < 80)
  | .mulw32 _ d _ _ => even d
  | .dot4h _ _ a b => even a && even b
  | .vop f o => vrLegal f o
  | .vshi _ o => decide (o.sh.toNat < 8 * 2 ^ o.ew.toNat)
  | _ => true

/-- The 32-bit IMEM word at a core address. -/
def Core.imemW (c : Core) (addr : Nat) : Nat := leNat (c.imem.getRange 0 addr 4)

/-- The PAD syllable (R146). -/
def padSyl : Nat := 0x78000000

/-- How many syllables stand at `addr` up to and with the first whose E is 1, at most `n`; 0 where none has it. -/
def Core.bundleLen (c : Core) (addr : Nat) : Nat → Nat → Nat
  | 0, _ => 0
  | n + 1, k => if bitN (c.imemW (addr + 4 * k)) 31 then k + 1 else c.bundleLen addr n (k + 1)

/-- The address that follows a bundle of `len` bytes in sequence, past the PAD tail of its line (R146). -/
def Core.seqNext (c : Core) (addr : Word) (len : Nat) : Word :=
  let n := addr.toNat + len
  if n % 64 = 0 then BitVec.ofNat 32 n
  else if c.imemW n = padSyl then BitVec.ofNat 32 (n - n % 64 + 64) else BitVec.ofNat 32 n

/-- The sequential successor of the bundle that stands in IMEM at an address (R146). -/
def Core.succAt (c : Core) (addr : Word) : Word :=
  let n := c.bundleLen addr.toNat 12 0
  c.seqNext addr (4 * (if n = 0 then (64 - addr.toNat % 64) / 4 else n))

/-- A bundle ready to issue: its operations in ascending slot order, and its length in bytes. -/
structure Bundle where
  ops : List (Slot × Op)
  len : Nat
  deriving DecidableEq, Repr

/-- Split a bundle's syllables into operations and extensions: operations in strictly ascending slot order, then at
most two extensions (R144, R145, R147). -/
def splitSyl : List Nat → Nat → Option (List (Slot × Nat) × List Nat)
  | [], _ => some ([], [])
  | s :: ss, lo =>
    let sl := bits s 30 27
    if sl = 10 then
      if bits s 26 24 = 0 ∧ ss.all (fun e => bits e 30 27 == 10 && bits e 26 24 == 0) ∧ ss.length < 2 then
        some ([], bits s 23 0 :: ss.map (fun e => bits e 23 0))
      else none
    else if lo ≤ sl then
      match slotOfCode sl, splitSyl ss (sl + 1) with
      | some k, some (ops, es) => some ((k, s) :: ops, es)
      | _, _ => none
    else none

/-- Give the k-th extension to the k-th operation with X = 1, and decode (R144). -/
def decodeSyls : List (Slot × Nat) → List Nat → Option (List (Slot × Op))
  | [], es => onlyIf es.isEmpty []
  | (sl, s) :: r, es =>
    if bitN s 20 then
      match es with
      | [] => none
      | e :: es =>
        match decodeOp sl s (some e), decodeSyls r es with
        | some op, some ops => onlyIf (slotOk op sl && opLegal op) ((sl, op) :: ops)
        | _, _ => none
    else
      match decodeOp sl s none, decodeSyls r es with
      | some op, some ops => onlyIf (slotOk op sl && opLegal op) ((sl, op) :: ops)
      | _, _ => none

/-- The bundle that stands in IMEM at an address; none where R147 rejects its syllables. -/
def Core.fetch (c : Core) (addr : Nat) : Option Bundle :=
  let n := c.bundleLen addr 12 0
  if n = 0 ∨ 64 < addr % 64 + 4 * n then none
  else
    match splitSyl ((Sys2Proof.range 0 n).map (fun k => c.imemW (addr + 4 * k))) 0 with
    | some (ops, es) => (decodeSyls ops es).map (fun o => ⟨o, 4 * n⟩)
    | none => none

/-- The syllables that the shortest encoding of an operation takes (R144, R167).
[Marks: DESIGN CHOICE (log entry 80)] -/
def opSyllables (op : Op) : Nat :=
  let fits (w : Word) : Bool := (w.truncate 8).signExtend 32 == w
  let off (size : Nat) (m : MemOp) : Nat :=
    match m.mode with
    | .base o =>
      let q := BitVec.ofInt 32 (o.toInt / size)
      if o.toInt % size = 0 ∧ fits q then 1 else 2
    | _ => 1
  match op with
  | .alui f _ _ imm =>
    let z := decide (imm.toNat < 256)
    match f with
    | .add => if fits imm then 1 else 2
    | .cmpeq => if fits imm then 1 else 2
    | .cmplt => if fits imm then 1 else 2
    | _ => if z then 1 else 2
  | .ld f _ m => off (ldSize f) m
  | .st f _ m => off (stSize f) m
  | .lea _ _ o => if fits o then 1 else 2
  | _ => 1

end Sys2Proof.Machine
end

