-- ==== Sys2Proof/Machine/Flags.lean ====
section
/-! DEFINITION. The control registers of a core: what a read returns, what a write does, the level each needs, and the
flags and enables of ARITH. -/

namespace Sys2Proof.Machine

/-- What a core sees around it when a bundle issues. -/
structure Env where
  /-- the CCLK -/
  now : Nat
  /-- TINT_CTL.RCLR_EN as a register -/
  rclr : Bool
  /-- global core number -/
  core : Nat
  /-- the core is IN_SERVICE (R436, R476) -/
  inService : Bool
  deriving DecidableEq, Repr

/-- RCLR_EN as it governs bundles that issue in this CCLK (R285). -/
def Core.rclrEff (c : Core) (e : Env) : Bool := if e.now < c.rclrFrom then c.rclrOld else e.rclr

/-- The registers that User may read (R556). -/
def crReadUser (n : Nat) : Bool :=
  n == 7 || n == 8 || n == 9 || n == 10 || (decide (12 ≤ n) && decide (n ≤ 19)) || (decide (21 ≤ n) && decide (n ≤ 32))
    || n == 35 || n == 47

/-- The registers that ignore a write (R152, R556). -/
def crRO (n : Nat) : Bool :=
  (decide (11 ≤ n) && decide (n ≤ 18)) || (decide (20 ≤ n) && decide (n ≤ 31)) || (decide (33 ≤ n) && decide (n ≤ 42))
    || n == 44 || n == 45

/-- The registers that User may write (R556). -/
def crWriteUser (n : Nat) : Bool := n == 7 || n == 9 || n == 10 || n == 19 || n == 32 || n == 47

/-- The 64-bit counter that a LO or HI control register shows (R154, R207, R282). -/
def Core.counter (c : Core) (e : Env) (n : Nat) : Nat :=
  if n = 13 ∨ n = 14 then (e.now - c.rstAt) % 2 ^ 64
  else if n = 15 ∨ n = 16 then c.issueCnt.toNat
  else if n = 17 ∨ n = 18 then c.stallCnt.toNat
  else if n = 21 ∨ n = 22 then c.redirCnt.toNat
  else if n = 38 ∨ n = 39 then c.declCnt.toNat
  else c.rclrCnt.toNat

/-- The LO register of each 64-bit counter pair. -/
def crLo (n : Nat) : Bool := n == 13 || n == 15 || n == 17 || n == 21 || n == 38 || n == 40
/-- The HI register of each 64-bit counter pair. -/
def crHi (n : Nat) : Bool := n == 14 || n == 16 || n == 18 || n == 22 || n == 39 || n == 41

/-- KSTAT: two bits of STATE for each key slot (R255). -/
def Core.kstat (c : Core) : Nat := ofLanes 2 ((List.range 16).map (fun k => (c.slot k).st))

/-- EVC_TOP (R338). -/
def evcTop (st : List StackEnt) : Nat :=
  match st with
  | [] => 0
  | e :: _ => 2 ^ 31 + e.pri % 16 * 2 ^ 24 + e.occ % 256 * 2 ^ 16 + st.length % 32 * 2 ^ 8 + e.id % 256

/-- LOCKSEQ (R367). -/
def lockWord (l : Lock) : Nat :=
  b2n l.active * 2 ^ 31 + b2n l.broken * 2 ^ 30 + l.high % 32 * 2 ^ 16 + l.beats % 64 * 2 ^ 8

/-- What MFC returns for a control register (R152, R154, R556). -/
def Core.crRead (c : Core) (e : Env) (n : Nat) : TW :=
  let w (v : Nat) : TW := ⟨BitVec.ofNat 32 v, .clean⟩
  if n = 12 then w (e.core * 2 ^ 8 + e.core / 8 * 2 ^ 4 + e.core % 8)
  else if crLo n then w (c.counter e n)
  else if crHi n then
    match c.crCap with
    | some (lo, v) => if lo + 1 = n then ⟨v, .clean⟩ else w (c.counter e n / 2 ^ 32)
    | none => w (c.counter e n / 2 ^ 32)
  else if 23 ≤ n ∧ n ≤ 25 then c.lc.get tw0 (n - 23)
  else if 26 ≤ n ∧ n ≤ 28 then c.ls.get tw0 (n - 26)
  else if 29 ≤ n ∧ n ≤ 31 then c.le.get tw0 (n - 29)
  else if n = 35 then w c.kstat
  else if n = 37 then w ((if c.kexp.isEmpty then 0 else 2 ^ 31) + (c.rdCr 37).v.toNat % 16)
  else if n = 45 then w (evcTop c.stack)
  else if n = 46 then w 0
  else if n = 47 then w (lockWord c.lock)
  else c.rdCr n

/-- The capture that a read of a LO register makes (R154). -/
def Core.crCapture (c : Core) (e : Env) (n : Nat) : Core :=
  if crLo n then { c with crCap := some (n, BitVec.ofNat 32 (c.counter e n / 2 ^ 32)) } else c

/-- A write of LOCKSEQ: END ends the sequence once its accesses are performed, BEGIN starts one (R358, R367). -/
def Core.lockWrite (c : Core) (v : Nat) : Core :=
  let l := c.lock
  if bitN v 1 then
    if !l.active then { c with lock := { l with timedOut := false } }
    else if c.far.any (fun f => f.locked) then { c with lock := { l with ending := true } }
    else { c with lock := { l with active := false, held := [], first := 0, ending := false, high := 0 } }
  else if bitN v 0 then
    if l.active then c else { c with lock := { Lock.none with active := true } }
  else c

/-- VMAX of R214. -/
def vmax (vtype : Nat) : Nat := (if bitN vtype 2 then 128 else 64) / 2 ^ (3 + vtype % 4)

/-- What MTC does to a control register, at its commit point (R152, R186, R214, R310 to R313). A write of EVC_EOI acts on
the event controller and is made where the bundle issues. -/
def Core.crWrite (c : Core) (n : Nat) (x : TW) : Core :=
  let v := x.v
  match n with
  | 0 => c.wrCr0 0 (v &&& 0xF03)
  | 1 => c.wrCr0 1 (v &&& 0x80FFFFFF)
  | 2 => c.wrCr0 2 v
  | 3 => c.wrCr0 3 v
  | 4 => c.wrCr0 4 (v &&& 0xFFFFFFC0)
  | 5 => c.wrCr 5 ⟨v &&& 0xF, x.t⟩
  | 6 => c.wrCr 6 ⟨v &&& 1, x.t⟩
  | 7 => c.wrCr 7 ⟨BitVec.ofNat 32 (min v.toNat (vmax (c.rdCr 32).v.toNat)), x.t.or (c.rdCr 32).t⟩
  | 8 => c.wrCr0 8 (v &&& 0xF)
  | 9 => c.wrCr0 9 v
  | 10 => c.wrCr0 10 v
  | 19 =>
    let old := (c.rdCr 19).v
    let nv := (old &&& 0xF000000) ||| (v &&& 0x700) ||| ((old &&& 0x1F) &&& ~~~ v)
    { c.wrCr0 19 nv with arithOld := old, arithChg := c.issueCyc + 1 }
  | 32 => c.wrCr 32 ⟨v &&& 7, x.t⟩
  | 43 => c.wrCr0 43 (v &&& 0xFF)
  | 47 => c.lockWrite v.toNat
  | 48 => c.wrCr0 48 v
  | _ => c

/-- The enable bit of an arithmetic condition as it governs a commit point in issue cycle `t` (R184, R186). -/
def Core.arithEnabled (c : Core) (cond t : Nat) : Bool :=
  let w := if t ≤ c.arithChg then c.arithOld.toNat else (c.rdCr 19).v.toNat
  let w := if c.arithChg = 0 then (c.rdCr 19).v.toNat else w
  decide (cond ≠ 0) && bitN w (7 + cond)

/-- Set a flag of ARITH: bit 0 DZ, 1 DOV, 2 MODR, 3 ACCOV, 4 SATF. [Marks: DEDUCED (log entry 14)] -/
def Core.setArith (c : Core) (bit : Nat) : Core :=
  c.wrCr0 19 ((c.rdCr 19).v ||| BitVec.ofNat 32 (2 ^ bit))

/-- Record the faulting bundle and slot of an arithmetic exception (R185, R186). -/
def Core.arithSource (c : Core) (pc : Word) (slot : Nat) : Core :=
  (c.wrCr0 20 pc).wrCr0 19 (((c.rdCr 19).v &&& 0xF0FFFFFF) ||| BitVec.ofNat 32 (slot % 16 * 2 ^ 24))

/-- Set the flags that a result sets at its commit point (R176, R181, R184). [Marks: DEDUCED (log entry 14)] -/
def Flight.setFlags (f : Flight) (c : Core) : Core :=
  let c := if f.cond = 0 then c else c.setArith (f.cond - 1)
  let c := if f.accov then c.setArith 3 else c
  if f.satf then c.setArith 4 else c

end Sys2Proof.Machine
end

