-- ==== Sys2Proof/Machine/Regs.lean ====
section
/-! DEFINITION. The register blocks of BAR0 (R549): the address of every register, the place of every field, and, for
each family of registers, its reset value and the access codes of its bits (R15). -/

namespace Sys2Proof.Machine

/-- Address of PORT_CFG. -/
def PORT_CFG (i j : Nat) : Nat := 0x100000 + 0x40000 * i + 0x1000 * j
/-- Address of PORT_STAT. -/
def PORT_STAT (i j : Nat) : Nat := 0x100004 + 0x40000 * i + 0x1000 * j
/-- Address of PORT_EVT. -/
def PORT_EVT (i j : Nat) : Nat := 0x100008 + 0x40000 * i + 0x1000 * j
/-- Address of PORT_EVT_EN. -/
def PORT_EVT_EN (i j : Nat) : Nat := 0x10000C + 0x40000 * i + 0x1000 * j
/-- Address of PORT_CNT. -/
def PORT_CNT (i j k : Nat) : Nat := 0x100100 + 0x40000 * i + 0x1000 * j + 0x8 * k
/-- Address of LANE_CFG. -/
def LANE_CFG (i j : Nat) : Nat := 0x110000 + 0x40000 * i + 0x100 * j
/-- Address of LANE_STAT. -/
def LANE_STAT (i j : Nat) : Nat := 0x110004 + 0x40000 * i + 0x100 * j
/-- Address of QUAD_CTL. -/
def QUAD_CTL (i j : Nat) : Nat := 0x120000 + 0x40000 * i + 0x100 * j
/-- Address of LINE_LOCKR. -/
def LINE_LOCKR (i : Nat) : Nat := 0x130000 + 0x40000 * i
/-- Address of PRISM_LOCKR. -/
def PRISM_LOCKR (i : Nat) : Nat := 0x200000 + 0x40000 * i
/-- Address of TIMEBASE. -/
def TIMEBASE (i : Nat) : Nat := 0x200004 + 0x40000 * i
/-- Address of PRM_CFG. -/
def PRM_CFG (i j : Nat) : Nat := 0x200100 + 0x40000 * i + 0x20 * j
/-- Address of PRM_BUF. -/
def PRM_BUF (i j : Nat) : Nat := 0x200104 + 0x40000 * i + 0x20 * j
/-- Address of HXT_MATCH. -/
def HXT_MATCH (i j : Nat) : Nat := 0x201000 + 0x40000 * i + 0x10 * j
/-- Address of HXT_CTL. -/
def HXT_CTL (i j : Nat) : Nat := 0x201004 + 0x40000 * i + 0x10 * j
/-- Address of HXT_XA. -/
def HXT_XA (i j : Nat) : Nat := 0x201008 + 0x40000 * i + 0x10 * j
/-- Address of HXT_XB. -/
def HXT_XB (i j : Nat) : Nat := 0x20100C + 0x40000 * i + 0x10 * j
/-- Address of CORE_PRED. -/
def CORE_PRED (i j : Nat) : Nat := 0x202000 + 0x40000 * i + 0x10 * j
/-- Address of CORE_Q. -/
def CORE_Q (i j : Nat) : Nat := 0x202004 + 0x40000 * i + 0x10 * j
/-- Address of CORE_OVR. -/
def CORE_OVR (i j : Nat) : Nat := 0x202008 + 0x40000 * i + 0x10 * j
/-- Address of LKUP_CTL. -/
def LKUP_CTL (i : Nat) : Nat := 0x280000 + 0x10 * i
/-- Address of LKUP_KEY. -/
def LKUP_KEY (i : Nat) : Nat := 0x280004 + 0x10 * i
/-- Address of SA_CFG. -/
def SA_CFG (i : Nat) : Nat := 0x2C0000 + 0x40 * i
/-- Address of SA_HOME. -/
def SA_HOME (i : Nat) : Nat := 0x2C0004 + 0x40 * i
/-- Address of SA_KEY. -/
def SA_KEY (i : Nat) : Nat := 0x2C0008 + 0x40 * i
/-- Address of SA_REPLAY_WIN. -/
def SA_REPLAY_WIN (i : Nat) : Nat := 0x2C000C + 0x40 * i
/-- Address of SA_NEXT_PN. -/
def SA_NEXT_PN (i j : Nat) : Nat := 0x2C0010 + 0x40 * i + 0x10 * j
/-- Address of SA_PN_LIMIT. -/
def SA_PN_LIMIT (i j : Nat) : Nat := 0x2C0018 + 0x40 * i + 0x10 * j
/-- Address of SA_STAT. -/
def SA_STAT (i : Nat) : Nat := 0x2C0038 + 0x40 * i
/-- Address of SA_PN_WARN. -/
def SA_PN_WARN (i : Nat) : Nat := 0x2C003C + 0x40 * i
/-- Address of SA_CNT. -/
def SA_CNT (i j : Nat) : Nat := 0x300000 + 0x40 * i + 0x8 * j
/-- Address of RSQ_LOCKR. -/
def RSQ_LOCKR (i : Nat) : Nat := 0x380000 + 0x10000 * i
/-- Address of RSQ_EVT. -/
def RSQ_EVT (i : Nat) : Nat := 0x380008 + 0x10000 * i
/-- Address of RSQ_EVT_EN. -/
def RSQ_EVT_EN (i : Nat) : Nat := 0x38000C + 0x10000 * i
/-- Address of RSQ_PORT_CFG. -/
def RSQ_PORT_CFG (i j : Nat) : Nat := 0x380100 + 0x10000 * i + 0x10 * j
/-- Address of RSQ_PORT_STAT. -/
def RSQ_PORT_STAT (i j : Nat) : Nat := 0x380104 + 0x10000 * i + 0x10 * j
/-- Address of CLINK_CTL. -/
def CLINK_CTL (i : Nat) : Nat := 0x3A0000 + 0x100 * i
/-- Address of CLINK_STAT. -/
def CLINK_STAT (i : Nat) : Nat := 0x3A0004 + 0x100 * i
/-- Address of CLINK_POOL. -/
def CLINK_POOL (i : Nat) : Nat := 0x3A0008 + 0x100 * i
/-- Address of CLINK_POOLFREE. -/
def CLINK_POOLFREE (i : Nat) : Nat := 0x3A000C + 0x100 * i
/-- Address of CLINK_CNT. -/
def CLINK_CNT (i j : Nat) : Nat := 0x3A0010 + 0x100 * i + 0x8 * j
/-- Address of CLINK_LOCKR. -/
def CLINK_LOCKR : Nat := 0x3AF000
/-- Address of DLV_LOCKR. -/
def DLV_LOCKR : Nat := 0x3B0000
/-- Address of DLV_CTL. -/
def DLV_CTL : Nat := 0x3B0004
/-- Address of DLV_EVT. -/
def DLV_EVT : Nat := 0x3B0008
/-- Address of DLV_EVT_EN. -/
def DLV_EVT_EN : Nat := 0x3B000C
/-- Address of EGR_FREE. -/
def EGR_FREE (i j : Nat) : Nat := 0x3B0100 + 0x100 * i + 0x10 * j
/-- Address of DLV_PORT_CFG. -/
def DLV_PORT_CFG (i j : Nat) : Nat := 0x3B0300 + 0x40 * i + 0x4 * j
/-- Address of ZTF_CFG. -/
def ZTF_CFG (i : Nat) : Nat := 0x3B1000 + 0x100 * i
/-- Address of ZTF_ETYPE. -/
def ZTF_ETYPE (i : Nat) : Nat := 0x3B1004 + 0x100 * i
/-- Address of ZTF_BUCKET. -/
def ZTF_BUCKET (i j : Nat) : Nat := 0x3B1008 + 0x100 * i + 0x4 * j
/-- Address of ZTF_SCHED. -/
def ZTF_SCHED (i j : Nat) : Nat := 0x3B1010 + 0x100 * i + 0x4 * j
/-- Address of ZTF_SCHED_LEN. -/
def ZTF_SCHED_LEN (i : Nat) : Nat := 0x3B1020 + 0x100 * i
/-- Address of ZTF_CTL. -/
def ZTF_CTL (i : Nat) : Nat := 0x3B1024 + 0x100 * i
/-- Address of ZTF_STAT. -/
def ZTF_STAT (i : Nat) : Nat := 0x3B1028 + 0x100 * i
/-- Address of ZTF_TAG. -/
def ZTF_TAG (i : Nat) : Nat := 0x3B102C + 0x100 * i
/-- Address of ZTF_WAIT. -/
def ZTF_WAIT (i j : Nat) : Nat := 0x3B1030 + 0x100 * i + 0x4 * j
/-- Address of ZTF_SLOT_CYC. -/
def ZTF_SLOT_CYC (i j : Nat) : Nat := 0x3B1040 + 0x100 * i + 0x4 * j
/-- Address of ZTF_DA. -/
def ZTF_DA (i : Nat) : Nat := 0x3B1050 + 0x100 * i
/-- Address of ZTF_SA. -/
def ZTF_SA (i : Nat) : Nat := 0x3B1058 + 0x100 * i
/-- Address of ZTF_CNT. -/
def ZTF_CNT (i j : Nat) : Nat := 0x3B1080 + 0x100 * i + 0x8 * j
/-- Address of LEDGER. -/
def LEDGER (i j k : Nat) : Nat := 0x3C0000 + 0x10000 * i + 0x1000 * j + 0x8 * k
/-- Address of LEDGER_INFLIGHT. -/
def LEDGER_INFLIGHT (i j : Nat) : Nat := 0x3C0020 + 0x10000 * i + 0x1000 * j
/-- Address of LEDGER_REFUSED. -/
def LEDGER_REFUSED (i j k : Nat) : Nat := 0x3C0100 + 0x10000 * i + 0x1000 * j + 0x8 * k
/-- Address of LEDGER_DROPPED. -/
def LEDGER_DROPPED (i j k : Nat) : Nat := 0x3C0200 + 0x10000 * i + 0x1000 * j + 0x8 * k
/-- Address of LEDGER_CTL. -/
def LEDGER_CTL : Nat := 0x20000
/-- Address of LEDGER_STAT. -/
def LEDGER_STAT : Nat := 0x20004
/-- Address of COST. -/
def COST (i j : Nat) : Nat := 0x3E0000 + 0x800 * i + 0x4 * j
/-- Address of COST_CTL. -/
def COST_CTL : Nat := 0x3E1000
/-- Address of COST_STAT. -/
def COST_STAT (i : Nat) : Nat := 0x3E1010 + 0x4 * i
/-- Address of TINT_CTL. -/
def TINT_CTL : Nat := 0x3F0000
/-- Address of TINT_EVT. -/
def TINT_EVT : Nat := 0x3F0004
/-- Address of TINT_EVT_EN. -/
def TINT_EVT_EN : Nat := 0x3F0008
/-- Address of TINT_LOG_ADDR. -/
def TINT_LOG_ADDR : Nat := 0x3F0010
/-- Address of TINT_LOG_INFO. -/
def TINT_LOG_INFO : Nat := 0x3F0018
/-- Address of TINT_CNT. -/
def TINT_CNT (i : Nat) : Nat := 0x3F0100 + 0x8 * i
/-- Address of TINT_CORE. -/
def TINT_CORE (i j : Nat) : Nat := 0x3F1000 + 0x20 * i + 0x8 * j
/-- Address of DEVC_PIN_FLT. -/
def DEVC_PIN_FLT (i : Nat) : Nat := 0x400100 + 0x4 * i
/-- Address of SA_EVT_POPR. -/
def SA_EVT_POPR : Nat := 0x400200
/-- Address of SA_EVT_OVF. -/
def SA_EVT_OVF : Nat := 0x400208
/-- Address of DEVC_FB_STAT. -/
def DEVC_FB_STAT : Nat := 0x400210
/-- Address of DSRC_CFG. -/
def DSRC_CFG (i : Nat) : Nat := 0x401000 + 0x10 * i
/-- Address of DSRC_COAL. -/
def DSRC_COAL (i : Nat) : Nat := 0x401004 + 0x10 * i
/-- Address of DSRC_STAT. -/
def DSRC_STAT (i : Nat) : Nat := 0x401008 + 0x10 * i
/-- Address of DSRC_CMD. -/
def DSRC_CMD (i : Nat) : Nat := 0x40100C + 0x10 * i
/-- Address of AON_WAKE. -/
def AON_WAKE (i j : Nat) : Nat := 0x410000 + 0x20 * i + 0x4 * j
/-- Address of AON_WSRC. -/
def AON_WSRC (i : Nat) : Nat := 0x410C00 + 0x4 * i
/-- Address of TAMPER_FLT. -/
def TAMPER_FLT (i : Nat) : Nat := 0x411000 + 0x4 * i
/-- Address of LC_STAT. -/
def LC_STAT : Nat := 0x420000
/-- Address of PRIN_CTL. -/
def PRIN_CTL : Nat := 0x420004
/-- Address of ZEROISE_STAT. -/
def ZEROISE_STAT : Nat := 0x420008
/-- Address of TAMPER_CTL. -/
def TAMPER_CTL : Nat := 0x42000C
/-- Address of VAULT_STAT. -/
def VAULT_STAT : Nat := 0x420010
/-- Address of FAULT_CTL. -/
def FAULT_CTL : Nat := 0x430000
/-- Address of FAULT_STAT. -/
def FAULT_STAT : Nat := 0x430004
/-- Address of ALIVE_KICKR. -/
def ALIVE_KICKR : Nat := 0x430008
/-- Address of MIRROR_STAT. -/
def MIRROR_STAT : Nat := 0x430010
/-- Address of DUST_CTL. -/
def DUST_CTL : Nat := 0x430020
/-- Address of DUST_STAT. -/
def DUST_STAT : Nat := 0x430024
/-- Address of DERRQ_POPR. -/
def DERRQ_POPR (i : Nat) : Nat := 0x430040 + 0x4 * i
/-- Address of DERRQ_STAT. -/
def DERRQ_STAT : Nat := 0x430050
/-- Address of DERRQ_OVF. -/
def DERRQ_OVF : Nat := 0x430058
/-- Address of PWR_CMD. -/
def PWR_CMD : Nat := 0x440000
/-- Address of PWR_CMD_STAT. -/
def PWR_CMD_STAT : Nat := 0x440004
/-- Address of MON_EVT. -/
def MON_EVT : Nat := 0x440008
/-- Address of MON_EVT_EN. -/
def MON_EVT_EN : Nat := 0x44000C
/-- Address of THERM_CFG. -/
def THERM_CFG : Nat := 0x440010
/-- Address of PWR_CMD_IGNORED. -/
def PWR_CMD_IGNORED : Nat := 0x440018
/-- Address of PWR_STAT. -/
def PWR_STAT (i : Nat) : Nat := 0x440100 + 0x4 * i
/-- Address of THERM. -/
def THERM (i : Nat) : Nat := 0x440400 + 0x4 * i
/-- Address of DROOP_WARN. -/
def DROOP_WARN (i : Nat) : Nat := 0x440500 + 0x8 * i
/-- Address of CLK_CTL. -/
def CLK_CTL : Nat := 0x450000
/-- Address of CLK_STAT. -/
def CLK_STAT : Nat := 0x450004
/-- Address of CLK_EVT. -/
def CLK_EVT : Nat := 0x450008
/-- Address of CLK_EVT_EN. -/
def CLK_EVT_EN : Nat := 0x45000C
/-- Address of REF_PPM. -/
def REF_PPM (i : Nat) : Nat := 0x450010 + 0x4 * i
/-- Address of RST_STAT. -/
def RST_STAT : Nat := 0x450020
/-- Address of RST_FLT. -/
def RST_FLT (i : Nat) : Nat := 0x450030 + 0x4 * i
/-- Address of REF_SWITCHES. -/
def REF_SWITCHES : Nat := 0x450040
/-- Address of PLL_SWITCHES. -/
def PLL_SWITCHES : Nat := 0x450048
/-- Address of RING_CFG. -/
def RING_CFG : Nat := 0x460000
/-- Address of RING_REPLR. -/
def RING_REPLR : Nat := 0x460004
/-- Address of RING_SPILL_CFG. -/
def RING_SPILL_CFG : Nat := 0x460008
/-- Address of RING_SPILL_DIR. -/
def RING_SPILL_DIR (i : Nat) : Nat := 0x460010 + 0x4 * i
/-- Address of SPILL_FREE. -/
def SPILL_FREE (i : Nat) : Nat := 0x460018 + 0x4 * i
/-- Address of RING_EVT. -/
def RING_EVT : Nat := 0x460020
/-- Address of RING_EVT_EN. -/
def RING_EVT_EN : Nat := 0x460024
/-- Address of SPILL_SENT. -/
def SPILL_SENT (i : Nat) : Nat := 0x460100 + 0x8 * i
/-- Address of RING_CNT. -/
def RING_CNT (i : Nat) : Nat := 0x460110 + 0x8 * i
/-- Address of RPORT_CTL. -/
def RPORT_CTL (i : Nat) : Nat := 0x461000 + 0x100 * i
/-- Address of RPORT_STAT. -/
def RPORT_STAT (i : Nat) : Nat := 0x461004 + 0x100 * i
/-- Address of RPORT_CNT. -/
def RPORT_CNT (i j : Nat) : Nat := 0x461040 + 0x100 * i + 0x8 * j
/-- Address of REPL_STAT. -/
def REPL_STAT (i : Nat) : Nat := 0x468000 + 0x4 * i
/-- Address of HOSTIF_EVT. -/
def HOSTIF_EVT : Nat := 0x470000
/-- Address of HOSTIF_EVT_EN. -/
def HOSTIF_EVT_EN : Nat := 0x470004
/-- Address of MBX_TMO. -/
def MBX_TMO : Nat := 0x470008
/-- Address of ACC_LOG_ADDR. -/
def ACC_LOG_ADDR : Nat := 0x470010
/-- Address of ACC_LOG_INFO. -/
def ACC_LOG_INFO : Nat := 0x470018
/-- Address of SMB_NOTIFYR. -/
def SMB_NOTIFYR : Nat := 0x47001C
/-- Address of SMB_CFG. -/
def SMB_CFG : Nat := 0x470020
/-- Address of HOSTIF_CNT. -/
def HOSTIF_CNT (i : Nat) : Nat := 0x470100 + 0x8 * i
/-- Address of HOST_VEC. -/
def HOST_VEC (i : Nat) : Nat := 0x470204 + 0x4 * i
/-- Address of ROT_CTL. -/
def ROT_CTL (i : Nat) : Nat := 0x800000 + 0x40000 * i
/-- Address of ROT_STAT. -/
def ROT_STAT (i : Nat) : Nat := 0x800004 + 0x40000 * i
/-- Address of ROT_STEPR. -/
def ROT_STEPR (i : Nat) : Nat := 0x800008 + 0x40000 * i
/-- Address of ROT_CORE. -/
def ROT_CORE (i j : Nat) : Nat := 0x800010 + 0x40000 * i + 0x4 * j
/-- Address of ERRQ_POPR. -/
def ERRQ_POPR (i j : Nat) : Nat := 0x800040 + 0x40000 * i + 0x4 * j
/-- Address of ERRQ_STAT. -/
def ERRQ_STAT (i : Nat) : Nat := 0x800050 + 0x40000 * i
/-- Address of ERRQ_OVF. -/
def ERRQ_OVF (i : Nat) : Nat := 0x800058 + 0x40000 * i
/-- Address of BIST_CNT. -/
def BIST_CNT (i j : Nat) : Nat := 0x800060 + 0x40000 * i + 0x8 * j
/-- Address of EVC_CNT. -/
def EVC_CNT (i j k : Nat) : Nat := 0x810100 + 0x40000 * i + 0x20 * j + 0x8 * k
/-- Address of FALLBACK_COUNT. -/
def FALLBACK_COUNT (i : Nat) : Nat := 0x810200 + 0x40000 * i
/-- Address of SRC_CFG. -/
def SRC_CFG (i j : Nat) : Nat := 0x811000 + 0x40000 * i + 0x10 * j
/-- Address of SRC_COAL. -/
def SRC_COAL (i j : Nat) : Nat := 0x811004 + 0x40000 * i + 0x10 * j
/-- Address of SRC_STAT. -/
def SRC_STAT (i j : Nat) : Nat := 0x811008 + 0x40000 * i + 0x10 * j
/-- Address of SRC_CMD. -/
def SRC_CMD (i j : Nat) : Nat := 0x81100C + 0x40000 * i + 0x10 * j
/-- Address of PSRC_CFG. -/
def PSRC_CFG (i j k : Nat) : Nat := 0x812000 + 0x40000 * i + 0x200 * j + 0x10 * k
/-- Address of PSRC_COAL. -/
def PSRC_COAL (i j k : Nat) : Nat := 0x812004 + 0x40000 * i + 0x200 * j + 0x10 * k
/-- Address of PSRC_STAT. -/
def PSRC_STAT (i j k : Nat) : Nat := 0x812008 + 0x40000 * i + 0x200 * j + 0x10 * k
/-- Address of PSRC_CMD. -/
def PSRC_CMD (i j k : Nat) : Nat := 0x81200C + 0x40000 * i + 0x200 * j + 0x10 * k
/-- Address of CAON_WAKE. -/
def CAON_WAKE (i j k : Nat) : Nat := 0x813000 + 0x40000 * i + 0x20 * j + 0x4 * k
/-- Address of ARB_CTL. -/
def ARB_CTL (i : Nat) : Nat := 0x820000 + 0x40000 * i
/-- Address of MEM_EVT. -/
def MEM_EVT (i : Nat) : Nat := 0x820004 + 0x40000 * i
/-- Address of MEM_EVT_EN. -/
def MEM_EVT_EN (i : Nat) : Nat := 0x820008 + 0x40000 * i
/-- Address of SKIM_CTL. -/
def SKIM_CTL (i : Nat) : Nat := 0x820010 + 0x40000 * i
/-- Address of SKIM_STAT. -/
def SKIM_STAT (i : Nat) : Nat := 0x820014 + 0x40000 * i
/-- Address of REMAP_CTL. -/
def REMAP_CTL (i : Nat) : Nat := 0x820018 + 0x40000 * i
/-- Address of REMAP_STAT. -/
def REMAP_STAT (i : Nat) : Nat := 0x82001C + 0x40000 * i
/-- Address of ARB_PRI. -/
def ARB_PRI (i j : Nat) : Nat := 0x820100 + 0x40000 * i + 0x10 * j
/-- Address of ARB_STAT. -/
def ARB_STAT (i j : Nat) : Nat := 0x820104 + 0x40000 * i + 0x10 * j
/-- Address of MREP. -/
def MREP (i j : Nat) : Nat := 0x820200 + 0x40000 * i + 0x4 * j
/-- Address of ARB_CNT. -/
def ARB_CNT (i j k : Nat) : Nat := 0x821000 + 0x40000 * i + 0x40 * j + 0x8 * k
/-- Address of MAX_WAIT. -/
def MAX_WAIT (i j : Nat) : Nat := 0x821020 + 0x40000 * i + 0x40 * j
/-- Address of MEM_CNT. -/
def MEM_CNT (i j : Nat) : Nat := 0x822000 + 0x40000 * i + 0x8 * j
/-- Address of CORE_MEM_CNT. -/
def CORE_MEM_CNT (i j k : Nat) : Nat := 0x822040 + 0x40000 * i + 0x10 * j + 0x8 * k
/-- Address of CMEM_UE_ADDR. -/
def CMEM_UE_ADDR (i : Nat) : Nat := 0x822100 + 0x40000 * i
/-- Address of DMA_SRC. -/
def DMA_SRC (i j : Nat) : Nat := 0x830000 + 0x40000 * i + 0x100 * j
/-- Address of DMA_DST. -/
def DMA_DST (i j : Nat) : Nat := 0x830004 + 0x40000 * i + 0x100 * j
/-- Address of DMA_CNT. -/
def DMA_CNT (i j : Nat) : Nat := 0x830008 + 0x40000 * i + 0x100 * j
/-- Address of DMA_CTL. -/
def DMA_CTL (i j : Nat) : Nat := 0x83000C + 0x40000 * i + 0x100 * j
/-- Address of DMA_STAT. -/
def DMA_STAT (i j : Nat) : Nat := 0x830010 + 0x40000 * i + 0x100 * j
/-- Address of DMA_QCFG. -/
def DMA_QCFG (i j : Nat) : Nat := 0x830014 + 0x40000 * i + 0x100 * j
/-- Address of DMA_QPTR. -/
def DMA_QPTR (i j : Nat) : Nat := 0x830018 + 0x40000 * i + 0x100 * j
/-- Address of DMA_DREQ. -/
def DMA_DREQ (i j : Nat) : Nat := 0x83001C + 0x40000 * i + 0x100 * j
/-- Address of DMA_CNTR. -/
def DMA_CNTR (i j k : Nat) : Nat := 0x830040 + 0x40000 * i + 0x100 * j + 0x8 * k
/-- Address of word w (CFG, COAL, STAT, CMD) of shared source j of cluster i. -/
def SRC (i j w : Nat) : Nat := 0x811000 + 0x40000 * i + 0x10 * j + 4 * w
/-- Address of word w of source k of core j's private bank in cluster i. -/
def PSRC (i j k w : Nat) : Nat := 0x812000 + 0x40000 * i + 0x200 * j + 0x10 * k + 4 * w
/-- Address of word w of source i of the device-level controller. -/
def DSRC (i w : Nat) : Nat := 0x401000 + 0x10 * i + 4 * w

/-- Field PORT_CFG_ENABLE. -/
def PORT_CFG_ENABLE : Fld := ⟨31, 31⟩
/-- Field PORT_CFG_MAX_FRAME. -/
def PORT_CFG_MAX_FRAME : Fld := ⟨27, 14⟩
/-- Field PORT_CFG_TYPE. -/
def PORT_CFG_TYPE : Fld := ⟨11, 8⟩
/-- Field PORT_CFG_WIDTH. -/
def PORT_CFG_WIDTH : Fld := ⟨5, 4⟩
/-- Field PORT_CFG_FEC. -/
def PORT_CFG_FEC : Fld := ⟨1, 0⟩
/-- Field PORT_STAT_LINK_UP. -/
def PORT_STAT_LINK_UP : Fld := ⟨31, 31⟩
/-- Field PORT_STAT_PCS_LOCK. -/
def PORT_STAT_PCS_LOCK : Fld := ⟨30, 30⟩
/-- Field PORT_STAT_FEC_LOCK. -/
def PORT_STAT_FEC_LOCK : Fld := ⟨29, 29⟩
/-- Field PORT_STAT_DRAINED. -/
def PORT_STAT_DRAINED : Fld := ⟨28, 28⟩
/-- Field PORT_STAT_FENCED. -/
def PORT_STAT_FENCED : Fld := ⟨27, 27⟩
/-- Field PORT_STAT_CFG_ERR. -/
def PORT_STAT_CFG_ERR : Fld := ⟨23, 20⟩
/-- Field PORT_STAT_LANE_LOCK. -/
def PORT_STAT_LANE_LOCK : Fld := ⟨7, 0⟩
/-- Field PORT_EVT_ABANDON. -/
def PORT_EVT_ABANDON : Fld := ⟨7, 7⟩
/-- Field PORT_EVT_LATE_DISCARD. -/
def PORT_EVT_LATE_DISCARD : Fld := ⟨6, 6⟩
/-- Field PORT_EVT_MAC_CTRL_RX. -/
def PORT_EVT_MAC_CTRL_RX : Fld := ⟨5, 5⟩
/-- Field PORT_EVT_FEC_UNCORR. -/
def PORT_EVT_FEC_UNCORR : Fld := ⟨4, 4⟩
/-- Field PORT_EVT_HI_BER. -/
def PORT_EVT_HI_BER : Fld := ⟨3, 3⟩
/-- Field PORT_EVT_REMOTE_FAULT. -/
def PORT_EVT_REMOTE_FAULT : Fld := ⟨2, 2⟩
/-- Field PORT_EVT_LINK_UP. -/
def PORT_EVT_LINK_UP : Fld := ⟨1, 1⟩
/-- Field PORT_EVT_LINK_DOWN. -/
def PORT_EVT_LINK_DOWN : Fld := ⟨0, 0⟩
/-- Field LANE_CFG_FENCE. -/
def LANE_CFG_FENCE : Fld := ⟨31, 31⟩
/-- Field LANE_CFG_UNFENCE. -/
def LANE_CFG_UNFENCE : Fld := ⟨30, 30⟩
/-- Field LANE_CFG_TX_EQ_PRESET. -/
def LANE_CFG_TX_EQ_PRESET : Fld := ⟨15, 12⟩
/-- Field LANE_CFG_PRBS. -/
def LANE_CFG_PRBS : Fld := ⟨11, 10⟩
/-- Field LANE_CFG_RX_INVERT. -/
def LANE_CFG_RX_INVERT : Fld := ⟨1, 1⟩
/-- Field LANE_CFG_TX_INVERT. -/
def LANE_CFG_TX_INVERT : Fld := ⟨0, 0⟩
/-- Field LANE_STAT_PRBS_ERR. -/
def LANE_STAT_PRBS_ERR : Fld := ⟨31, 16⟩
/-- Field LANE_STAT_CAL_DONE. -/
def LANE_STAT_CAL_DONE : Fld := ⟨3, 3⟩
/-- Field LANE_STAT_CDR_LOCK. -/
def LANE_STAT_CDR_LOCK : Fld := ⟨2, 2⟩
/-- Field LANE_STAT_SIG_DET. -/
def LANE_STAT_SIG_DET : Fld := ⟨1, 1⟩
/-- Field LANE_STAT_TX_IDLE. -/
def LANE_STAT_TX_IDLE : Fld := ⟨0, 0⟩
/-- Field QUAD_CTL_FENCE. -/
def QUAD_CTL_FENCE : Fld := ⟨31, 31⟩
/-- Field QUAD_CTL_PLL_LOCK. -/
def QUAD_CTL_PLL_LOCK : Fld := ⟨30, 30⟩
/-- Field QUAD_CTL_CAL_DONE. -/
def QUAD_CTL_CAL_DONE : Fld := ⟨29, 29⟩
/-- Field QUAD_CTL_FAULT_CODE. -/
def QUAD_CTL_FAULT_CODE : Fld := ⟨23, 16⟩
/-- Field LINE_LOCKR_LOCK. -/
def LINE_LOCKR_LOCK : Fld := ⟨0, 0⟩
/-- Field PRM_CFG_BUDGET. -/
def PRM_CFG_BUDGET : Fld := ⟨25, 16⟩
/-- Field PRM_CFG_KEY_TYPE. -/
def PRM_CFG_KEY_TYPE : Fld := ⟨15, 14⟩
/-- Field PRM_CFG_HXT_START. -/
def PRM_CFG_HXT_START : Fld := ⟨13, 8⟩
/-- Field PRM_CFG_DEF_CLASS. -/
def PRM_CFG_DEF_CLASS : Fld := ⟨5, 0⟩
/-- Field PRM_BUF_CLEAR_HDR. -/
def PRM_BUF_CLEAR_HDR : Fld := ⟨31, 24⟩
/-- Field PRM_BUF_BUF_CELLS. -/
def PRM_BUF_BUF_CELLS : Fld := ⟨11, 0⟩
/-- Field HXT_MATCH_VALID. -/
def HXT_MATCH_VALID : Fld := ⟨31, 31⟩
/-- Field HXT_MATCH_TERM. -/
def HXT_MATCH_TERM : Fld := ⟨30, 30⟩
/-- Field HXT_MATCH_NEXT. -/
def HXT_MATCH_NEXT : Fld := ⟨29, 24⟩
/-- Field HXT_MATCH_OFFSET. -/
def HXT_MATCH_OFFSET : Fld := ⟨23, 16⟩
/-- Field HXT_MATCH_VALUE. -/
def HXT_MATCH_VALUE : Fld := ⟨15, 0⟩
/-- Field HXT_CTL_MISS_REFUSE. -/
def HXT_CTL_MISS_REFUSE : Fld := ⟨31, 31⟩
/-- Field HXT_CTL_MISS_NEXT. -/
def HXT_CTL_MISS_NEXT : Fld := ⟨29, 24⟩
/-- Field HXT_CTL_ADVANCE. -/
def HXT_CTL_ADVANCE : Fld := ⟨23, 16⟩
/-- Field HXT_CTL_MASK. -/
def HXT_CTL_MASK : Fld := ⟨15, 0⟩
/-- Field HXT_XA_XTYPE. -/
def HXT_XA_XTYPE : Fld := ⟨31, 28⟩
/-- Field HXT_XA_XLEN. -/
def HXT_XA_XLEN : Fld := ⟨27, 24⟩
/-- Field HXT_XA_XOFF. -/
def HXT_XA_XOFF : Fld := ⟨23, 16⟩
/-- Field HXT_XA_SET_CLASS. -/
def HXT_XA_SET_CLASS : Fld := ⟨15, 15⟩
/-- Field HXT_XA_CLASS. -/
def HXT_XA_CLASS : Fld := ⟨13, 8⟩
/-- Field CORE_Q_ELIGIBLE. -/
def CORE_Q_ELIGIBLE : Fld := ⟨31, 31⟩
/-- Field CORE_Q_EPOCH. -/
def CORE_Q_EPOCH : Fld := ⟨27, 20⟩
/-- Field CORE_Q_QDEPTH. -/
def CORE_Q_QDEPTH : Fld := ⟨3, 0⟩
/-- Field LKUP_CTL_VALID. -/
def LKUP_CTL_VALID : Fld := ⟨31, 31⟩
/-- Field LKUP_CTL_SIDE. -/
def LKUP_CTL_SIDE : Fld := ⟨30, 30⟩
/-- Field LKUP_CTL_KEY_TYPE. -/
def LKUP_CTL_KEY_TYPE : Fld := ⟨29, 28⟩
/-- Field LKUP_CTL_PORT. -/
def LKUP_CTL_PORT : Fld := ⟨27, 24⟩
/-- Field LKUP_CTL_SA_INDEX. -/
def LKUP_CTL_SA_INDEX : Fld := ⟨11, 0⟩
/-- Field SA_CFG_VALID. -/
def SA_CFG_VALID : Fld := ⟨31, 31⟩
/-- Field SA_CFG_DIR. -/
def SA_CFG_DIR : Fld := ⟨30, 30⟩
/-- Field SA_CFG_FORMAT. -/
def SA_CFG_FORMAT : Fld := ⟨29, 28⟩
/-- Field SA_CFG_REPLAY_MODE. -/
def SA_CFG_REPLAY_MODE : Fld := ⟨27, 26⟩
/-- Field SA_CFG_INTEG_ONLY. -/
def SA_CFG_INTEG_ONLY : Fld := ⟨25, 25⟩
/-- Field SA_CFG_EGRESS_PORT. -/
def SA_CFG_EGRESS_PORT : Fld := ⟨23, 20⟩
/-- Field SA_CFG_EPOCH. -/
def SA_CFG_EPOCH : Fld := ⟨19, 12⟩
/-- Field SA_HOME_HOME_COUNT. -/
def SA_HOME_HOME_COUNT : Fld := ⟨17, 16⟩
/-- Field SA_HOME_HOME3. -/
def SA_HOME_HOME3 : Fld := ⟨15, 12⟩
/-- Field SA_HOME_HOME2. -/
def SA_HOME_HOME2 : Fld := ⟨11, 8⟩
/-- Field SA_HOME_HOME1. -/
def SA_HOME_HOME1 : Fld := ⟨7, 4⟩
/-- Field SA_HOME_HOME0. -/
def SA_HOME_HOME0 : Fld := ⟨3, 0⟩
/-- Field SA_KEY_ACTIVE. -/
def SA_KEY_ACTIVE : Fld := ⟨31, 31⟩
/-- Field SA_KEY_KV1. -/
def SA_KEY_KV1 : Fld := ⟨30, 30⟩
/-- Field SA_KEY_KV0. -/
def SA_KEY_KV0 : Fld := ⟨29, 29⟩
/-- Field SA_KEY_AN1. -/
def SA_KEY_AN1 : Fld := ⟨27, 26⟩
/-- Field SA_KEY_AN0. -/
def SA_KEY_AN0 : Fld := ⟨25, 24⟩
/-- Field SA_KEY_SKB1. -/
def SA_KEY_SKB1 : Fld := ⟨19, 10⟩
/-- Field SA_KEY_SKB0. -/
def SA_KEY_SKB0 : Fld := ⟨9, 0⟩
/-- Field SA_STAT_STOPPED. -/
def SA_STAT_STOPPED : Fld := ⟨31, 31⟩
/-- Field SA_STAT_PN_WARNED. -/
def SA_STAT_PN_WARNED : Fld := ⟨30, 30⟩
/-- Field RSQ_EVT_DEADLINE_MISS. -/
def RSQ_EVT_DEADLINE_MISS : Fld := ⟨2, 2⟩
/-- Field RSQ_EVT_UNDERRUN. -/
def RSQ_EVT_UNDERRUN : Fld := ⟨1, 1⟩
/-- Field RSQ_EVT_REPLAY. -/
def RSQ_EVT_REPLAY : Fld := ⟨0, 0⟩
/-- Field RSQ_PORT_CFG_DESC_SLOTS. -/
def RSQ_PORT_CFG_DESC_SLOTS : Fld := ⟨31, 14⟩
/-- Field RSQ_PORT_CFG_CT_THRESH. -/
def RSQ_PORT_CFG_CT_THRESH : Fld := ⟨13, 8⟩
/-- Field RSQ_PORT_STAT_OCCUPIED. -/
def RSQ_PORT_STAT_OCCUPIED : Fld := ⟨31, 14⟩
/-- Field RSQ_PORT_STAT_HEAD_WAIT. -/
def RSQ_PORT_STAT_HEAD_WAIT : Fld := ⟨0, 0⟩
/-- Field CLINK_STAT_UP. -/
def CLINK_STAT_UP : Fld := ⟨31, 31⟩
/-- Field CLINK_STAT_FENCED. -/
def CLINK_STAT_FENCED : Fld := ⟨30, 30⟩
/-- Field CLINK_STAT_FENCE_CAUSE. -/
def CLINK_STAT_FENCE_CAUSE : Fld := ⟨29, 28⟩
/-- Field CLINK_STAT_IN_CREDITS. -/
def CLINK_STAT_IN_CREDITS : Fld := ⟨23, 16⟩
/-- Field CLINK_STAT_OUT_CREDITS. -/
def CLINK_STAT_OUT_CREDITS : Fld := ⟨15, 8⟩
/-- Field CLINK_STAT_IN_RUN. -/
def CLINK_STAT_IN_RUN : Fld := ⟨7, 4⟩
/-- Field CLINK_STAT_OUT_RUN. -/
def CLINK_STAT_OUT_RUN : Fld := ⟨3, 0⟩
/-- Field CLINK_POOL_POOL_BASE. -/
def CLINK_POOL_POOL_BASE : Fld := ⟨29, 16⟩
/-- Field CLINK_POOL_POOL_CELLS. -/
def CLINK_POOL_POOL_CELLS : Fld := ⟨14, 0⟩
/-- Field DLV_CTL_RETRY_ALLOW. -/
def DLV_CTL_RETRY_ALLOW : Fld := ⟨2, 0⟩
/-- Field DLV_EVT_BUCKET_MISMATCH. -/
def DLV_EVT_BUCKET_MISMATCH : Fld := ⟨1, 1⟩
/-- Field DLV_EVT_PUTTY_STARVE. -/
def DLV_EVT_PUTTY_STARVE : Fld := ⟨0, 0⟩
/-- Field DLV_PORT_CFG_SPILL_EN. -/
def DLV_PORT_CFG_SPILL_EN : Fld := ⟨31, 31⟩
/-- Field DLV_PORT_CFG_SPILL_DIR. -/
def DLV_PORT_CFG_SPILL_DIR : Fld := ⟨30, 30⟩
/-- Field ZTF_CFG_ZTF. -/
def ZTF_CFG_ZTF : Fld := ⟨31, 31⟩
/-- Field ZTF_CFG_TFC. -/
def ZTF_CFG_TFC : Fld := ⟨30, 30⟩
/-- Field ZTF_CFG_TAGGED. -/
def ZTF_CFG_TAGGED : Fld := ⟨29, 29⟩
/-- Field ZTF_CFG_PUTTY_CLASS. -/
def ZTF_CFG_PUTTY_CLASS : Fld := ⟨27, 22⟩
/-- Field ZTF_CFG_RESERVE_DEPTH. -/
def ZTF_CFG_RESERVE_DEPTH : Fld := ⟨19, 12⟩
/-- Field ZTF_CFG_COVER_SA. -/
def ZTF_CFG_COVER_SA : Fld := ⟨11, 0⟩
/-- Field ZTF_STAT_ZTF_ON. -/
def ZTF_STAT_ZTF_ON : Fld := ⟨31, 31⟩
/-- Field ZTF_STAT_TFC_ON. -/
def ZTF_STAT_TFC_ON : Fld := ⟨30, 30⟩
/-- Field ZTF_STAT_RUNNING. -/
def ZTF_STAT_RUNNING : Fld := ⟨29, 29⟩
/-- Field ZTF_STAT_TAGGED_ON. -/
def ZTF_STAT_TAGGED_ON : Fld := ⟨28, 28⟩
/-- Field ZTF_STAT_ERR. -/
def ZTF_STAT_ERR : Fld := ⟨18, 16⟩
/-- Field LEDGER_CTL_ENABLE. -/
def LEDGER_CTL_ENABLE : Fld := ⟨31, 31⟩
/-- Field LEDGER_CTL_LOCK. -/
def LEDGER_CTL_LOCK : Fld := ⟨30, 30⟩
/-- Field LEDGER_STAT_FAIL_COUNT. -/
def LEDGER_STAT_FAIL_COUNT : Fld := ⟨31, 16⟩
/-- Field LEDGER_STAT_LAST_SIDE. -/
def LEDGER_STAT_LAST_SIDE : Fld := ⟨5, 5⟩
/-- Field LEDGER_STAT_LAST_PORT. -/
def LEDGER_STAT_LAST_PORT : Fld := ⟨3, 0⟩
/-- Field COST_CTL_INVAL_1. -/
def COST_CTL_INVAL_1 : Fld := ⟨3, 3⟩
/-- Field COST_CTL_INVAL_0. -/
def COST_CTL_INVAL_0 : Fld := ⟨2, 2⟩
/-- Field COST_CTL_COMMIT_1. -/
def COST_CTL_COMMIT_1 : Fld := ⟨1, 1⟩
/-- Field COST_CTL_COMMIT_0. -/
def COST_CTL_COMMIT_0 : Fld := ⟨0, 0⟩
/-- Field COST_STAT_VALID. -/
def COST_STAT_VALID : Fld := ⟨31, 31⟩
/-- Field COST_STAT_ERR. -/
def COST_STAT_ERR : Fld := ⟨18, 16⟩
/-- Field COST_STAT_EPOCH. -/
def COST_STAT_EPOCH : Fld := ⟨15, 8⟩
/-- Field COST_STAT_COUNT. -/
def COST_STAT_COUNT : Fld := ⟨6, 0⟩
/-- Field TINT_CTL_RCLR_EN. -/
def TINT_CTL_RCLR_EN : Fld := ⟨0, 0⟩
/-- Field TINT_EVT_LENS_READ. -/
def TINT_EVT_LENS_READ : Fld := ⟨4, 4⟩
/-- Field TINT_EVT_HOST_READ. -/
def TINT_EVT_HOST_READ : Fld := ⟨3, 3⟩
/-- Field TINT_EVT_RING. -/
def TINT_EVT_RING : Fld := ⟨2, 2⟩
/-- Field TINT_EVT_RED_EGRESS. -/
def TINT_EVT_RED_EGRESS : Fld := ⟨1, 1⟩
/-- Field TINT_EVT_BLK_EGRESS. -/
def TINT_EVT_BLK_EGRESS : Fld := ⟨0, 0⟩
/-- Field TINT_LOG_INFO_VALID. -/
def TINT_LOG_INFO_VALID : Fld := ⟨31, 31⟩
/-- Field TINT_LOG_INFO_SRC. -/
def TINT_LOG_INFO_SRC : Fld := ⟨8, 8⟩
/-- Field TINT_LOG_INFO_K. -/
def TINT_LOG_INFO_K : Fld := ⟨1, 1⟩
/-- Field TINT_LOG_INFO_R. -/
def TINT_LOG_INFO_R : Fld := ⟨0, 0⟩
/-- Field PIN_FLT_LEVEL. -/
def PIN_FLT_LEVEL : Fld := ⟨31, 31⟩
/-- Field PIN_FLT_RAW. -/
def PIN_FLT_RAW : Fld := ⟨30, 30⟩
/-- Field PIN_FLT_MODE. -/
def PIN_FLT_MODE : Fld := ⟨17, 16⟩
/-- Field PIN_FLT_GLITCH. -/
def PIN_FLT_GLITCH : Fld := ⟨15, 8⟩
/-- Field PIN_FLT_STABLE. -/
def PIN_FLT_STABLE : Fld := ⟨7, 0⟩
/-- Field LC_STAT_ROOT_LOST. -/
def LC_STAT_ROOT_LOST : Fld := ⟨15, 15⟩
/-- Field LC_STAT_SEEDS. -/
def LC_STAT_SEEDS : Fld := ⟨14, 14⟩
/-- Field LC_STAT_KEK_REPL. -/
def LC_STAT_KEK_REPL : Fld := ⟨13, 13⟩
/-- Field LC_STAT_KEK_IMPORT. -/
def LC_STAT_KEK_IMPORT : Fld := ⟨12, 12⟩
/-- Field LC_STAT_OWNER. -/
def LC_STAT_OWNER : Fld := ⟨9, 9⟩
/-- Field LC_STAT_RECOVERY. -/
def LC_STAT_RECOVERY : Fld := ⟨8, 8⟩
/-- Field LC_STAT_STATE. -/
def LC_STAT_STATE : Fld := ⟨2, 0⟩
/-- Field PRIN_CTL_HOST_MEM. -/
def PRIN_CTL_HOST_MEM : Fld := ⟨3, 3⟩
/-- Field PRIN_CTL_HOST_DMA. -/
def PRIN_CTL_HOST_DMA : Fld := ⟨2, 2⟩
/-- Field PRIN_CTL_HOST_LOG. -/
def PRIN_CTL_HOST_LOG : Fld := ⟨1, 1⟩
/-- Field PRIN_CTL_HOST_CFG. -/
def PRIN_CTL_HOST_CFG : Fld := ⟨0, 0⟩
/-- Field ZEROISE_STAT_DONE. -/
def ZEROISE_STAT_DONE : Fld := ⟨31, 31⟩
/-- Field ZEROISE_STAT_RUNNING. -/
def ZEROISE_STAT_RUNNING : Fld := ⟨30, 30⟩
/-- Field ZEROISE_STAT_ROOT. -/
def ZEROISE_STAT_ROOT : Fld := ⟨29, 29⟩
/-- Field ZEROISE_STAT_CAUSE. -/
def ZEROISE_STAT_CAUSE : Fld := ⟨23, 20⟩
/-- Field ZEROISE_STAT_LOOPS. -/
def ZEROISE_STAT_LOOPS : Fld := ⟨19, 16⟩
/-- Field ZEROISE_STAT_COUNT. -/
def ZEROISE_STAT_COUNT : Fld := ⟨15, 0⟩
/-- Field TAMPER_CTL_LATCH. -/
def TAMPER_CTL_LATCH : Fld := ⟨11, 8⟩
/-- Field TAMPER_CTL_EN. -/
def TAMPER_CTL_EN : Fld := ⟨3, 0⟩
/-- Field VAULT_STAT_TRNG_OK. -/
def VAULT_STAT_TRNG_OK : Fld := ⟨31, 31⟩
/-- Field VAULT_STAT_DRBG_SEEDED. -/
def VAULT_STAT_DRBG_SEEDED : Fld := ⟨30, 30⟩
/-- Field VAULT_STAT_ZEROISED. -/
def VAULT_STAT_ZEROISED : Fld := ⟨29, 29⟩
/-- Field VAULT_STAT_KE_OPEN. -/
def VAULT_STAT_KE_OPEN : Fld := ⟨28, 24⟩
/-- Field VAULT_STAT_EXP_PEND. -/
def VAULT_STAT_EXP_PEND : Fld := ⟨20, 18⟩
/-- Field VAULT_STAT_LIVE_KEYS. -/
def VAULT_STAT_LIVE_KEYS : Fld := ⟨13, 0⟩
/-- Field FAULT_STAT_CRITICAL. -/
def FAULT_STAT_CRITICAL : Fld := ⟨4, 4⟩
/-- Field FAULT_STAT_CAPACITY. -/
def FAULT_STAT_CAPACITY : Fld := ⟨3, 3⟩
/-- Field FAULT_STAT_PORT. -/
def FAULT_STAT_PORT : Fld := ⟨2, 2⟩
/-- Field FAULT_STAT_LOST. -/
def FAULT_STAT_LOST : Fld := ⟨1, 1⟩
/-- Field FAULT_STAT_ZEROISE. -/
def FAULT_STAT_ZEROISE : Fld := ⟨0, 0⟩
/-- Field MIRROR_STAT_ACTIVE. -/
def MIRROR_STAT_ACTIVE : Fld := ⟨31, 31⟩
/-- Field MIRROR_STAT_DONE. -/
def MIRROR_STAT_DONE : Fld := ⟨30, 30⟩
/-- Field MIRROR_STAT_NEW_EPOCH. -/
def MIRROR_STAT_NEW_EPOCH : Fld := ⟨23, 16⟩
/-- Field MIRROR_STAT_OLD_EPOCH. -/
def MIRROR_STAT_OLD_EPOCH : Fld := ⟨15, 8⟩
/-- Field MIRROR_STAT_CORES_NEW. -/
def MIRROR_STAT_CORES_NEW : Fld := ⟨6, 0⟩
/-- Field DUST_CTL_RELEASE. -/
def DUST_CTL_RELEASE : Fld := ⟨31, 31⟩
/-- Field DUST_CTL_KIND. -/
def DUST_CTL_KIND : Fld := ⟨15, 12⟩
/-- Field DUST_CTL_INDEX. -/
def DUST_CTL_INDEX : Fld := ⟨11, 0⟩
/-- Field DUST_STAT_BUSY. -/
def DUST_STAT_BUSY : Fld := ⟨31, 31⟩
/-- Field DUST_STAT_FAILED. -/
def DUST_STAT_FAILED : Fld := ⟨30, 30⟩
/-- Field DUST_STAT_KIND. -/
def DUST_STAT_KIND : Fld := ⟨15, 12⟩
/-- Field DUST_STAT_INDEX. -/
def DUST_STAT_INDEX : Fld := ⟨11, 0⟩
/-- Field DERRQ_STAT_LOST. -/
def DERRQ_STAT_LOST : Fld := ⟨31, 31⟩
/-- Field DERRQ_STAT_TOPSEV. -/
def DERRQ_STAT_TOPSEV : Fld := ⟨9, 8⟩
/-- Field DERRQ_STAT_COUNT. -/
def DERRQ_STAT_COUNT : Fld := ⟨4, 0⟩
/-- Field PWR_CMD_GO. -/
def PWR_CMD_GO : Fld := ⟨31, 31⟩
/-- Field PWR_CMD_OP. -/
def PWR_CMD_OP : Fld := ⟨30, 30⟩
/-- Field PWR_CMD_DOMAIN. -/
def PWR_CMD_DOMAIN : Fld := ⟨6, 0⟩
/-- Field PWR_CMD_STAT_BUSY. -/
def PWR_CMD_STAT_BUSY : Fld := ⟨31, 31⟩
/-- Field PWR_CMD_STAT_RESULT. -/
def PWR_CMD_STAT_RESULT : Fld := ⟨30, 28⟩
/-- Field PWR_CMD_STAT_DOMAIN. -/
def PWR_CMD_STAT_DOMAIN : Fld := ⟨6, 0⟩
/-- Field MON_EVT_VBAT_LOW. -/
def MON_EVT_VBAT_LOW : Fld := ⟨10, 10⟩
/-- Field MON_EVT_THERM_HOT. -/
def MON_EVT_THERM_HOT : Fld := ⟨9, 9⟩
/-- Field MON_EVT_THERM_WARN. -/
def MON_EVT_THERM_WARN : Fld := ⟨8, 8⟩
/-- Field MON_EVT_DROOP. -/
def MON_EVT_DROOP : Fld := ⟨6, 0⟩
/-- Field THERM_CFG_TRIP. -/
def THERM_CFG_TRIP : Fld := ⟨23, 16⟩
/-- Field THERM_CFG_HOT. -/
def THERM_CFG_HOT : Fld := ⟨15, 8⟩
/-- Field THERM_CFG_WARN. -/
def THERM_CFG_WARN : Fld := ⟨7, 0⟩
/-- Field CLK_CTL_AUTO. -/
def CLK_CTL_AUTO : Fld := ⟨31, 31⟩
/-- Field CLK_CTL_WARM_REQ. -/
def CLK_CTL_WARM_REQ : Fld := ⟨8, 8⟩
/-- Field CLK_CTL_REF_SEL. -/
def CLK_CTL_REF_SEL : Fld := ⟨1, 1⟩
/-- Field CLK_CTL_PLL_SEL. -/
def CLK_CTL_PLL_SEL : Fld := ⟨0, 0⟩
/-- Field CLK_STAT_REF_A_OK. -/
def CLK_STAT_REF_A_OK : Fld := ⟨31, 31⟩
/-- Field CLK_STAT_REF_B_OK. -/
def CLK_STAT_REF_B_OK : Fld := ⟨30, 30⟩
/-- Field CLK_STAT_PLL_A_LOCK. -/
def CLK_STAT_PLL_A_LOCK : Fld := ⟨29, 29⟩
/-- Field CLK_STAT_PLL_B_LOCK. -/
def CLK_STAT_PLL_B_LOCK : Fld := ⟨28, 28⟩
/-- Field CLK_STAT_STBY_OK. -/
def CLK_STAT_STBY_OK : Fld := ⟨27, 27⟩
/-- Field CLK_STAT_HOLDOVER. -/
def CLK_STAT_HOLDOVER : Fld := ⟨26, 26⟩
/-- Field CLK_STAT_REF_DISAGREE. -/
def CLK_STAT_REF_DISAGREE : Fld := ⟨25, 25⟩
/-- Field CLK_EVT_HOLDOVER. -/
def CLK_EVT_HOLDOVER : Fld := ⟨4, 4⟩
/-- Field CLK_EVT_DISAGREE. -/
def CLK_EVT_DISAGREE : Fld := ⟨3, 3⟩
/-- Field CLK_EVT_STBY_LOST. -/
def CLK_EVT_STBY_LOST : Fld := ⟨2, 2⟩
/-- Field CLK_EVT_PLL_SWITCH. -/
def CLK_EVT_PLL_SWITCH : Fld := ⟨1, 1⟩
/-- Field CLK_EVT_REF_SWITCH. -/
def CLK_EVT_REF_SWITCH : Fld := ⟨0, 0⟩
/-- Field RST_STAT_WARM_COUNT. -/
def RST_STAT_WARM_COUNT : Fld := ⟨31, 16⟩
/-- Field RST_STAT_CAUSE. -/
def RST_STAT_CAUSE : Fld := ⟨3, 0⟩
/-- Field RING_CFG_EN. -/
def RING_CFG_EN : Fld := ⟨31, 31⟩
/-- Field RING_CFG_DATELINE. -/
def RING_CFG_DATELINE : Fld := ⟨30, 30⟩
/-- Field RING_CFG_RING_ID. -/
def RING_CFG_RING_ID : Fld := ⟨23, 8⟩
/-- Field RING_CFG_NODE. -/
def RING_CFG_NODE : Fld := ⟨7, 0⟩
/-- Field RING_REPLR_LEASE_SHIFT. -/
def RING_REPLR_LEASE_SHIFT : Fld := ⟨20, 16⟩
/-- Field RING_REPLR_REPL_DEADLINE. -/
def RING_REPLR_REPL_DEADLINE : Fld := ⟨15, 0⟩
/-- Field RING_SPILL_CFG_OFFER. -/
def RING_SPILL_CFG_OFFER : Fld := ⟨31, 31⟩
/-- Field RING_SPILL_CFG_POOL_CLUSTER. -/
def RING_SPILL_CFG_POOL_CLUSTER : Fld := ⟨27, 24⟩
/-- Field RING_SPILL_CFG_NB_LAT. -/
def RING_SPILL_CFG_NB_LAT : Fld := ⟨15, 0⟩
/-- Field RING_SPILL_DIR_VALID. -/
def RING_SPILL_DIR_VALID : Fld := ⟨31, 31⟩
/-- Field RING_SPILL_DIR_HOPS. -/
def RING_SPILL_DIR_HOPS : Fld := ⟨26, 24⟩
/-- Field RING_SPILL_DIR_TARGET. -/
def RING_SPILL_DIR_TARGET : Fld := ⟨23, 16⟩
/-- Field RING_SPILL_DIR_NB_LAT. -/
def RING_SPILL_DIR_NB_LAT : Fld := ⟨15, 0⟩
/-- Field RING_EVT_TOO_LONG. -/
def RING_EVT_TOO_LONG : Fld := ⟨6, 6⟩
/-- Field RING_EVT_PROMOTED. -/
def RING_EVT_PROMOTED : Fld := ⟨5, 5⟩
/-- Field RING_EVT_REPL_STALE. -/
def RING_EVT_REPL_STALE : Fld := ⟨4, 4⟩
/-- Field RING_EVT_SPILL_REFUSED. -/
def RING_EVT_SPILL_REFUSED : Fld := ⟨3, 3⟩
/-- Field RING_EVT_AUTH_FAIL. -/
def RING_EVT_AUTH_FAIL : Fld := ⟨2, 2⟩
/-- Field RING_EVT_PORT_UP. -/
def RING_EVT_PORT_UP : Fld := ⟨1, 1⟩
/-- Field RING_EVT_PORT_LOST. -/
def RING_EVT_PORT_LOST : Fld := ⟨0, 0⟩
/-- Field RPORT_CTL_FENCE. -/
def RPORT_CTL_FENCE : Fld := ⟨31, 31⟩
/-- Field RPORT_STAT_STATE. -/
def RPORT_STAT_STATE : Fld := ⟨31, 29⟩
/-- Field RPORT_STAT_FENCE_CAUSE. -/
def RPORT_STAT_FENCE_CAUSE : Fld := ⟨28, 26⟩
/-- Field RPORT_STAT_PEER_NODE. -/
def RPORT_STAT_PEER_NODE : Fld := ⟨23, 16⟩
/-- Field RPORT_STAT_WRAPPED. -/
def RPORT_STAT_WRAPPED : Fld := ⟨0, 0⟩
/-- Field REPL_STAT_MODE. -/
def REPL_STAT_MODE : Fld := ⟨31, 30⟩
/-- Field REPL_STAT_FRESH. -/
def REPL_STAT_FRESH : Fld := ⟨29, 29⟩
/-- Field REPL_STAT_RING_DIR. -/
def REPL_STAT_RING_DIR : Fld := ⟨28, 28⟩
/-- Field REPL_STAT_PEER. -/
def REPL_STAT_PEER : Fld := ⟨23, 16⟩
/-- Field HOSTIF_EVT_SMB_ERR. -/
def HOSTIF_EVT_SMB_ERR : Fld := ⟨4, 4⟩
/-- Field HOSTIF_EVT_MBX_LATE. -/
def HOSTIF_EVT_MBX_LATE : Fld := ⟨3, 3⟩
/-- Field HOSTIF_EVT_UNAVAIL. -/
def HOSTIF_EVT_UNAVAIL : Fld := ⟨2, 2⟩
/-- Field HOSTIF_EVT_LENS_REFUSED. -/
def HOSTIF_EVT_LENS_REFUSED : Fld := ⟨1, 1⟩
/-- Field HOSTIF_EVT_HOST_REFUSED. -/
def HOSTIF_EVT_HOST_REFUSED : Fld := ⟨0, 0⟩
/-- Field ACC_LOG_INFO_VALID. -/
def ACC_LOG_INFO_VALID : Fld := ⟨31, 31⟩
/-- Field ACC_LOG_INFO_SRC. -/
def ACC_LOG_INFO_SRC : Fld := ⟨11, 10⟩
/-- Field ACC_LOG_INFO_WRITE. -/
def ACC_LOG_INFO_WRITE : Fld := ⟨9, 9⟩
/-- Field ACC_LOG_INFO_REASON. -/
def ACC_LOG_INFO_REASON : Fld := ⟨2, 0⟩
/-- Field SMB_CFG_PEC_REQ. -/
def SMB_CFG_PEC_REQ : Fld := ⟨31, 31⟩
/-- Field SMB_CFG_ADDR. -/
def SMB_CFG_ADDR : Fld := ⟨6, 0⟩
/-- Field HOST_VEC_EN. -/
def HOST_VEC_EN : Fld := ⟨31, 31⟩
/-- Field HOST_VEC_HOLDOFF. -/
def HOST_VEC_HOLDOFF : Fld := ⟨23, 16⟩
/-- Field HOST_VEC_SRC. -/
def HOST_VEC_SRC : Fld := ⟨7, 0⟩
/-- Field ROT_CTL_EN. -/
def ROT_CTL_EN : Fld := ⟨31, 31⟩
/-- Field ROT_CTL_KEEP_SPARE. -/
def ROT_CTL_KEEP_SPARE : Fld := ⟨30, 30⟩
/-- Field ROT_CTL_STEP_NOW. -/
def ROT_CTL_STEP_NOW : Fld := ⟨29, 29⟩
/-- Field ROT_CTL_FORCE. -/
def ROT_CTL_FORCE : Fld := ⟨28, 28⟩
/-- Field ROT_CTL_FORCE_CORE. -/
def ROT_CTL_FORCE_CORE : Fld := ⟨26, 24⟩
/-- Field ROT_CTL_DRAIN_LIMIT. -/
def ROT_CTL_DRAIN_LIMIT : Fld := ⟨15, 0⟩
/-- Field ROT_STAT_STALLED. -/
def ROT_STAT_STALLED : Fld := ⟨31, 31⟩
/-- Field ROT_STAT_OUT_CORE. -/
def ROT_STAT_OUT_CORE : Fld := ⟨26, 24⟩
/-- Field ROT_STAT_IN_SERVICE. -/
def ROT_STAT_IN_SERVICE : Fld := ⟨19, 16⟩
/-- Field ROT_STAT_STEPS. -/
def ROT_STAT_STEPS : Fld := ⟨15, 0⟩
/-- Field ROT_CORE_STATE. -/
def ROT_CORE_STATE : Fld := ⟨31, 29⟩
/-- Field ROT_CORE_MIRROR_SWAP. -/
def ROT_CORE_MIRROR_SWAP : Fld := ⟨28, 28⟩
/-- Field ROT_CORE_RELEASE. -/
def ROT_CORE_RELEASE : Fld := ⟨27, 27⟩
/-- Field ROT_CORE_SLOT. -/
def ROT_CORE_SLOT : Fld := ⟨26, 26⟩
/-- Field ROT_CORE_EPOCH. -/
def ROT_CORE_EPOCH : Fld := ⟨23, 16⟩
/-- Field ROT_CORE_BIST_PASS. -/
def ROT_CORE_BIST_PASS : Fld := ⟨15, 15⟩
/-- Field ERRQ_STAT_LOST. -/
def ERRQ_STAT_LOST : Fld := ⟨31, 31⟩
/-- Field ERRQ_STAT_TOPSEV. -/
def ERRQ_STAT_TOPSEV : Fld := ⟨9, 8⟩
/-- Field ERRQ_STAT_COUNT. -/
def ERRQ_STAT_COUNT : Fld := ⟨4, 0⟩
/-- Field ARB_CTL_WINDOW. -/
def ARB_CTL_WINDOW : Fld := ⟨31, 16⟩
/-- Field MEM_EVT_REMAP_DONE. -/
def MEM_EVT_REMAP_DONE : Fld := ⟨2, 2⟩
/-- Field MEM_EVT_SKIM_FAIL. -/
def MEM_EVT_SKIM_FAIL : Fld := ⟨1, 1⟩
/-- Field MEM_EVT_UE. -/
def MEM_EVT_UE : Fld := ⟨0, 0⟩
/-- Field SKIM_CTL_EN. -/
def SKIM_CTL_EN : Fld := ⟨31, 31⟩
/-- Field SKIM_CTL_INTERVAL. -/
def SKIM_CTL_INTERVAL : Fld := ⟨15, 0⟩
/-- Field SKIM_STAT_ACTIVE. -/
def SKIM_STAT_ACTIVE : Fld := ⟨31, 31⟩
/-- Field SKIM_STAT_FAILED. -/
def SKIM_STAT_FAILED : Fld := ⟨30, 30⟩
/-- Field SKIM_STAT_FAIL_BANK. -/
def SKIM_STAT_FAIL_BANK : Fld := ⟨20, 16⟩
/-- Field SKIM_STAT_REGION. -/
def SKIM_STAT_REGION : Fld := ⟨13, 0⟩
/-- Field REMAP_CTL_START. -/
def REMAP_CTL_START : Fld := ⟨31, 31⟩
/-- Field REMAP_CTL_AUTO. -/
def REMAP_CTL_AUTO : Fld := ⟨30, 30⟩
/-- Field REMAP_CTL_BANK. -/
def REMAP_CTL_BANK : Fld := ⟨4, 0⟩
/-- Field REMAP_STAT_ACTIVE. -/
def REMAP_STAT_ACTIVE : Fld := ⟨31, 31⟩
/-- Field REMAP_STAT_DONE. -/
def REMAP_STAT_DONE : Fld := ⟨30, 30⟩
/-- Field REMAP_STAT_SPARE_USED. -/
def REMAP_STAT_SPARE_USED : Fld := ⟨29, 29⟩
/-- Field REMAP_STAT_ROW. -/
def REMAP_STAT_ROW : Fld := ⟨16, 5⟩
/-- Field REMAP_STAT_BANK. -/
def REMAP_STAT_BANK : Fld := ⟨4, 0⟩
/-- Field ARB_PRI_BASE. -/
def ARB_PRI_BASE : Fld := ⟨27, 24⟩
/-- Field ARB_PRI_QUOTA. -/
def ARB_PRI_QUOTA : Fld := ⟨15, 0⟩
/-- Field ARB_STAT_WAITING. -/
def ARB_STAT_WAITING : Fld := ⟨31, 31⟩
/-- Field ARB_STAT_MASKED. -/
def ARB_STAT_MASKED : Fld := ⟨30, 30⟩
/-- Field ARB_STAT_STEPS. -/
def ARB_STAT_STEPS : Fld := ⟨27, 24⟩
/-- Field ARB_STAT_EFF. -/
def ARB_STAT_EFF : Fld := ⟨19, 16⟩
/-- Field ARB_STAT_USED. -/
def ARB_STAT_USED : Fld := ⟨15, 0⟩
/-- Field MREP_FAIL. -/
def MREP_FAIL : Fld := ⟨31, 31⟩
/-- Field MREP_APPLY. -/
def MREP_APPLY : Fld := ⟨30, 30⟩
/-- Field MREP_ARRAY. -/
def MREP_ARRAY : Fld := ⟨24, 20⟩
/-- Field MREP_COL. -/
def MREP_COL : Fld := ⟨19, 12⟩
/-- Field MREP_SOFT_USED. -/
def MREP_SOFT_USED : Fld := ⟨11, 6⟩
/-- Field MREP_FREE. -/
def MREP_FREE : Fld := ⟨5, 0⟩
/-- Field DMA_CTL_EN. -/
def DMA_CTL_EN : Fld := ⟨31, 31⟩
/-- Field DMA_CTL_ABORT. -/
def DMA_CTL_ABORT : Fld := ⟨30, 30⟩
/-- Field DMA_CTL_HIGH. -/
def DMA_CTL_HIGH : Fld := ⟨29, 29⟩
/-- Field DMA_CTL_PACE. -/
def DMA_CTL_PACE : Fld := ⟨27, 24⟩
/-- Field DMA_STAT_BUSY. -/
def DMA_STAT_BUSY : Fld := ⟨31, 31⟩
/-- Field DMA_STAT_PAUSED. -/
def DMA_STAT_PAUSED : Fld := ⟨30, 30⟩
/-- Field DMA_STAT_HOLD. -/
def DMA_STAT_HOLD : Fld := ⟨29, 29⟩
/-- Field DMA_STAT_CFG_ERR. -/
def DMA_STAT_CFG_ERR : Fld := ⟨28, 28⟩
/-- Field DMA_STAT_MODE. -/
def DMA_STAT_MODE : Fld := ⟨27, 26⟩
/-- Field DMA_STAT_LAST_CAUSE. -/
def DMA_STAT_LAST_CAUSE : Fld := ⟨18, 16⟩
/-- Field DMA_QCFG_QLEN_M1. -/
def DMA_QCFG_QLEN_M1 : Fld := ⟨31, 20⟩
/-- Field DMA_QCFG_QBASE. -/
def DMA_QCFG_QBASE : Fld := ⟨16, 0⟩
/-- Field DMA_QPTR_HEAD. -/
def DMA_QPTR_HEAD : Fld := ⟨27, 16⟩
/-- Field DMA_QPTR_TAIL. -/
def DMA_QPTR_TAIL : Fld := ⟨11, 0⟩

/-- The lock bit that freezes the RWL fields of a family (R15, R69, R112, R114, R115, R116, R137). -/
inductive LockId where
  | none | line | prism | rsq | clink | dlv | ledger
  deriving DecidableEq, Repr

/-- A family of registers: every address base + Σ stride × index, with the bits of each access code. -/
structure RegFam where
  base : Nat
  dims : List (Nat × Nat)
  rst : Word
  rw : Word
  rwl : Word
  w1c : Word
  w1s : Word
  wo : Word
  wdn : Word
  w64 : Bool
  lock : LockId
  deriving DecidableEq, Repr

/-- The families of the block at 0x0. -/
def famsDev : List RegFam := [
  ⟨0x20000, [], 0x80000000, 0x0, 0x80000000, 0x0, 0x40000000, 0x0, 0x0, false, .ledger⟩,
  ⟨0x20004, [], 0x0, 0x0, 0x0, 0x0, 0x0, 0x0, 0x0, false, .none⟩]

/-- The families of the block at 0x100000. -/
def famsLine : List RegFam := [
  ⟨0x100000, [(0x40000, 2), (0x1000, 16)], 0xA000000, 0x80000000, 0xFFFCF33, 0x0, 0x0, 0x0, 0x0, false, .line⟩,
  ⟨0x100004, [(0x40000, 2), (0x1000, 16)], 0x10000000, 0x0, 0x0, 0x0, 0x0, 0x0, 0x0, false, .none⟩,
  ⟨0x100008, [(0x40000, 2), (0x1000, 16)], 0x0, 0x0, 0x0, 0xFF, 0x0, 0x0, 0x0, false, .none⟩,
  ⟨0x10000C, [(0x40000, 2), (0x1000, 16)], 0x0, 0xFF, 0x0, 0x0, 0x0, 0x0, 0x0, false, .none⟩,
  ⟨0x100100, [(0x40000, 2), (0x1000, 16), (0x8, 16)], 0x0, 0x0, 0x0, 0x0, 0x0, 0x0, 0x0, true, .none⟩,
  ⟨0x110000, [(0x40000, 2), (0x100, 16)], 0x0, 0x0, 0xFC03, 0x0, 0x80000000, 0x40000000, 0x0, false, .line⟩,
  ⟨0x110004, [(0x40000, 2), (0x100, 16)], 0x1, 0x0, 0x0, 0x0, 0x0, 0x0, 0x0, false, .none⟩,
  ⟨0x120000, [(0x40000, 2), (0x100, 4)], 0x0, 0x0, 0x0, 0x0, 0x80000000, 0x0, 0x0, false, .none⟩,
  ⟨0x130000, [(0x40000, 2)], 0x0, 0x0, 0x0, 0x0, 0x1, 0x0, 0x0, false, .none⟩]

/-- The families of the block at 0x200000. -/
def famsPrism : List RegFam := [
  ⟨0x200000, [(0x40000, 2)], 0x0, 0x0, 0x0, 0x0, 0x1, 0x0, 0x0, false, .none⟩,
  ⟨0x200004, [(0x40000, 2)], 0x0, 0x0, 0x0, 0x0, 0x0, 0x0, 0x0, false, .none⟩,
  ⟨0x200100, [(0x40000, 2), (0x20, 16)], 0x280000, 0x0, 0x3FFFF3F, 0x0, 0x0, 0x0, 0x0, false, .prism⟩,
  ⟨0x200104, [(0x40000, 2), (0x20, 16)], 0x0, 0x0, 0xFF000FFF, 0x0, 0x0, 0x0, 0x0, false, .prism⟩,
  ⟨0x201000, [(0x40000, 2), (0x10, 64)], 0x0, 0x0, 0xFFFFFFFF, 0x0, 0x0, 0x0, 0x0, false, .prism⟩,
  ⟨0x201004, [(0x40000, 2), (0x10, 64)], 0x0, 0x0, 0xBFFFFFFF, 0x0, 0x0, 0x0, 0x0, false, .prism⟩,
  ⟨0x201008, [(0x40000, 2), (0x10, 64)], 0x0, 0x0, 0xFFFFBF00, 0x0, 0x0, 0x0, 0x0, false, .prism⟩,
  ⟨0x20100C, [(0x40000, 2), (0x10, 64)], 0x0, 0x0, 0xFFFFBF00, 0x0, 0x0, 0x0, 0x0, false, .prism⟩,
  ⟨0x202000, [(0x40000, 2), (0x10, 96)], 0x0, 0x0, 0x0, 0x0, 0x0, 0x0, 0x0, false, .none⟩,
  ⟨0x202004, [(0x40000, 2), (0x10, 96)], 0x0, 0x0, 0x0, 0x0, 0x0, 0x0, 0x0, false, .none⟩,
  ⟨0x202008, [(0x40000, 2), (0x10, 96)], 0x0, 0x0, 0x0, 0x0, 0x0, 0x0, 0x0, false, .none⟩]

/-- The families of the block at 0x280000. -/
def famsSa : List RegFam := [
  ⟨0x280000, [(0x10, 16384)], 0x0, 0x0, 0x0, 0x0, 0x0, 0x0, 0xFF000FFF, false, .none⟩,
  ⟨0x280004, [(0x10, 16384)], 0x0, 0x0, 0x0, 0x0, 0x0, 0x0, 0xFFFFFFFF, true, .none⟩,
  ⟨0x2C0000, [(0x40, 4096)], 0x0, 0x0, 0x0, 0x0, 0x0, 0x0, 0xFEFFF000, false, .none⟩,
  ⟨0x2C0004, [(0x40, 4096)], 0x0, 0x0, 0x0, 0x0, 0x0, 0x0, 0x3FFFF, false, .none⟩,
  ⟨0x2C0008, [(0x40, 4096)], 0x0, 0x0, 0x0, 0x0, 0x0, 0x0, 0xEF0FFFFF, false, .none⟩,
  ⟨0x2C000C, [(0x40, 4096)], 0x0, 0x0, 0x0, 0x0, 0x0, 0x0, 0xFFFFFFFF, false, .none⟩,
  ⟨0x2C0010, [(0x40, 4096), (0x10, 2)], 0x1, 0x0, 0x0, 0x0, 0x0, 0x0, 0xFFFFFFFF, true, .none⟩,
  ⟨0x2C0018, [(0x40, 4096), (0x10, 2)], 0x0, 0x0, 0x0, 0x0, 0x0, 0x0, 0xFFFFFFFF, true, .none⟩,
  ⟨0x2C0038, [(0x40, 4096)], 0x0, 0x0, 0x0, 0x40000000, 0x0, 0x0, 0x0, false, .none⟩,
  ⟨0x2C003C, [(0x40, 4096)], 0x0, 0x0, 0x0, 0x0, 0x0, 0x0, 0xFFFFFFFF, false, .none⟩,
  ⟨0x300000, [(0x40, 4096), (0x8, 6)], 0x0, 0x0, 0x0, 0x0, 0x0, 0x0, 0x0, true, .none⟩]

/-- The families of the block at 0x380000. -/
def famsRsq : List RegFam := [
  ⟨0x380000, [(0x10000, 2)], 0x0, 0x0, 0x0, 0x0, 0x1, 0x0, 0x0, false, .none⟩,
  ⟨0x380008, [(0x10000, 2)], 0x0, 0x0, 0x0, 0x7, 0x0, 0x0, 0x0, false, .none⟩,
  ⟨0x38000C, [(0x10000, 2)], 0x0, 0x7, 0x0, 0x0, 0x0, 0x0, 0x0, false, .none⟩,
  ⟨0x380100, [(0x10000, 2), (0x10, 16)], 0x2800, 0x0, 0xFFFFFF00, 0x0, 0x0, 0x0, 0x0, false, .rsq⟩,
  ⟨0x380104, [(0x10000, 2), (0x10, 16)], 0x0, 0x0, 0x0, 0x0, 0x0, 0x0, 0x0, false, .none⟩]

/-- The families of the block at 0x3A0000. -/
def famsClink : List RegFam := [
  ⟨0x3A0000, [(0x100, 12)], 0x0, 0x0, 0x0, 0x0, 0x80000000, 0x0, 0x0, false, .none⟩,
  ⟨0x3A0004, [(0x100, 12)], 0x404000, 0x0, 0x0, 0x0, 0x0, 0x0, 0x0, false, .none⟩,
  ⟨0x3A0008, [(0x100, 12)], 0x0, 0x0, 0x3FFF7FFF, 0x0, 0x0, 0x0, 0x0, false, .clink⟩,
  ⟨0x3A000C, [(0x100, 12)], 0x0, 0x0, 0x0, 0x0, 0x0, 0x0, 0x0, false, .none⟩,
  ⟨0x3A0010, [(0x100, 12), (0x8, 4)], 0x0, 0x0, 0x0, 0x0, 0x0, 0x0, 0x0, true, .none⟩,
  ⟨0x3AF000, [], 0x0, 0x0, 0x0, 0x0, 0x1, 0x0, 0x0, false, .none⟩]

/-- The families of the block at 0x3B0000. -/
def famsDlv : List RegFam := [
  ⟨0x3B0000, [], 0x0, 0x0, 0x0, 0x0, 0x1, 0x0, 0x0, false, .none⟩,
  ⟨0x3B0004, [], 0x2, 0x0, 0x7, 0x0, 0x0, 0x0, 0x0, false, .dlv⟩,
  ⟨0x3B0008, [], 0x0, 0x0, 0x0, 0x3, 0x0, 0x0, 0x0, false, .none⟩,
  ⟨0x3B000C, [], 0x0, 0x3, 0x0, 0x0, 0x0, 0x0, 0x0, false, .none⟩,
  ⟨0x3B0100, [(0x100, 2), (0x10, 16)], 0x0, 0x0, 0x0, 0x0, 0x0, 0x0, 0x0, false, .none⟩,
  ⟨0x3B0300, [(0x40, 2), (0x4, 16)], 0x0, 0x0, 0xC0000000, 0x0, 0x0, 0x0, 0x0, false, .dlv⟩,
  ⟨0x3B1000, [(0x100, 16)], 0x40000, 0x0, 0xEFCFFFFF, 0x0, 0x0, 0x0, 0x0, false, .dlv⟩,
  ⟨0x3B1004, [(0x100, 16)], 0x88B5, 0x0, 0xFFFF, 0x0, 0x0, 0x0, 0x0, false, .dlv⟩,
  ⟨0x3B1008, [(0x100, 16), (0x4, 2)], 0x0, 0x0, 0xFFFFFFFF, 0x0, 0x0, 0x0, 0x0, false, .dlv⟩,
  ⟨0x3B1010, [(0x100, 16), (0x4, 4)], 0x0, 0x0, 0xFFFFFFFF, 0x0, 0x0, 0x0, 0x0, false, .dlv⟩,
  ⟨0x3B1020, [(0x100, 16)], 0x0, 0x0, 0x7F, 0x0, 0x0, 0x0, 0x0, false, .dlv⟩,
  ⟨0x3B1024, [(0x100, 16)], 0x0, 0x0, 0x0, 0x0, 0x0, 0x1, 0x0, false, .none⟩,
  ⟨0x3B1028, [(0x100, 16)], 0x0, 0x0, 0x0, 0x0, 0x0, 0x0, 0x0, false, .none⟩,
  ⟨0x3B102C, [(0x100, 16)], 0x0, 0x0, 0xFFFF, 0x0, 0x0, 0x0, 0x0, false, .dlv⟩,
  ⟨0x3B1030, [(0x100, 16), (0x4, 4)], 0x0, 0x0, 0x0, 0x0, 0x0, 0x0, 0x0, false, .none⟩,
  ⟨0x3B1040, [(0x100, 16), (0x4, 4)], 0x0, 0x0, 0x0, 0x0, 0x0, 0x0, 0x0, false, .none⟩,
  ⟨0x3B1050, [(0x100, 16)], 0x0, 0x0, 0xFFFFFFFF, 0x0, 0x0, 0x0, 0x0, true, .dlv⟩,
  ⟨0x3B1058, [(0x100, 16)], 0x0, 0x0, 0xFFFFFFFF, 0x0, 0x0, 0x0, 0x0, true, .dlv⟩,
  ⟨0x3B1080, [(0x100, 16), (0x8, 4)], 0x0, 0x0, 0x0, 0x0, 0x0, 0x0, 0x0, true, .none⟩]

/-- The families of the block at 0x3C0000. -/
def famsLedger : List RegFam := [
  ⟨0x3C0000, [(0x10000, 2), (0x1000, 16), (0x8, 4)], 0x0, 0x0, 0x0, 0x0, 0x0, 0x0, 0x0, true, .none⟩,
  ⟨0x3C0020, [(0x10000, 2), (0x1000, 16)], 0x0, 0x0, 0x0, 0x0, 0x0, 0x0, 0x0, false, .none⟩,
  ⟨0x3C0100, [(0x10000, 2), (0x1000, 16), (0x8, 32)], 0x0, 0x0, 0x0, 0x0, 0x0, 0x0, 0x0, true, .none⟩,
  ⟨0x3C0200, [(0x10000, 2), (0x1000, 16), (0x8, 32)], 0x0, 0x0, 0x0, 0x0, 0x0, 0x0, 0x0, true, .none⟩]

/-- The families of the block at 0x3E0000. -/
def famsCost : List RegFam := [
  ⟨0x3E0000, [(0x800, 2), (0x4, 512)], 0x0, 0x0, 0x0, 0x0, 0x0, 0x0, 0xFFFFFFFF, false, .none⟩,
  ⟨0x3E1000, [], 0x0, 0x0, 0x0, 0x0, 0x0, 0xF, 0x0, false, .none⟩,
  ⟨0x3E1010, [(0x4, 2)], 0x0, 0x0, 0x0, 0x0, 0x0, 0x0, 0x0, false, .none⟩]

/-- The families of the block at 0x3F0000. -/
def famsTint : List RegFam := [
  ⟨0x3F0000, [], 0x0, 0x0, 0x0, 0x0, 0x0, 0x0, 0x1, false, .none⟩,
  ⟨0x3F0004, [], 0x0, 0x0, 0x0, 0x1F, 0x0, 0x0, 0x0, false, .none⟩,
  ⟨0x3F0008, [], 0x0, 0x1F, 0x0, 0x0, 0x0, 0x0, 0x0, false, .none⟩,
  ⟨0x3F0010, [], 0x0, 0x0, 0x0, 0x0, 0x0, 0x0, 0x0, true, .none⟩,
  ⟨0x3F0018, [], 0x0, 0x0, 0x0, 0x0, 0x0, 0x0, 0x0, false, .none⟩,
  ⟨0x3F0100, [(0x8, 5)], 0x0, 0x0, 0x0, 0x0, 0x0, 0x0, 0x0, true, .none⟩,
  ⟨0x3F1000, [(0x20, 96), (0x8, 3)], 0x0, 0x0, 0x0, 0x0, 0x0, 0x0, 0x0, true, .none⟩]

/-- The families of the block at 0x400000. -/
def famsDevc : List RegFam := [
  ⟨0x400100, [(0x4, 8)], 0x14, 0x0, 0x300FF, 0x0, 0x0, 0x0, 0x0, false, .none⟩,
  ⟨0x400200, [], 0x0, 0x0, 0x0, 0x0, 0x0, 0x0, 0xE0000FFF, false, .none⟩,
  ⟨0x400208, [], 0x0, 0x0, 0x0, 0x0, 0x0, 0x0, 0x0, true, .none⟩,
  ⟨0x400210, [], 0x0, 0x0, 0x0, 0xFFF, 0x0, 0x0, 0x0, false, .none⟩,
  ⟨0x401000, [(0x10, 256)], 0x0, 0x0, 0x0, 0x0, 0x0, 0x0, 0x8F000000, false, .none⟩,
  ⟨0x401004, [(0x10, 256)], 0x0, 0x0, 0x0, 0x0, 0x0, 0x0, 0xFF00FFFF, false, .none⟩,
  ⟨0x401008, [(0x10, 256)], 0x0, 0x0, 0x0, 0x0, 0x0, 0x0, 0x0, false, .none⟩,
  ⟨0x40100C, [(0x10, 256)], 0x0, 0x0, 0x0, 0x0, 0x0, 0x3, 0x3, false, .none⟩]

/-- The families of the block at 0x410000. -/
def famsAon : List RegFam := [
  ⟨0x410000, [(0x20, 96), (0x4, 8)], 0x0, 0xFFFFFFFF, 0x0, 0x0, 0x0, 0x0, 0x0, false, .none⟩,
  ⟨0x410C00, [(0x4, 96)], 0x0, 0x0, 0x0, 0x0, 0x0, 0x0, 0x0, false, .none⟩,
  ⟨0x411000, [(0x4, 4)], 0x19, 0x0, 0x0, 0x0, 0x0, 0x0, 0xFF, false, .none⟩]

/-- The families of the block at 0x420000. -/
def famsSec : List RegFam := [
  ⟨0x420000, [], 0x0, 0x0, 0x0, 0x0, 0x0, 0x0, 0x0, false, .none⟩,
  ⟨0x420004, [], 0x0, 0x0, 0x0, 0x0, 0x0, 0x0, 0xF, false, .none⟩,
  ⟨0x420008, [], 0x0, 0x0, 0x0, 0x0, 0x0, 0x0, 0x0, false, .none⟩,
  ⟨0x42000C, [], 0x0, 0x0, 0x0, 0x0, 0x0, 0x0, 0xF, false, .none⟩,
  ⟨0x420010, [], 0x0, 0x0, 0x0, 0x0, 0x0, 0x0, 0x0, false, .none⟩]

/-- The families of the block at 0x430000. -/
def famsAvail : List RegFam := [
  ⟨0x430000, [], 0x1F, 0x0, 0x0, 0x0, 0x0, 0x0, 0x1F, false, .none⟩,
  ⟨0x430004, [], 0x0, 0x0, 0x0, 0x1F, 0x0, 0x0, 0x0, false, .none⟩,
  ⟨0x430008, [], 0x0, 0x0, 0x0, 0x0, 0x0, 0x1, 0x1, false, .none⟩,
  ⟨0x430010, [], 0x0, 0x0, 0x0, 0x0, 0x0, 0x0, 0xC0FFFF7F, false, .none⟩,
  ⟨0x430020, [], 0x0, 0x0, 0x0, 0x0, 0x0, 0x80000000, 0x8000FFFF, false, .none⟩,
  ⟨0x430024, [], 0x0, 0x0, 0x0, 0x0, 0x0, 0x0, 0x0, false, .none⟩,
  ⟨0x430040, [(0x4, 4)], 0x0, 0x0, 0x0, 0x0, 0x0, 0x0, 0x0, false, .none⟩,
  ⟨0x430050, [], 0x0, 0x0, 0x0, 0x80000000, 0x0, 0x0, 0x0, false, .none⟩,
  ⟨0x430058, [], 0x0, 0x0, 0x0, 0x0, 0x0, 0x0, 0x0, true, .none⟩]

/-- The families of the block at 0x440000. -/
def famsPwr : List RegFam := [
  ⟨0x440000, [], 0x0, 0x0, 0x0, 0x0, 0x0, 0x80000000, 0xC000007F, false, .none⟩,
  ⟨0x440004, [], 0x0, 0x0, 0x0, 0x0, 0x0, 0x0, 0x0, false, .none⟩,
  ⟨0x440008, [], 0x0, 0x0, 0x0, 0x77F, 0x0, 0x0, 0x0, false, .none⟩,
  ⟨0x44000C, [], 0x0, 0x77F, 0x0, 0x0, 0x0, 0x0, 0x0, false, .none⟩,
  ⟨0x440010, [], 0x786C64, 0x0, 0x0, 0x0, 0x0, 0x0, 0xFFFF, false, .none⟩,
  ⟨0x440018, [], 0x0, 0x0, 0x0, 0x0, 0x0, 0x0, 0x0, true, .none⟩,
  ⟨0x440100, [(0x4, 126)], 0x2, 0x0, 0x0, 0x0, 0x0, 0x0, 0x0, false, .none⟩,
  ⟨0x440400, [(0x4, 24)], 0x0, 0x0, 0x0, 0x0, 0x0, 0x0, 0x0, false, .none⟩,
  ⟨0x440500, [(0x8, 7)], 0x0, 0x0, 0x0, 0x0, 0x0, 0x0, 0x0, true, .none⟩]

/-- The families of the block at 0x450000. -/
def famsClk : List RegFam := [
  ⟨0x450000, [], 0x80000000, 0x0, 0x0, 0x0, 0x0, 0x100, 0x80000103, false, .none⟩,
  ⟨0x450004, [], 0x0, 0x0, 0x0, 0x0, 0x0, 0x0, 0x0, false, .none⟩,
  ⟨0x450008, [], 0x0, 0x0, 0x0, 0x1F, 0x0, 0x0, 0x0, false, .none⟩,
  ⟨0x45000C, [], 0x0, 0x1F, 0x0, 0x0, 0x0, 0x0, 0x0, false, .none⟩,
  ⟨0x450010, [(0x4, 2)], 0x0, 0x0, 0x0, 0x0, 0x0, 0x0, 0x0, false, .none⟩,
  ⟨0x450020, [], 0x1, 0x0, 0x0, 0x0, 0x0, 0x0, 0x0, false, .none⟩,
  ⟨0x450030, [(0x4, 2)], 0x19, 0x0, 0x0, 0x0, 0x0, 0x0, 0xFF, false, .none⟩,
  ⟨0x450040, [], 0x0, 0x0, 0x0, 0x0, 0x0, 0x0, 0x0, true, .none⟩,
  ⟨0x450048, [], 0x0, 0x0, 0x0, 0x0, 0x0, 0x0, 0x0, true, .none⟩]

/-- The families of the block at 0x460000. -/
def famsRing : List RegFam := [
  ⟨0x460000, [], 0x0, 0x0, 0x0, 0x0, 0x0, 0x0, 0xC0FFFFFF, false, .none⟩,
  ⟨0x460004, [], 0x1400FA, 0x0, 0x0, 0x0, 0x0, 0x0, 0x1FFFFF, false, .none⟩,
  ⟨0x460008, [], 0x0, 0x0, 0x0, 0x0, 0x0, 0x0, 0x8F00FFFF, false, .none⟩,
  ⟨0x460010, [(0x4, 2)], 0x1000000, 0x0, 0x0, 0x0, 0x0, 0x0, 0x7000000, false, .none⟩,
  ⟨0x460018, [(0x4, 2)], 0x0, 0x0, 0x0, 0x0, 0x0, 0x0, 0x0, false, .none⟩,
  ⟨0x460020, [], 0x0, 0x0, 0x0, 0x7F, 0x0, 0x0, 0x0, false, .none⟩,
  ⟨0x460024, [], 0x0, 0x7F, 0x0, 0x0, 0x0, 0x0, 0x0, false, .none⟩,
  ⟨0x460100, [(0x8, 2)], 0x0, 0x0, 0x0, 0x0, 0x0, 0x0, 0x0, true, .none⟩,
  ⟨0x460110, [(0x8, 3)], 0x0, 0x0, 0x0, 0x0, 0x0, 0x0, 0x0, true, .none⟩,
  ⟨0x461000, [(0x100, 2)], 0x0, 0x0, 0x0, 0x0, 0x80000000, 0x0, 0x0, false, .none⟩,
  ⟨0x461004, [(0x100, 2)], 0x0, 0x0, 0x0, 0x0, 0x0, 0x0, 0x0, false, .none⟩,
  ⟨0x461040, [(0x100, 2), (0x8, 5)], 0x0, 0x0, 0x0, 0x0, 0x0, 0x0, 0x0, true, .none⟩,
  ⟨0x468000, [(0x4, 4096)], 0x0, 0x0, 0x0, 0x0, 0x0, 0x0, 0x0, false, .none⟩]

/-- The families of the block at 0x470000. -/
def famsHost : List RegFam := [
  ⟨0x470000, [], 0x0, 0x0, 0x0, 0x1F, 0x0, 0x0, 0x0, false, .none⟩,
  ⟨0x470004, [], 0x0, 0x1F, 0x0, 0x0, 0x0, 0x0, 0x0, false, .none⟩,
  ⟨0x470008, [], 0x64, 0x0, 0x0, 0x0, 0x0, 0x0, 0xFFFF, false, .none⟩,
  ⟨0x470010, [], 0x0, 0x0, 0x0, 0x0, 0x0, 0x0, 0x0, true, .none⟩,
  ⟨0x470018, [], 0x0, 0x0, 0x0, 0x0, 0x0, 0x0, 0x0, false, .none⟩,
  ⟨0x47001C, [], 0x0, 0x0, 0x0, 0x80000000, 0x0, 0x0, 0x80000000, false, .none⟩,
  ⟨0x470020, [], 0x0, 0x0, 0x0, 0x0, 0x0, 0x0, 0x80000000, false, .none⟩,
  ⟨0x470100, [(0x8, 6)], 0x0, 0x0, 0x0, 0x0, 0x0, 0x0, 0x0, true, .none⟩,
  ⟨0x470204, [(0x4, 31)], 0x0, 0x80FF00FF, 0x0, 0x0, 0x0, 0x0, 0x0, false, .none⟩]

/-- The families of the block at 0x800000. -/
def famsCluster : List RegFam := [
  ⟨0x800000, [(0x40000, 12)], 0xC00000C8, 0x0, 0x0, 0x0, 0x0, 0x30000000, 0xF700FFFF, false, .none⟩,
  ⟨0x800004, [(0x40000, 12)], 0x7000000, 0x0, 0x0, 0x0, 0x0, 0x0, 0x0, false, .none⟩,
  ⟨0x800008, [(0x40000, 12)], 0xBEBC20, 0x0, 0x0, 0x0, 0x0, 0x0, 0xFFFFFFFF, false, .none⟩,
  ⟨0x800010, [(0x40000, 12), (0x4, 8)], 0x60000000, 0x0, 0x0, 0x0, 0x10000000, 0x8000000, 0xF8000000, false, .none⟩,
  ⟨0x800040, [(0x40000, 12), (0x4, 4)], 0x0, 0x0, 0x0, 0x0, 0x0, 0x0, 0x0, false, .none⟩,
  ⟨0x800050, [(0x40000, 12)], 0x0, 0x0, 0x0, 0x80000000, 0x0, 0x0, 0x0, false, .none⟩,
  ⟨0x800058, [(0x40000, 12)], 0x0, 0x0, 0x0, 0x0, 0x0, 0x0, 0x0, true, .none⟩,
  ⟨0x800060, [(0x40000, 12), (0x8, 2)], 0x0, 0x0, 0x0, 0x0, 0x0, 0x0, 0x0, true, .none⟩,
  ⟨0x810100, [(0x40000, 12), (0x20, 8), (0x8, 3)], 0x0, 0x0, 0x0, 0x0, 0x0, 0x0, 0x0, true, .none⟩,
  ⟨0x810200, [(0x40000, 12)], 0x0, 0x0, 0x0, 0x0, 0x0, 0x0, 0x0, true, .none⟩,
  ⟨0x811000, [(0x40000, 12), (0x10, 256)], 0x0, 0x8F770000, 0x0, 0x0, 0x0, 0x0, 0x0, false, .none⟩,
  ⟨0x811004, [(0x40000, 12), (0x10, 256)], 0x0, 0xFF00FFFF, 0x0, 0x0, 0x0, 0x0, 0x0, false, .none⟩,
  ⟨0x811008, [(0x40000, 12), (0x10, 256)], 0x0, 0x0, 0x0, 0x0, 0x0, 0x0, 0x0, false, .none⟩,
  ⟨0x81100C, [(0x40000, 12), (0x10, 256)], 0x0, 0x0, 0x0, 0x0, 0x0, 0x3, 0x0, false, .none⟩,
  ⟨0x812000, [(0x40000, 12), (0x200, 8), (0x10, 32)], 0x0, 0x8F000000, 0x0, 0x0, 0x0, 0x0, 0x0, false, .none⟩,
  ⟨0x812004, [(0x40000, 12), (0x200, 8), (0x10, 32)], 0x0, 0xFF00FFFF, 0x0, 0x0, 0x0, 0x0, 0x0, false, .none⟩,
  ⟨0x812008, [(0x40000, 12), (0x200, 8), (0x10, 32)], 0x0, 0x0, 0x0, 0x0, 0x0, 0x0, 0x0, false, .none⟩,
  ⟨0x81200C, [(0x40000, 12), (0x200, 8), (0x10, 32)], 0x0, 0x0, 0x0, 0x0, 0x0, 0x3, 0x0, false, .none⟩,
  ⟨0x813000, [(0x40000, 12), (0x20, 8), (0x4, 8)], 0x0, 0xFFFFFFFF, 0x0, 0x0, 0x0, 0x0, 0x0, false, .none⟩,
  ⟨0x820000, [(0x40000, 12)], 0x3E80000, 0x0, 0x0, 0x0, 0x0, 0x0, 0xFFFF0000, false, .none⟩,
  ⟨0x820004, [(0x40000, 12)], 0x0, 0x0, 0x0, 0x7, 0x0, 0x0, 0x0, false, .none⟩,
  ⟨0x820008, [(0x40000, 12)], 0x0, 0x7, 0x0, 0x0, 0x0, 0x0, 0x0, false, .none⟩,
  ⟨0x820010, [(0x40000, 12)], 0x80000FA0, 0x0, 0x0, 0x0, 0x0, 0x0, 0x8000FFFF, false, .none⟩,
  ⟨0x820014, [(0x40000, 12)], 0x0, 0x0, 0x0, 0x0, 0x0, 0x0, 0x0, false, .none⟩,
  ⟨0x820018, [(0x40000, 12)], 0x40000000, 0x0, 0x0, 0x0, 0x0, 0x80000000, 0xC000001F, false, .none⟩,
  ⟨0x82001C, [(0x40000, 12)], 0x0, 0x0, 0x0, 0x0, 0x0, 0x0, 0x0, false, .none⟩,
  ⟨0x820100, [(0x40000, 12), (0x10, 12)], 0x40, 0x0, 0x0, 0x0, 0x0, 0x0, 0xF00FFFF, false, .none⟩,
  ⟨0x820104, [(0x40000, 12), (0x10, 12)], 0x0, 0x0, 0x0, 0x0, 0x0, 0x0, 0x0, false, .none⟩,
  ⟨0x820200, [(0x40000, 12), (0x4, 8)], 0x0, 0x0, 0x0, 0x0, 0x0, 0x40000000, 0x41FFF000, false, .none⟩,
  ⟨0x821000, [(0x40000, 12), (0x40, 12), (0x8, 4)], 0x0, 0x0, 0x0, 0x0, 0x0, 0x0, 0x0, true, .none⟩,
  ⟨0x821020, [(0x40000, 12), (0x40, 12)], 0x0, 0x0, 0x0, 0x0, 0x0, 0x0, 0x0, false, .none⟩,
  ⟨0x822000, [(0x40000, 12), (0x8, 7)], 0x0, 0x0, 0x0, 0x0, 0x0, 0x0, 0x0, true, .none⟩,
  ⟨0x822040, [(0x40000, 12), (0x10, 8), (0x8, 2)], 0x0, 0x0, 0x0, 0x0, 0x0, 0x0, 0x0, true, .none⟩,
  ⟨0x822100, [(0x40000, 12)], 0x0, 0x0, 0x0, 0x0, 0x0, 0x0, 0x0, false, .none⟩,
  ⟨0x830000, [(0x40000, 12), (0x100, 16)], 0x0, 0x0, 0x0, 0x0, 0x0, 0x0, 0x0, false, .none⟩,
  ⟨0x830004, [(0x40000, 12), (0x100, 16)], 0x0, 0x0, 0x0, 0x0, 0x0, 0x0, 0x0, false, .none⟩,
  ⟨0x830008, [(0x40000, 12), (0x100, 16)], 0x0, 0x0, 0x0, 0x0, 0x0, 0x0, 0x0, false, .none⟩,
  ⟨0x83000C, [(0x40000, 12), (0x100, 16)], 0x0, 0xAF000000, 0x0, 0x0, 0x0, 0x40000000, 0x0, false, .none⟩,
  ⟨0x830010, [(0x40000, 12), (0x100, 16)], 0x0, 0x0, 0x0, 0x0, 0x0, 0x0, 0x0, false, .none⟩,
  ⟨0x830014, [(0x40000, 12), (0x100, 16)], 0x0, 0xFFF1FFFF, 0x0, 0x0, 0x0, 0x0, 0x0, false, .none⟩,
  ⟨0x830018, [(0x40000, 12), (0x100, 16)], 0x0, 0xFFF, 0x0, 0x0, 0x0, 0x0, 0x0, false, .none⟩,
  ⟨0x83001C, [(0x40000, 12), (0x100, 16)], 0x0, 0x1, 0x0, 0x0, 0x0, 0x0, 0x0, false, .none⟩,
  ⟨0x830040, [(0x40000, 12), (0x100, 16), (0x8, 4)], 0x0, 0x0, 0x0, 0x0, 0x0, 0x0, 0x0, true, .none⟩]

/-- The families of the block that holds a BAR0 offset. -/
def famsAt (off : Nat) : List RegFam :=
  if 0x0 ≤ off ∧ off < 0x100000 then famsDev
  else if 0x100000 ≤ off ∧ off < 0x180000 then famsLine
  else if 0x200000 ≤ off ∧ off < 0x280000 then famsPrism
  else if 0x280000 ≤ off ∧ off < 0x380000 then famsSa
  else if 0x380000 ≤ off ∧ off < 0x3A0000 then famsRsq
  else if 0x3A0000 ≤ off ∧ off < 0x3B0000 then famsClink
  else if 0x3B0000 ≤ off ∧ off < 0x3C0000 then famsDlv
  else if 0x3C0000 ≤ off ∧ off < 0x3E0000 then famsLedger
  else if 0x3E0000 ≤ off ∧ off < 0x3F0000 then famsCost
  else if 0x3F0000 ≤ off ∧ off < 0x400000 then famsTint
  else if 0x400000 ≤ off ∧ off < 0x410000 then famsDevc
  else if 0x410000 ≤ off ∧ off < 0x420000 then famsAon
  else if 0x420000 ≤ off ∧ off < 0x430000 then famsSec
  else if 0x430000 ≤ off ∧ off < 0x440000 then famsAvail
  else if 0x440000 ≤ off ∧ off < 0x450000 then famsPwr
  else if 0x450000 ≤ off ∧ off < 0x460000 then famsClk
  else if 0x460000 ≤ off ∧ off < 0x470000 then famsRing
  else if 0x470000 ≤ off ∧ off < 0x480000 then famsHost
  else if 0x800000 ≤ off ∧ off < 0xB00000 then famsCluster
  else []

/-- The indices of an offset within nested strides, largest first: none where it stands at no register of the family. -/
def unstride : List (Nat × Nat) → Nat → Option (List Nat)
  | [], r => if r = 0 then some [] else none
  | (st, n) :: ds, r =>
    if r / st < n then (unstride ds (r % st)).map (fun is => r / st :: is) else none

/-- The indices of an offset in a family; the high word of a 64-bit register has its low word's indices. -/
def RegFam.index (f : RegFam) (off : Nat) : Option (List Nat × Bool) :=
  if off < f.base then none
  else match unstride f.dims (off - f.base) with
    | some is => some (is, false)
    | none =>
      if f.w64 ∧ f.base + 4 ≤ off then (unstride f.dims (off - f.base - 4)).map (fun is => (is, true)) else none

/-- The family of a BAR0 offset, with its indices and whether it is the high word of a 64-bit register. -/
def findFam : List RegFam → Nat → Option (RegFam × List Nat × Bool)
  | [], _ => none
  | f :: fs, off =>
    match f.index off with
    | some (is, hi) => some (f, is, hi)
    | none => findFam fs off

/-- The family of a BAR0 offset; none for a reserved word (R13, R549). -/
def famOf (off : Nat) : Option (RegFam × List Nat × Bool) := findFam (famsAt off) off

/-- The reset value of the word at a BAR0 offset (R12): a 64-bit register's reset value stands in its low word. -/
def rstWord (off : Nat) : Word :=
  match famOf off with
  | some (f, is, hi) =>
    if hi then 0
    else if f.base = 0x820100 then
      -- ARB_PRI_r: the default BASE of R350
      let r := nth 0 is 1
      let b := if r < 8 then 4 else if r = 8 then 6 else if r = 9 then 10 else if r = 10 then 11 else 8
      BitVec.ofNat 32 (b * 2 ^ 24 + 64)
    else f.rst
  | none => 0

end Sys2Proof.Machine
end

