-- ==== Sys2Proof/Machine/FrameState.lean ====
section
/-! DEFINITION. The state of the frame path: frames in reception, the frame table, egress partitions, cluster links,
interrupt sources, error records and the parts of a cluster outside its cores. -/

namespace Sys2Proof.Machine

/-- A frame in reception at a port (R48, R51). -/
structure Rx where
  /-- the bytes received so far -/
  bytes : List Byte
  /-- its number in the frame table, once its first cell has been handed to the Prism -/
  fid : Option Nat
  /-- an uncorrectable codeword fell within it (R48) -/
  bad : Bool
  /-- detected as oversize: the rest is discarded (R49) -/
  oversize : Bool
  deriving DecidableEq, Repr

/-- No frame in reception. -/
def Rx.idle : Rx := ⟨[], none, false, false⟩

/-- Where a frame stands. -/
inductive FStage where
  /-- its first cell is in the Prism, undecided -/
  | wait
  /-- refused; its later cells are discarded -/
  | refused
  /-- admitted, in the order of its egress partition -/
  | admitted
  /-- released by the Resequencer, not yet begun at the egress MAC -/
  | released
  /-- out of the device, or dropped and out of the order -/
  | gone
  deriving DecidableEq, Repr

/-- One frame, from its first cell to its end (R71, R91 to R93, R105, R120, R133). -/
structure Frame where
  /-- ingress side: 0 red, 1 black -/
  side : Nat
  port : Nat
  /-- CCLK in which its first cell reached the Prism -/
  at_ : Nat
  /-- bytes handed over so far -/
  len : Nat
  /-- bytes of the first cell -/
  fc : Nat
  ended : Bool
  /-- cells held in the Prism buffer -/
  pend : List (List Byte)
  stage : FStage
  /-- drop code of R109, 0 none -/
  drop : Nat
  /-- a late discard (R51) -/
  discard : Bool
  sa : Nat
  /-- SA_CFG.FORMAT at the decision -/
  fmt : Nat
  key : Bool
  skb : Nat
  cls : Nat
  an : Nat
  pn : Nat
  core : Nat
  /-- predicted completion C -/
  c : Word
  pb : Nat
  /-- the provisional length, 0 when the frame was admitted with its real one -/
  prov : Nat
  dl : Word
  latest : Word
  eport : Nat
  /-- OUT_L as the admission test used it, then as the end of the frame corrects it -/
  outL : Nat
  /-- cells sent towards the cluster so far -/
  sent : Nat
  buf : Nat
  /-- pool cells held -/
  cells : Nat
  /-- clear-header length (R262) -/
  clear : Nat
  ftag : Nat
  /-- assigned to its core and not completed -/
  atCore : Bool
  /-- RESULT and OUT_LEN of FRM_DONE -/
  done : Option (Nat × Nat)
  /-- FRM_PROGRESS.CELLS -/
  prog : Nat
  /-- output cells asked of the outbound link -/
  pulled : Nat
  /-- output cells in the release buffer, with the length they had when pulled -/
  out : List (List Byte)
  /-- handed whole to the Putty shaper and counted in OUT (R109) -/
  handed : Bool
  /-- the bucket of a Putty job (R133) -/
  putty : Option Nat
  /-- a spilled frame: its ring direction -/
  spill : Option Nat
  /-- a frame taken from a ring neighbour by port `port`: its origin node and tag there (R515) -/
  taken : Option (Nat × Nat)
  /-- the R tags of a taken frame's words (R503) -/
  rmask : List Bool
  deriving DecidableEq, Repr

/-- The frame table's default: no frame. [Marks: DESIGN CHOICE (log entry 4)] -/
def Frame.none : Frame where
  side := 0
  port := 0
  at_ := 0
  len := 0
  fc := 0
  ended := false
  pend := []
  stage := .gone
  drop := 0
  discard := false
  sa := 0
  fmt := 0
  key := false
  skb := 0
  cls := 0
  an := 0
  pn := 0
  core := 0
  c := 0
  pb := 0
  prov := 0
  dl := 0
  latest := 0
  eport := 0
  outL := 0
  sent := 0
  buf := 0
  cells := 0
  clear := 0
  ftag := 0
  atCore := false
  done := .none
  prog := 0
  pulled := 0
  out := []
  handed := false
  putty := .none
  spill := .none
  taken := .none
  rmask := []

/-- An egress partition of a side: the order of admission, the released frames that wait for the MAC, and the shaper. -/
structure Egress where
  order : List Nat
  released : List Nat
  /-- next descriptor slot of the partition -/
  next : Nat
  /-- reserves of R134: bucket number to frame numbers, head first -/
  reserve : SMap (List Nat)
  /-- the CCLK at which slot 0 started, plus one; 0 when the stream does not run -/
  streamAt : Nat
  /-- the number of the next slot and its start (R131) -/
  slot : Nat
  slotAt : Nat
  /-- the values in use of R140: ZTF_CFG, ETYPE, the four bucket and schedule words, and the schedule's length -/
  cfg : Word
  etype : Word
  b01 : Word
  b23 : Word
  sched : SMap Word
  schedLen : Nat
  deriving DecidableEq, Repr

/-- A partition at reset. [Marks: DESIGN CHOICE (log entry 4)] -/
def Egress.reset : Egress := ⟨[], [], 0, [], 0, 0, 0, 0, 0, 0, 0, [], 0⟩

/-- What a cell of a cluster link carries (R101). -/
inductive LMsg where
  /-- a frame's descriptor -/
  | desc (fid : Nat)
  /-- an input cell: its frame, number, and bytes -/
  | cell (fid idx : Nat) (bytes : List Byte) (last : Bool)
  /-- an arrival message: the frame has ended with no further cell, or became a late discard -/
  | arrival (fid : Nat) (discard : Bool)
  /-- an output cell to read from CMEM and send to the release buffer -/
  | pull (fid idx : Nat) (last : Bool)
  /-- a progress report: output cells complete -/
  | progress (fid n : Nat)
  /-- a completion: RESULT and OUT_LEN -/
  | done (fid result len : Nat)
  deriving DecidableEq, Repr

/-- One direction of a cluster link (R101 to R104). -/
structure Link where
  /-- cells not yet sent -/
  queue : List LMsg
  /-- the replay buffer: sent, not acknowledged, oldest first, at most 32 -/
  sent : List LMsg
  /-- SEQ of the oldest cell of the replay buffer, which is also the receiver's next expected SEQ -/
  seq : Nat
  /-- CCLK before which no replayed cell arrives (R102) -/
  replayAt : Nat
  /-- CCLK at which the oldest cell of the replay buffer was sent -/
  sentAt : Nat
  /-- the CCLK of the last idle point (R104) -/
  idleAt : Nat
  deriving DecidableEq, Repr

/-- A link direction with nothing in it. [Marks: DESIGN CHOICE (log entry 4)] -/
def Link.reset : Link := ⟨[], [], 0, 0, 0, 0⟩

/-- The changing part of an interrupt source (R316, R324, R337). -/
structure Src where
  pend : Bool
  act : Bool
  owner : Nat
  occ : Nat
  /-- the MCLK count at which the coalescing window opened (R324) -/
  win : Option Nat
  /-- the rise of PENDING has used FALLBACK already (R328) -/
  fb : Bool
  deriving DecidableEq, Repr

/-- A source at reset. [Marks: DESIGN CHOICE (log entry 4)] -/
def Src.reset : Src := ⟨false, false, 0, 0, none, false⟩

/-- An error record (R452). -/
structure ErrRec where
  sev : Nat
  cls : Nat
  action : Nat
  kind : Nat
  index : Nat
  time : Word
  info0 : Word
  info1 : Word
  deriving DecidableEq, Repr

/-- A command of the power controller, running or waiting (R472 to R474). -/
structure PwrCmd where
  up : Bool
  d : Nat
  /-- the record of the Dust sheet that asked for it, with its cluster (R447) -/
  note : Option (Option Nat × ErrRec)
  deriving DecidableEq, Repr

/-- A key context of an SKB (R236, R410). -/
structure SkbCtx where
  live : Bool
  key : BitVec 256
  h : Quad
  ivb : BitVec 96
  dir : Bool
  keeper : Bool
  /-- SA and key it was expanded for -/
  sa : Nat
  k : Bool
  deriving DecidableEq, Repr

/-- An empty context. [Marks: DESIGN CHOICE (log entry 4)] -/
def SkbCtx.empty : SkbCtx := ⟨false, 0, 0, 0, false, false, 0, false⟩

/-- The descriptor in progress on a DMA channel (R377 to R386). -/
structure DmaRun where
  src : Word
  dst : Word
  count : Nat
  /-- 0 copy, 1 fill, 2 compare -/
  mode : Nat
  irq : Bool
  stop : Bool
  pat : TD
  /-- bytes written, or compared -/
  done : Nat
  /-- byte offset of the first differing word -/
  diff : Option Nat
  /-- OR of the tints of the words compared -/
  tint : Tint
  /-- CAUSE, 0 while none -/
  bad : Nat
  /-- CMEM offset of the descriptor -/
  pos : Nat
  /-- FCLK of its last burst, plus one; 0 once that burst counts as an orphan -/
  burst : Nat
  deriving DecidableEq, Repr

/-- The parts of a cluster that its cores share (R349 to R374, R437, R451). -/
structure Cluster where
  errq : List ErrRec
  cmem : Mem
  skb : SMap SkbCtx
  /-- CCLK of the last timed rotation step -/
  stepAt : Nat
  forcePend : Bool
  /-- CMEM arbiter: PTR of each bank, STEPS and quota use of each requester (R352, R355) -/
  ptr : SMap Nat
  steps : SMap Nat
  used : SMap Nat
  /-- phases that the oldest beat of each requester has waited so far -/
  waits : SMap Nat
  masked : List Nat
  /-- FCLK of the last arbitration phase, plus one -/
  phase : Nat
  /-- banks in the second cycle of a read-merge-write, with the FCLK of that cycle -/
  rmw : SMap Nat
  /-- granted beats withdrawn and beats that Skim forces: FCLK in which each bank serves no requester (R354, R362) -/
  dead : SMap Nat
  /-- the core whose locked sequence holds each bank, plus one -/
  holder : SMap Nat
  /-- next Skim region -/
  region : Nat
  /-- the bank that the spare serves or is being copied to, plus one -/
  spareBank : Nat
  /-- a remap copy in progress: its bank, plus one -/
  remap : Nat
  /-- Skim failures of each row of each bank (R364) -/
  rowFails : SMap Nat
  /-- soft repairs in place, by core of the cluster: 256 × array + column (R345) -/
  repairs : SMap (List Nat)
  /-- contexts whose vault restore is running (R343) -/
  restore : List Nat
  /-- CCLK of the link fences of the last second (R448) -/
  fences : List Nat
  /-- the cluster is behind a Dust sheet: 1 for its link, 2 for a bank (R448) -/
  sheet : Nat
  deriving DecidableEq, Repr

/-- A cluster at reset. [Marks: DESIGN CHOICE (log entry 4)] -/
def Cluster.reset : Cluster where
  errq := []
  cmem := Mem.zero
  skb := []
  stepAt := 0
  forcePend := false
  ptr := []
  steps := []
  used := []
  waits := []
  masked := []
  phase := 0
  rmw := []
  dead := []
  holder := []
  region := 0
  spareBank := 0
  remap := 0
  rowFails := []
  repairs := []
  restore := []
  fences := []
  sheet := 0

end Sys2Proof.Machine
end

