-- ==== Sys2Proof/Machine/RingState.lean ====
section
/-! DEFINITION. The state of the Tertos ring: ports, messages in flight, advertisements and replication. -/

namespace Sys2Proof.Machine

/-- A message that waits to be sent: content, destination, source and dateline class (R500, R506).
[Marks: DESIGN CHOICE (log entry 64)] -/
structure RMsg where
  body : RBody
  dest : Nat
  src : Nat
  dl : Bool
  deriving DecidableEq, Repr

/-- A message sent and not yet acknowledged, with its number of flits and the CCLK at which it was sent last (R504). -/
structure RSent where
  h : FlitHdr
  body : RBody
  n : Nat
  at_ : Nat
  deriving DecidableEq, Repr

/-- One ring port (R499 to R510). The pools of credits and of credits owed are data class 0 and 1, control class 0 and 1. -/
structure RPortSt where
  keyTx : BitVec 256
  saltTx : BitVec 96
  keyRx : BitVec 256
  saltRx : BitVec 96
  keyed : Bool
  pcs : Bool
  /-- CCLK at which PCS lock was lost -/
  pcsAt : Nat
  helloSent : Bool
  /-- the handshake step that this port makes or awaits next (R508); a step waits for a spare core -/
  step : Nat
  waiting : Bool
  /-- the handshake message that the waiting step acts on -/
  got : List (List Byte)
  /-- the KE handle of the handshake, 0 none -/
  handle : Nat
  txNum : Nat
  rxNum : Nat
  replay : List RSent
  queue : List RMsg
  credits : List Nat
  owed : List Nat
  /-- consecutive retries sent, and asked for, and a NACK to send -/
  run : Nat
  rxRun : Nat
  nack : Bool
  /-- CCLK of the last heartbeat accepted, plus one -/
  hbAt : Nat
  deriving DecidableEq, Repr

/-- A port at reset. [Marks: DESIGN CHOICE (log entry 4)] -/
def RPortSt.reset : RPortSt :=
  ⟨0, 0, 0, 0, false, false, 0, false, 0, false, [], 0, 0, 0, [], [], [256, 256, 32, 32], [0, 0, 0, 0], 0, 0, false, 0⟩

/-- The ring controller (R511 to R521). Keys of a per-key map are 2s + k. -/
structure Ring where
  /-- by NODE: CCLK of its last ADVERT, plus one, and its content -/
  adverts : SMap (Option (Nat × Advert))
  /-- nodes that a LOSS has named, with the neighbours that sent it -/
  losses : SMap (List Nat)
  /-- the lease that the protect device has acknowledged, plus one -/
  lack : SMap Nat
  /-- the lease sent and not acknowledged, plus one, and the REPL_SEQ that carries it -/
  leaseOut : SMap Nat
  leaseSeq : SMap Nat
  /-- the SAs whose lease limit is suspended (R520), and by SA the REPL_SEQ, plus one, of the last message of its
  resynchronisation while that is not acknowledged -/
  suspended : List Nat
  resyncSeq : SMap Nat
  /-- by SA: REPL_SEQ of the last message, sent or received, plus one -/
  seqOf : SMap Nat
  /-- the last lease or next PN received, and the last next PN sent -/
  pnGot : SMap Nat
  pnSent : SMap Nat
  /-- CCLK of the first decrypt advance not yet replicated, plus one (R519) -/
  pnAt : SMap Nat
  /-- the mailbox command's SA and REPL_SEQ awaited, and the CCLK at which it began to wait (R518) -/
  wait : Option (Nat × Nat × Nat)
  deriving DecidableEq, Repr

/-- The ring controller at reset. [Marks: DESIGN CHOICE (log entry 4)] -/
def Ring.reset : Ring := ⟨[], [], [], [], [], [], [], [], [], [], [], none⟩

end Sys2Proof.Machine
end

