-- ==== Sys2Proof/Machine/VaultState.lean ====
section
/-! DEFINITION. The state of the Warden, its mailbox, the vault, the fuses, the root store and the boot flash. -/

namespace Sys2Proof.Machine

/-- A live key's copy in the vault (R404, R410). -/
structure KeyCopy where
  key : BitVec 256
  salt : BitVec 96
  ssci : BitVec 32
  idx : Nat
  deriving DecidableEq, Repr

/-- A key-establishment handle (R414 to R416). -/
structure KeHandle where
  /-- this device started it -/
  init : Bool
  sa : Nat
  key : Bool
  an : Nat
  nextPn : Nat
  limit : Nat
  /-- CCLK of its KE_INIT -/
  at_ : Nat
  /-- the core it is bound to -/
  bound : Option Nat
  /-- the peer's public key, and EK -/
  peer : List Byte
  ek : List Byte
  /-- the shared secret that KEXPORT passed -/
  secret : Option (BitVec 256)
  /-- the KE buffer, with its tints -/
  buf : Mem
  deriving DecidableEq, Repr

/-- A key in retirement: the CCLK from which it completes, and the clusters that lose it (R412). -/
structure Retire where
  sa : Nat
  key : Bool
  idx : Nat
  at_ : Nat
  homes : List Nat
  /-- the vault copy is erased too -/
  erase : Bool
  /-- the SA is being deleted -/
  delete : Bool
  deriving DecidableEq, Repr

/-- A core image: epoch, SVN, Keeper regions and body (R418). -/
structure CoreImage where
  epoch : Nat
  svn : Nat
  krgn : List Word
  body : List Byte
  deriving DecidableEq, Repr

/-- What a flash area holds: nothing valid, or a verified image's bytes (R417). -/
structure Flash where
  wardenA : List Byte
  wardenB : List Byte
  core : List Byte
  cost : List Byte
  deriving DecidableEq, Repr

/-- The root store on VBAT (R405). -/
structure Root where
  ident : Option (BitVec 256)
  prov : Option (BitVec 512)
  kekImport : Option (BitVec 256)
  kekRepl : Option (BitVec 256)
  prinCtl : Word
  tamperEn : Nat
  /-- its header shows valid content -/
  valid : Bool
  /-- the VBAT monitor's record: loops breached while VDD_AON was away (R423) -/
  latch : Nat
  deriving DecidableEq, Repr

/-- An empty root store. [Marks: DESIGN CHOICE (log entry 4)] -/
def Root.empty : Root := ⟨none, none, none, none, 0, 0, false, 0⟩

/-- The root store cleared; the VBAT monitor's record stays (R423, R424). -/
def Root.clear (r : Root) : Root := { Root.empty with latch := r.latch }

/-- The fuses (R420, R421). [Marks: DESIGN CHOICE (log entry 5)] -/
structure Fuses where
  lc : BitVec 8
  owner : Option (BitVec 512)
  wardenSvn : Nat
  coreSvn : Nat
  deriving DecidableEq, Repr

/-- The mailbox transport and the Warden's response store (R399, R536 to R538). -/
structure Mbx where
  cmd : SMap Byte
  rsp : List Byte
  gen : Nat
  busy : Bool
  rspValid : Bool
  timeout : Bool
  /-- CCLK of the last accepted GO -/
  goAt : Nat
  /-- commands that the Warden has taken, with their generation, oldest first -/
  wq : List (Nat × List Byte)
  /-- the response store -/
  lastSeq : Option Word
  lastCmd : List Byte
  lastRsp : List Byte
  /-- the generation and response of a command that waits for a replica's acknowledgement (R518) -/
  held : Option (Nat × List Byte)
  deriving DecidableEq, Repr

/-- The mailbox at reset. [Marks: DESIGN CHOICE (log entry 4)] -/
def Mbx.reset : Mbx := ⟨[], [], 0, false, false, false, 0, [], none, [], [], none⟩

/-- The Warden (R397, R419, R446, R459). -/
structure Warden where
  /-- its firmware runs: boot has reached step 8 -/
  up : Bool
  /-- boot has ended in ROM recovery -/
  rom : Bool
  /-- halted by its lockstep comparator -/
  halted : Bool
  /-- CCLK of the last lockstep mismatch, plus one -/
  mismatchAt : Nat
  /-- CCLK of the last ALIVE_KICK, plus one -/
  kickAt : Nat
  /-- ALIVE was driven low by a missing kick -/
  late : Bool
  /-- the flash slot it runs from: false A, true B -/
  slotB : Bool
  svn : Nat
  /-- staged image bytes (IMAGE_STAGE) -/
  staged : SMap Byte
  /-- core images in service, oldest first -/
  images : List CoreImage
  /-- ROT_STEP of each cluster before a Mirror update (R444) -/
  oldStep : SMap Word
  /-- a hot restart is under way (R446, R453) -/
  restarting : Bool
  /-- the lifecycle fuses to be written when the running zeroisation has ended (R422) -/
  lcTarget : Option (BitVec 8)
  /-- its instruction memory, and its data memory -/
  imem : List Byte
  dmem : Mem
  deriving DecidableEq, Repr

/-- The Warden at reset. [Marks: DESIGN CHOICE (log entry 4)] -/
def Warden.reset : Warden := ⟨false, false, false, 0, 0, false, false, 0, [], [], [], false, none, [], Mem.zero⟩

/-- The vault (R404 to R416). -/
structure Vault where
  /-- live keys at 2s + k -/
  keys : SMap (Option KeyCopy)
  /-- by SA: its IVID, from SA_CREATE until its deletion ends -/
  ivid : SMap (Option (BitVec 64))
  handles : SMap (Option KeHandle)
  /-- how many handles have been opened -/
  nextHandle : Nat
  retiring : List Retire
  trustLine : List (BitVec 512)
  trustEast : Option (BitVec 512)
  trustWest : Option (BitVec 512)
  challenge : Option (BitVec 256)
  /-- generate requests since the last reseed, and its CCLK (R407) -/
  requests : Nat
  seededAt : Nat
  /-- zeroisation of the running engine: CCLK T0, plus one -/
  zeroAt : Nat
  /-- scan chains enabled until power-on reset; a scan request waits for DONE (R428) -/
  scan : Bool
  scanReq : Bool
  /-- a zeroisation closed the handles of a count below this (R400) -/
  zeroBefore : Nat
  /-- the keys, at 2s + k, that a zeroisation destroyed and that have not been imported again (R400) -/
  zeroKeys : List Nat
  deriving DecidableEq, Repr

/-- The vault at reset. [Marks: DESIGN CHOICE (log entry 4)] -/
def Vault.reset : Vault :=
  ⟨[], [], [], 0, [], [], none, none, none, 0, 0, 0, false, false, 0, []⟩

/-- The clocks and resets beyond their registers (R483, R484, R486, R487). -/
structure Clk where
  /-- the PLLs relock to the selected reference -/
  switching : Bool
  /-- CCLK of the last root switch whose failed PLL has not become the standby, plus one -/
  pllAt : Nat
  /-- bit k: the last sample of sensor k was above TRIP -/
  overTemp : Nat
  /-- the device holds itself in reset after a thermal trip -/
  hold : Bool
  /-- the CAUSE of a reset that waits for ZEROISE_STAT.DONE; 0 none -/
  deferred : Nat
  deriving DecidableEq, Repr

/-- The clocks at reset. [Marks: DESIGN CHOICE (log entry 4)] -/
def Clk.reset : Clk := ⟨false, 0, 0, false, 0⟩

/-- The handle bound to core g. [Marks: DESIGN CHOICE (log entry 58)] -/
def Vault.boundTo (v : Vault) (g : Nat) : Option (Nat × KeHandle) :=
  v.handles.findSome? (fun e => match e.2 with
    | some k => if k.bound = some g then some (e.1, k) else none
    | none => none)

/-- Close a handle: its buffer is cleared and its secret discarded (R416). [Marks: DESIGN CHOICE (log entry 58)] -/
def Vault.close (v : Vault) (h : Nat) : Vault := { v with handles := v.handles.set none h none }

end Sys2Proof.Machine
end

