-- ==== Sys2Proof/Machine/State.lean ====
section
/-! DEFINITION. The state of the block, its reset value, and the reasons a command can stop. -/

namespace Sys2Proof.Machine

/-- What leaves the block. [Marks: DESIGN CHOICE (log entries 6, 73)] -/
inductive Out where
  /-- a frame transmitted complete, with its FCS: side, port, bytes (R53) -/
  | frame (side q : Nat) (bytes : List Byte)
  /-- the part of an abandoned frame that was transmitted before the error block (R53) -/
  | abandoned (side q : Nat) (bytes : List Byte)
  /-- an MSI-X message of a vector (R535) -/
  | msix (v : Nat)
  /-- what a read of the word at a BAR0 offset returned to a principal outside the block -/
  | word (who : Prin) (off : Nat) (w : Word)
  /-- a message sent from ring port d (R500) -/
  | ring (d : Nat) (h : FlitHdr) (b : RBody)
  deriving DecidableEq, Repr

/-- Why a command stops the block: no command of this block does, so the type is empty. -/
inductive Fault where
  deriving DecidableEq, Repr

/-- Why a command has no meaning. -/
inductive Refusal where
  /-- raised by exec for a command whose meaning is not written; safe: nothing follows from it -/
  | notModelled (mnemonic : String)
  deriving DecidableEq, Repr

/-- The rotation of one core beyond ROT_CORE_n (R436 to R439). -/
structure Rot where
  /-- CCLK at which the present state was entered, or of RELEASE while the core starts up -/
  at_ : Nat
  /-- RELEASE has been written and ROT_RDY is awaited -/
  starting : Bool
  /-- no ROT_RDY yet since the last power-on or warm reset -/
  first : Bool
  deriving DecidableEq, Repr

/-- A core's rotation at reset. [Marks: DESIGN CHOICE (log entry 4)] -/
def Rot.reset : Rot := ⟨0, false, true⟩

/-- The whole block. [Marks: DESIGN CHOICE (log entries 1, 6)] -/
structure State where
  /-- CCLK since power-on -/
  now : Nat
  /-- how many free values have been drawn: the model's own field -/
  free : Nat
  /-- the words of BAR0 that differ from their reset values -/
  regs : SMap (Option Word)
  /-- by principal: the high word held for the next low-word write, and the high word captured by the last low-word read (R11) -/
  hold : SMap (Option (Nat × Word))
  cap : SMap (Option (Nat × Word))
  /-- by principal: the record pop whose word 0 it read last, and the words 1 to 3 captured then (R456) -/
  recCap : SMap (Option (Nat × List Word))
  /-- the words that Warden writes of FCLK `wlogAt` have replaced, which the decisions of that FCLK still see (R71, R82) -/
  wlog : List (Nat × Word)
  wlogAt : Nat
  cores : SMap Core
  cl : SMap Cluster
  rx : SMap Rx
  /-- receive calibration failures in succession of lane 16 side + l (R58) -/
  calFails : SMap Nat
  /-- ports that a fence has taken down since their last enable: 1 (R59) -/
  cut : SMap Nat
  frames : SMap Frame
  nextFid : Nat
  egress : SMap Egress
  /-- 2c the inbound direction of cluster c's link, 2c + 1 the outbound one -/
  links : SMap Link
  srcs : SMap Src
  derrq : List ErrRec
  /-- for the classes of R454: CCLK of the last record, plus one -/
  lastRec : SMap Nat
  /-- the Warden's running-priority stack (R332) -/
  wstack : List StackEnt
  /-- the SA event queue: KIND and SA (R333) -/
  saEvt : List (Nat × Nat)
  /-- replay bitmaps of key k of SA s at 2s + k: bit i for PN np - 1 - i (R107) -/
  bitmap : SMap (BitVec 256)
  /-- by side: the core chosen last, plus one; the FCLK of its last decision, plus one; decisions in that FCLK (R71, R91) -/
  chosen : SMap Nat
  decAt : SMap Nat
  decN : SMap Nat
  /-- TFREE, by core, and SPILL_FREE, by ring direction (R89, R124) -/
  tfree : SMap Word
  spillFree : SMap Word
  rot : SMap Rot
  /-- the descriptor in progress on channel n of cluster c at 16c + n, and the channel served last, plus one, of cluster c -/
  dma : SMap (Option DmaRun)
  dmaServed : SMap Nat
  rport : SMap RPortSt
  ring : Ring
  /-- the power controller's commands, the running one first, and the CCLK at which it began (R474) -/
  pwrq : List PwrCmd
  pwrAt : Nat
  clk : Clk
  /-- by principal: its MEMWIN (R550) -/
  memwin : SMap Word
  warden : Warden
  mbx : Mbx
  vault : Vault
  root : Root
  fuses : Fuses
  flash : Flash
  /-- the MSI-X table, word w of vector v at 4v + w (R536); the pending bits -/
  msixTab : SMap (Option Word)
  msixPba : Nat
  /-- by vector: CCLK at which the holdoff ends, plus one, and whether a rise was merged in it (R535) -/
  msixHold : SMap (Nat × Bool)
  out : List Out
  /-- the commands that wait, first in, first out -/
  pending : List Instr
  deriving DecidableEq, Repr

/-- The block right after power-on reset. [Marks: DESIGN CHOICE (log entries 3, 4, 5)] -/
def State.reset : State where
  now := 0
  free := 0
  regs := []
  hold := []
  cap := []
  recCap := []
  wlog := []
  wlogAt := 0
  cores := []
  cl := []
  rx := []
  calFails := []
  cut := []
  frames := []
  nextFid := 0
  egress := []
  links := []
  srcs := []
  derrq := []
  lastRec := []
  wstack := []
  saEvt := []
  bitmap := []
  chosen := []
  decAt := []
  decN := []
  tfree := []
  spillFree := []
  rot := []
  dma := []
  dmaServed := []
  rport := []
  ring := Ring.reset
  pwrq := []
  pwrAt := 0
  clk := Clk.reset
  memwin := []
  warden := Warden.reset
  mbx := Mbx.reset
  vault := Vault.reset
  root := Root.empty
  fuses := ⟨1, none, 0, 0⟩
  flash := ⟨[], [], [], []⟩
  msixTab := []
  msixPba := 0
  msixHold := []
  out := []
  pending := []

end Sys2Proof.Machine
end

