-- ==== Sys2Proof/Machine/Ops.lean ====
section
/-! DEFINITION. The named operations over the block's state: registers, counters, units, interrupt sources and error records. -/

namespace Sys2Proof.Machine

/-! Registers -/

/-- The word at a BAR0 offset: the listed value, or the reset value. -/
def State.rd (s : State) (off : Nat) : Word :=
  match s.regs.get none off with
  | some w => w
  | none => rstWord off

/-- Set the word at a BAR0 offset; a word at its reset value is not listed. -/
def State.wr (s : State) (off : Nat) (w : Word) : State :=
  { s with regs := s.regs.set none off (if w = rstWord off then none else some w) }

/-- A field of a register. -/
def State.fld (s : State) (off : Nat) (f : Fld) : Nat := (s.rd off).fld f
/-- A one-bit field of a register. -/
def State.flag (s : State) (off : Nat) (f : Fld) : Bool := s.fld off f != 0
/-- Set a field of a register. -/
def State.setFld (s : State) (off : Nat) (f : Fld) (n : Nat) : State := s.wr off ((s.rd off).setFld f n)
/-- Set a one-bit field of a register. -/
def State.setFlag (s : State) (off : Nat) (f : Fld) (b : Bool) : State := s.setFld off f (b2n b)
/-- A 64-bit register (R11). -/
def State.rd64 (s : State) (off : Nat) : Nat := (s.rd off).toNat + 2 ^ 32 * (s.rd (off + 4)).toNat
/-- Set a 64-bit register. -/
def State.wr64 (s : State) (off v : Nat) : State :=
  (s.wr off (BitVec.ofNat 32 v)).wr (off + 4) (BitVec.ofNat 32 (v / 2 ^ 32))
/-- Add to a 64-bit counter, modulo 2^64 (R65). -/
def State.add64 (s : State) (off n : Nat) : State := s.wr64 off ((s.rd64 off + n) % 2 ^ 64)
/-- Count one in a 64-bit counter. -/
def State.inc64 (s : State) (off : Nat) : State := s.add64 off 1
/-- Count one in a 32-bit counter, modulo 2^32. -/
def State.inc32 (s : State) (off : Nat) : State := s.wr off (s.rd off + 1)
/-- Count one in a field that saturates. -/
def State.incSat (s : State) (off : Nat) (f : Fld) : State :=
  s.setFld off f (min (s.fld off f + 1) (2 ^ f.width - 1))

/-! Time -/

/-- The FCLK of this CCLK (R5). [Marks: DESIGN CHOICE (log entry 2)] -/
def State.fclk (s : State) : Nat := s.now / 2
/-- The MCLK of this CCLK. [Marks: DESIGN CHOICE (log entry 2)] -/
def State.mclk (s : State) : Nat := s.now / 20
/-- TIMEBASE (R112). [Marks: DESIGN CHOICE (log entry 2)] -/
def State.timebase (s : State) : Word := BitVec.ofNat 32 s.now

/-! The words that the Prisms see (R71, R82) -/

/-- The replaced words of this FCLK. [Marks: DESIGN CHOICE (log entry 6)] -/
def State.wlogNow (s : State) : List (Nat × Word) := if s.wlogAt = s.fclk then s.wlog else []

/-- The first value recorded for an offset. -/
def logFind : List (Nat × Word) → Nat → Option Word
  | [], _ => none
  | (o, w) :: l, off => if o = off then some w else logFind l off

/-- Replace the value recorded for an offset. -/
def logSet : List (Nat × Word) → Nat → Word → List (Nat × Word)
  | [], _, _ => []
  | (o, w) :: l, off, v => if o = off then (o, v) :: l else (o, w) :: logSet l off v

/-- A word as the decisions of this FCLK see it. -/
def State.prd (s : State) (off : Nat) : Word := (logFind s.wlogNow off).getD (s.rd off)
/-- A field as the decisions of this FCLK see it. -/
def State.pfld (s : State) (off : Nat) (f : Fld) : Nat := (s.prd off).fld f
/-- A 64-bit register as the decisions of this FCLK see it. -/
def State.prd64 (s : State) (off : Nat) : Nat := (s.prd off).toNat + 2 ^ 32 * (s.prd (off + 4)).toNat
/-- A word that a decision writes: a Warden write of the same FCLK comes after it. -/
def State.pwr (s : State) (off : Nat) (w : Word) : State :=
  if (logFind s.wlogNow off).isSome then { s with wlog := logSet s.wlog off w } else s.wr off w
/-- A 64-bit register that a decision writes. -/
def State.pwr64 (s : State) (off v : Nat) : State :=
  (s.pwr off (BitVec.ofNat 32 v)).pwr (off + 4) (BitVec.ofNat 32 (v / 2 ^ 32))
/-- Record a word before a Warden write replaces it. -/
def State.logWrite (s : State) (off : Nat) : State :=
  let l := s.wlogNow
  if (logFind l off).isSome then { s with wlog := l, wlogAt := s.fclk }
  else { s with wlog := (off, s.rd off) :: l, wlogAt := s.fclk }

/-! Units -/

def State.core (s : State) (g : Nat) : Core := s.cores.get Core.reset g
def State.setCore (s : State) (g : Nat) (c : Core) : State := { s with cores := s.cores.set Core.reset g c }
def State.clu (s : State) (c : Nat) : Cluster := s.cl.get Cluster.reset c
def State.setClu (s : State) (c : Nat) (x : Cluster) : State := { s with cl := s.cl.set Cluster.reset c x }
def State.frame (s : State) (f : Nat) : Frame := s.frames.get Frame.none f
def State.setFrame (s : State) (f : Nat) (x : Frame) : State := { s with frames := s.frames.set Frame.none f x }
/-- Port numbers of both sides in one key. -/
def pkey (side p : Nat) : Nat := 16 * side + p
def State.rxOf (s : State) (k : Nat) : Rx := s.rx.get Rx.idle k
def State.setRx (s : State) (k : Nat) (x : Rx) : State := { s with rx := s.rx.set Rx.idle k x }
def State.egr (s : State) (k : Nat) : Egress := s.egress.get Egress.reset k
def State.setEgr (s : State) (k : Nat) (x : Egress) : State := { s with egress := s.egress.set Egress.reset k x }
def State.link (s : State) (k : Nat) : Link := s.links.get Link.reset k
def State.setLink (s : State) (k : Nat) (x : Link) : State := { s with links := s.links.set Link.reset k x }
def State.rotOf (s : State) (g : Nat) : Rot := s.rot.get Rot.reset g
def State.setRot (s : State) (g : Nat) (x : Rot) : State := { s with rot := s.rot.set Rot.reset g x }
/-- Something leaves the block. [Marks: DESIGN CHOICE (log entries 6, 73)] -/
def State.emit (s : State) (o : Out) : State := { s with out := s.out ++ [o] }

/-- A side as a number: red 0, black 1 (R80). -/
def sideN : Side → Nat
  | .red => 0
  | .blk => 1

/-- ROT_CORE_n.STATE of core g (R436). -/
def State.rotState (s : State) (g : Nat) : Nat := s.fld (ROT_CORE (g / 8) (g % 8)) ROT_CORE_STATE
/-- The core counts as fenced for R328. -/
def fencedState (n : Nat) : Bool := n == 2 || n == 3 || n == 5 || n == 6
/-- What core g sees around it. -/
def State.env (s : State) (g : Nat) : Env :=
  { now := s.now, rclr := s.flag TINT_CTL TINT_CTL_RCLR_EN, core := g, inService := s.rotState g == 0 }

/-! Interrupt sources (R315 to R337) -/

/-- The key of shared source i of cluster c. -/
def shKey (c i : Nat) : Nat := 1024 * c + i
/-- The key of private source i of core g. -/
def prKey (g i : Nat) : Nat := 1024 * (g / 8) + 256 + 32 * (g % 8) + i
/-- The key of source i of the device-level controller. -/
def devKey (i : Nat) : Nat := 1024 * 12 + i
/-- The address of word w (CFG, COAL, STAT, CMD) of a source's registers. -/
def srcAddr (k w : Nat) : Nat :=
  if 1024 * 12 ≤ k then DSRC (k - 1024 * 12) w
  else if k % 1024 < 256 then SRC (k / 1024) (k % 1024) w
  else PSRC (k / 1024) ((k % 1024 - 256) / 32) ((k % 1024 - 256) % 32) w

def State.src (s : State) (k : Nat) : Src := s.srcs.get Src.reset k
def State.setSrc (s : State) (k : Nat) (x : Src) : State := { s with srcs := s.srcs.set Src.reset k x }

/-- SRC_CFG fields (R335). -/
def SRC_CFG_ENABLE : Fld := ⟨31, 31⟩
def SRC_CFG_PRI : Fld := ⟨27, 24⟩
def SRC_CFG_TARGET : Fld := ⟨22, 20⟩
def SRC_CFG_FALLBACK : Fld := ⟨18, 16⟩
/-- SRC_COAL fields (R336). -/
def SRC_COAL_COUNT : Fld := ⟨31, 24⟩
def SRC_COAL_TIME : Fld := ⟨15, 0⟩

/-- A core waits in RELOAD for the loader (source 54, R460). -/
def State.anyReload (s : State) : Bool :=
  (Sys2Proof.range 0 96).any (fun g => s.rotState g == 3 && !(s.rotOf g).starting)

/-- The input of a level source; none for an edge source (R315, R332, R366, R435, R455, R460, R490, R522, R544). -/
def State.level (s : State) (k : Nat) : Option Bool :=
  let both (a b : Nat) : Option Bool := some ((s.rd a &&& s.rd b) != 0)
  let pin (p : Nat) : Option Bool :=
    if s.fld (DEVC_PIN_FLT p) PIN_FLT_MODE = 3 then some (s.flag (DEVC_PIN_FLT p) PIN_FLT_LEVEL) else none
  if 1024 * 12 ≤ k then
    let i := k - 1024 * 12
    if i < 16 then both (PORT_EVT 0 i) (PORT_EVT_EN 0 i)
    else if i < 32 then both (PORT_EVT 1 (i - 16)) (PORT_EVT_EN 1 (i - 16))
    else if i = 32 then both (RSQ_EVT 0) (RSQ_EVT_EN 0)
    else if i = 33 then both (RSQ_EVT 1) (RSQ_EVT_EN 1)
    else if i = 34 then both DLV_EVT DLV_EVT_EN
    else if i = 35 then both TINT_EVT TINT_EVT_EN
    else if i = 36 then some (!s.saEvt.isEmpty)
    else if 40 ≤ i ∧ i < 48 then pin (i - 40)
    else if i = 48 then some (!s.flag VAULT_STAT VAULT_STAT_TRNG_OK)
    else if i = 51 then some (!s.derrq.isEmpty)
    else if i = 52 then some (s.derrq.any (fun r => decide (2 ≤ r.sev)))
    else if i = 53 then some (s.derrq.any (fun r => decide (3 ≤ r.sev)))
    else if i = 54 then some s.anyReload
    else if i = 56 then both CLK_EVT CLK_EVT_EN
    else if i = 57 then both MON_EVT MON_EVT_EN
    else if i = 59 then both RING_EVT RING_EVT_EN
    else if i = 61 then both HOSTIF_EVT HOSTIF_EVT_EN
    else none
  else
    let c := k / 1024
    let i := k % 1024
    if 256 ≤ i then
      if (i - 256) % 32 = 8 then some (!(s.core (8 * c + (i - 256) / 32)).fnext.isEmpty) else none
    else if i = 64 then some (!(s.clu c).errq.isEmpty)
    else if i = 67 then some ((s.clu c).errq.any (fun r => decide (2 ≤ r.sev)))
    else if i = 66 then both (MEM_EVT c) (MEM_EVT_EN c)
    else if 72 ≤ i ∧ i < 80 then pin (i - 72)
    else none

/-- PENDING of a source (R316). -/
def State.srcPend (s : State) (k : Nat) : Bool := (s.level k).getD (s.src k).pend

/-- The effective target of a shared source: none when TARGET and FALLBACK are both fenced (R328). -/
def State.effTarget (s : State) (c i : Nat) : Option Nat :=
  let cfg := s.rd (SRC c i 0)
  let t := cfg.fld SRC_CFG_TARGET
  let f := cfg.fld SRC_CFG_FALLBACK
  if !fencedState (s.rotState (8 * c + t)) then some t
  else if !fencedState (s.rotState (8 * c + f)) then some f
  else none

/-- An event window's effect of one raw event on an edge source (R316, R323, R324). -/
def Src.raise (x : Src) (count time mclk : Nat) : Src :=
  let occ := min (x.occ + 1) 255
  if x.pend then { x with occ := occ }
  else if count = 1 ∨ (count = 0 ∧ time = 0) then { x with occ := occ, pend := true }
  else if count ≠ 0 ∧ count ≤ occ then { x with occ := occ, pend := true, win := none }
  else { x with occ := occ, win := some (x.win.getD mclk) }

/-- Vector v's mask bit in the MSI-X table: set at reset, as the standard has it. [Marks: DEDUCED (log entry 75)] -/
def State.msixMasked (s : State) (v : Nat) : Bool := bitN ((s.msixTab.get none (4 * v + 3)).getD 1).toNat 0

/-- Send a vector's message, or set its pending bit while it is masked (R535).
[Marks: DESIGN CHOICE (log entry 73); DEDUCED (log entry 75)] -/
def State.msixSend (s : State) (v : Nat) : State :=
  if s.msixMasked v then { s with msixPba := if bitN s.msixPba v then s.msixPba else s.msixPba + 2 ^ v }
  else s.emit (.msix v)

/-- HOST_VEC_v.HOLDOFF in CCLK: units of 10 µs. -/
def holdoffCclk (w : Word) : Nat := w.fld HOST_VEC_HOLDOFF * 20000

/-- A rise of the request mapped to vector v: a message, or a merge within the holdoff (R535).
[Marks: DEDUCED (log entry 75)] -/
def State.msixRise (s : State) (v : Nat) : State :=
  let h := s.msixHold.get (0, false) v
  if s.now + 1 < h.1 then { s with msixHold := s.msixHold.set (0, false) v (h.1, true) }
  else
    let off := holdoffCclk (s.rd (HOST_VEC (v - 1)))
    let s := s.msixSend v
    { s with msixHold := s.msixHold.set (0, false) v (if off = 0 then (0, false) else (s.now + off + 1, false)) }

/-- The rise of the request of device-level source i, at every vector mapped to it (R535).
[Marks: DEDUCED (log entry 39)] -/
def State.devRise (s : State) (i : Nat) : State :=
  (Sys2Proof.range 1 31).foldl (fun (s : State) v =>
    let w := s.rd (HOST_VEC (v - 1))
    if w.fld HOST_VEC_EN = 1 ∧ w.fld HOST_VEC_SRC = i then s.msixRise v else s) s

/-- One event of edge source i of the device-level controller (R332, R535). -/
def State.raiseDev (s : State) (i : Nat) : State :=
  let cw := s.rd (srcAddr (devKey i) 1)
  let x := (s.src (devKey i)).raise (cw.fld SRC_COAL_COUNT) (cw.fld SRC_COAL_TIME) s.mclk
  (s.setSrc (devKey i) x).devRise i

/-- Set an event of R64, with the rise of the port's source (R332). -/
def State.evtSet (s : State) (evt en src : Nat) (f : Fld) : State :=
  let hot (s : State) : Bool := (s.rd evt &&& s.rd en) != 0
  let was := hot s
  let s := s.setFlag evt f true
  if hot s && !was then s.devRise src else s
/-- A shared source has become pending: a use of FALLBACK, or no target, is counted and raises source 38 (R328).
[Marks: DEDUCED (log entry 39)] -/
def State.fallback (s : State) (c i : Nat) : State :=
  let x := s.src (shKey c i)
  let t := s.fld (SRC c i 0) SRC_CFG_TARGET
  if x.fb || !fencedState (s.rotState (8 * c + t)) then s
  else
    let s := s.setSrc (shKey c i) { x with fb := true }
    let s := if (s.effTarget c i).isSome then s.inc64 (FALLBACK_COUNT c) else s
    (s.wr DEVC_FB_STAT (s.rd DEVC_FB_STAT ||| BitVec.ofNat 32 (2 ^ c))).raiseDev 38

/-- One event of an edge source (R316, R324). [Marks: DEDUCED (log entry 39)] -/
def State.raise (s : State) (k : Nat) : State :=
  if 1024 * 12 ≤ k then s.raiseDev (k - 1024 * 12)
  else
    let cw := s.rd (srcAddr k 1)
    let x := (s.src k).raise (cw.fld SRC_COAL_COUNT) (cw.fld SRC_COAL_TIME) s.mclk
    let s := s.setSrc k x
    if x.pend && decide (k % 1024 < 256) then s.fallback (k / 1024) (k % 1024) else s

/-- Private source i of core g. -/
def State.raisePriv (s : State) (g i : Nat) : State := s.raise (prKey g i)
/-- Shared source i of cluster c. -/
def State.raiseShared (s : State) (c i : Nat) : State := s.raise (shKey c i)

/-- A core that leaves the role of spare closes the handle bound to it (R414, R441). -/
def State.closeKeOf (s : State) (g : Nat) : State :=
  match s.vault.boundTo g with
  | some (h, _) => { s with vault := s.vault.close h }
  | none => s

/-! Error records (R450 to R457) -/

/-- Severity of each class (R453). -/
def classSev (cls : Nat) : Nat :=
  if cls = 18 ∨ cls = 19 then 3
  else if cls = 1 ∨ cls = 5 ∨ cls = 9 ∨ cls = 11 ∨ cls = 14 ∨ cls = 20 then 1
  else 2

/-- Remove the last record of a class from a queue. -/
def dropLast (sev : Nat) (q : List ErrRec) : List ErrRec := (q.reverse.eraseP (fun r => r.sev == sev)).reverse

/-- Enter a record in a queue of `cap` records; the flag says that a record was discarded (R457). -/
def pushRec (cap : Nat) (q : List ErrRec) (r : ErrRec) : List ErrRec × Bool :=
  if q.length < cap then (q ++ [r], false)
  else
    let low := (q.map (fun x => x.sev)).foldl min 3
    if low < r.sev then (dropLast low q ++ [r], true) else (q, true)

/-- The oldest record of the highest class, and the queue without it (R456). -/
def popRec (q : List ErrRec) : Option (ErrRec × List ErrRec) :=
  let top := (q.map (fun x => x.sev)).foldl max 0
  (q.find? (fun r => r.sev == top)).map (fun r => (r, q.eraseP (fun r => r.sev == top)))

/-- Word w of a record as ERRQ_POP shows it (R452). -/
def ErrRec.word (r : ErrRec) (w : Nat) : Word :=
  match w with
  | 0 => BitVec.ofNat 32 (2 ^ 31 + r.sev % 4 * 2 ^ 29 + r.cls % 256 * 2 ^ 20 + r.action % 16 * 2 ^ 16
      + r.kind % 16 * 2 ^ 12 + r.index % 4096)
  | 1 => r.time
  | 2 => r.info0
  | _ => r.info1

/-- Set a bit of FAULT_STAT (R468). -/
def State.faultStat (s : State) (f : Fld) : State := s.setFlag FAULT_STAT f true

/-- Enter a record in the device queue, with the rises of sources 51 to 53 (R451, R455, R457). -/
def State.pushDev (s : State) (r : ErrRec) : State :=
  let p := pushRec 16 s.derrq r
  let any (q : List ErrRec) (n : Nat) : Bool := q.any (fun x => decide (n ≤ x.sev))
  let rise (n : Nat) : Bool := any p.1 n && !any s.derrq n
  let r1 := rise 1
  let r2 := rise 2
  let r3 := rise 3
  let s := { s with derrq := p.1 }
  let s := if p.2 then ((s.inc64 DERRQ_OVF).setFlag DERRQ_STAT DERRQ_STAT_LOST true).faultStat FAULT_STAT_LOST else s
  let s := if r1 then s.devRise 51 else s
  let s := if r2 then s.devRise 52 else s
  if r3 then s.devRise 53 else s

/-- Enter a record in the queue of cluster c (R451, R457). -/
def State.pushCl (s : State) (c : Nat) (r : ErrRec) : State :=
  let x := s.clu c
  let p := pushRec 8 x.errq r
  let s := s.setClu c { x with errq := p.1 }
  if p.2 then ((s.inc64 (ERRQ_OVF c)).setFlag (ERRQ_STAT c) ERRQ_STAT_LOST true).faultStat FAULT_STAT_LOST else s

/-- Queue an error record: of a cluster when `c` is one, else of the device (R451 to R453, R468). -/
def State.record (s : State) (c : Option Nat) (cls action kind index : Nat) (info0 info1 : Word) : State :=
  let r : ErrRec := ⟨classSev cls, cls, action, kind, index, s.timebase, info0, info1⟩
  let s := if r.sev = 3 then s.faultStat FAULT_STAT_CRITICAL else s
  match c with
  | some c =>
    let s := s.pushCl c r
    if 2 ≤ r.sev then s.pushDev r else s
  | none => s.pushDev r

/-- Queue a record of a class that R454 holds to one per unit per 1 ms. -/
def State.recordMs (s : State) (c : Option Nat) (cls action kind index unit : Nat) (info0 info1 : Word) : State :=
  let k := cls * 65536 + unit
  let last := s.lastRec.get 0 k
  if last ≠ 0 ∧ s.now + 1 < last + 2000000 then s
  else { s with lastRec := s.lastRec.set 0 k (s.now + 1) }.record c cls action kind index info0 info1

/-! Memory errors (R342, R343, R453) -/

/-- Count and record an error of the IMEM (0) or DMEM (1) of core g. -/
def State.coreMemErr (s : State) (g mem : Nat) (ue : Bool) (addr : Word) : State :=
  let c := g / 8
  let s := s.inc64 (CORE_MEM_CNT c (g % 8) (b2n ue))
  if ue then
    let s := s.setFlag (MEM_EVT c) MEM_EVT_UE true
    s.record (some c) 2 0 1 g addr (BitVec.ofNat 32 mem)
  else s.recordMs (some c) 1 1 1 g (2 * g + mem) addr (BitVec.ofNat 32 mem)

/-- Count and record an error of the CMEM of cluster c at an offset. -/
def State.cmemErr (s : State) (c : Nat) (ue : Bool) (off : Nat) : State :=
  let s := s.inc64 (MEM_CNT c (3 + b2n ue))
  if ue then
    let s := s.setFlag (MEM_EVT c) MEM_EVT_UE true
    let s := s.wr (CMEM_UE_ADDR c) (BitVec.ofNat 32 off)
    s.record (some c) 2 0 2 c (BitVec.ofNat 32 off) 2
  else s.recordMs (some c) 1 1 2 c (1000 + c) (BitVec.ofNat 32 off) 2

/-- Count and record an error of the SKB of cluster c. -/
def State.skbErr (s : State) (c : Nat) (ue : Bool) (idx : Nat) : State :=
  let s := s.inc64 (MEM_CNT c (5 + b2n ue))
  if ue then
    let s := s.setFlag (MEM_EVT c) MEM_EVT_UE true
    s.record (some c) 2 0 5 c (BitVec.ofNat 32 idx) 3
  else s.recordMs (some c) 1 1 5 c (2000 + c) (BitVec.ofNat 32 idx) 3

end Sys2Proof.Machine
end

