-- ==== Sys2Proof/Machine/PowerOps.lean ====
section
/-! DEFINITION. The power controller and the Dust sheets' use of it. -/

namespace Sys2Proof.Machine

/-- The state of a domain: 0 OFF, 1 POWERING_UP, 2 ON, 3 QUIESCING, 4 POWERING_DOWN (R491). -/
def State.domain (s : State) (d : Nat) : Nat := (s.rd (PWR_STAT d)).toNat % 8
/-- Put a domain in a state. -/
def State.setDomain (s : State) (d n : Nat) : State := s.wr (PWR_STAT d) (BitVec.ofNat 32 n)

/-- Queue a record as it was made at its detection. -/
def State.pushRecord (s : State) (c : Option Nat) (r : ErrRec) : State :=
  let s := if r.sev = 3 then s.faultStat FAULT_STAT_CRITICAL else s
  match c with
  | some c =>
    let s := s.pushCl c r
    if 2 ≤ r.sev then s.pushDev r else s
  | none => s.pushDev r

/-- A record made now, to be queued once the Dust sheet's power-off has ended (R447). -/
def State.mkRec (s : State) (cls action kind index : Nat) (info0 info1 : Word) : ErrRec :=
  ⟨classSev cls, cls, action, kind, index, s.timebase, info0, info1⟩

/-! The DMA engine's part in a power-down (R386) -/

/-- The power domain that a DMA address of cluster c reads or writes (R376, R471): the engine's own for CMEM. -/
def dmaDomain (c : Nat) (a : Word) : Nat :=
  if 0x2000000 ≤ a.toNat then 8 * c + (a.toNat - 0x2000000) / 0x20000 % 8 else 96 + c

/-- The descriptor touches domain d: the cluster's own domain holds the engine itself. -/
def DmaRun.touches (r : DmaRun) (c d : Nat) : Bool :=
  d == 96 + c || dmaDomain c r.dst == d || (r.mode != 1 && dmaDomain c r.src == d)

/-- Every descriptor in progress that touches a domain is held and marked bad with a cause (R385, R386).
[Marks: DEDUCED (log entry 44)] -/
def State.dmaStop (s : State) (cause : Nat) (hold : Bool) (test : Nat → DmaRun → Bool) : State :=
  s.dma.foldl (fun (s : State) e =>
    match e.2 with
    | none => s
    | some r =>
      if r.bad = 0 && test (e.1 / 16) r then
        let s := { s with dma := s.dma.set none e.1 (some { r with bad := cause }) }
        if hold then s.setFlag (DMA_STAT (e.1 / 16) (e.1 % 16)) DMA_STAT_HOLD true else s
      else s) s

/-- A domain is asked to power down (R386). -/
def State.dmaHold (s : State) (d : Nat) : State := s.dmaStop 3 true (fun c r => r.touches c d)

/-- A command ends: its result shows, source 58 is raised, and a Dust sheet's record is queued, with INFO1 bit 31 where the
quiesce timed out (R447, R490, R492). [Marks: DEDUCED (log entry 47)] -/
def State.pwrResult (s : State) (c : PwrCmd) (result : Nat) : State :=
  let s := ((s.setFlag PWR_CMD_STAT PWR_CMD_STAT_BUSY false).setFld PWR_CMD_STAT PWR_CMD_STAT_RESULT result).setFld
    PWR_CMD_STAT PWR_CMD_STAT_DOMAIN c.d
  let s := s.raiseDev 58
  match c.note with
  | some (cl, r) => s.pushRecord cl { r with info1 := if result = 1 then r.info1 ||| 0x80000000 else r.info1 }
  | none => s

/-- The next command of the queue begins; one whose domain is already in the requested state ends at once (R474).
[Marks: DEDUCED (log entry 47)] -/
def State.pwrBegin (s : State) : List PwrCmd → State
  | [] => { s with pwrq := [] }
  | c :: cs =>
    if s.domain c.d = (if c.up then 2 else 0) then (s.pwrResult c 0).pwrBegin cs
    else
      let s := (s.setFlag PWR_CMD_STAT PWR_CMD_STAT_BUSY true).setFld PWR_CMD_STAT PWR_CMD_STAT_DOMAIN c.d
      let s := if c.up then s else s.dmaHold c.d
      { s.setDomain c.d (if c.up then 1 else 3) with pwrq := c :: cs, pwrAt := s.now }

/-- A command enters the controller: it begins at once, or waits behind the running one. -/
def State.pwrAdd (s : State) (c : PwrCmd) : State :=
  if s.pwrq.isEmpty then s.pwrBegin [c] else { s with pwrq := s.pwrq ++ [c] }

/-- The running command ends with a result, its domain in a state, and the next begins.
[Marks: DEDUCED (log entry 47)] -/
def State.pwrEnd (s : State) (result dom : Nat) : State :=
  match s.pwrq with
  | [] => s
  | c :: cs => ((s.setDomain c.d dom).pwrResult c result).pwrBegin cs

/-- A Dust sheet powers a unit's domain off and then queues its record (R447). [Marks: DEDUCED (log entry 49)] -/
def State.sheetOff (s : State) (d : Nat) (note : Option (Option Nat × ErrRec)) : State := s.pwrAdd ⟨false, d, note⟩

end Sys2Proof.Machine
end

