-- ==== Sys2Proof/Machine/FrameOps.lean ====
section
/-! DEFINITION. Dropping frames, losing and resetting cores, fencing links, and the interrupt controller's part in them. -/

namespace Sys2Proof.Machine

/-! Ledgers (R109, R116) -/

/-- Count in a ledger word: 0 IN, 1 OUT, 2 REFUSED, 3 DROPPED. -/
def State.ledger (s : State) (side p k : Nat) : State := s.inc64 (LEDGER side p k)

/-- INFLIGHT up or down by one. -/
def State.inflight (s : State) (side p : Nat) (up : Bool) : State :=
  let a := LEDGER_INFLIGHT side p
  s.wr a (if up then s.rd a + 1 else s.rd a - 1)

/-- Remove a frame from the table once nothing holds it. -/
def State.prune (s : State) (f : Nat) : State :=
  let x := s.frame f
  if x.stage = .gone ∧ !x.atCore ∧ x.cells = 0 then s.setFrame f Frame.none else s

/-- SA counters of R113: 0 FRAMES, 1 OCTETS, 2 PN_SKIP, 3 TAG_FAIL, 4 REPLAY, 5 REFUSED. -/
def State.saCount (s : State) (sa k : Nat) : State := s.inc64 (SA_CNT sa k)

/-- Take a released frame out of its port's queue. -/
def State.unrelease (s : State) (f : Nat) : State :=
  let x := s.frame f
  let k := pkey (1 - x.side) x.eport
  let e := s.egr k
  if e.released.contains f then s.setEgr k { e with released := e.released.filter (fun i => i != f) } else s

/-- The ledger's part of a drop: a frame in flight, or one already handed to the Putty shaper, becomes a dropped one. -/
def State.ledgerDrop (s : State) (x : Frame) (code : Nat) : State :=
  if x.putty.isSome || x.taken.isSome then s
  else
    let s := s.ledger x.side x.port 3
    let s := s.inc64 (LEDGER_DROPPED x.side x.port code)
    if x.handed then
      let less (s : State) (a n : Nat) : State := s.wr64 a ((s.rd64 a + (2 ^ 64 - n)) % 2 ^ 64)
      let n := (x.done.map (fun d => d.2)).getD 0
      less (less (less s (LEDGER x.side x.port 1) 1) (SA_CNT x.sa 0) 1) (SA_CNT x.sa 1) n
    else s.inflight x.side x.port false

/-- Drop an admitted frame for a reason of R109; a frame that has a reason keeps it. Its pool cells go back when no core
holds it (R105), its PN counts as a skip on encryption (R88). -/
def State.drop (s : State) (f code : Nat) : State :=
  let x := s.frame f
  if x.drop ≠ 0 then s
  else match x.stage with
    | .wait => s
    | .refused => s
    | .gone => s
    | st =>
      let s := s.ledgerDrop x code
      let s := if x.side = 0 && x.taken.isNone then s.saCount x.sa 2 else s
      let s := if code = 2 then s.saCount x.sa 3 else if code = 3 then s.saCount x.sa 4 else s
      let s := s.unrelease f
      let x := { x with drop := code, cells := if x.atCore then x.cells else 0,
                        stage := if st = FStage.released then FStage.gone else st }
      let x := if x.putty.isSome then { x with stage := .gone } else x
      (s.setFrame f x).prune f

/-- The numbers of the frames that satisfy a test. -/
def State.framesWith (s : State) (t : Frame → Bool) : List Nat := (s.frames.filter (fun e => t e.2)).map (fun e => e.1)

/-- QDEPTH_g (R89). -/
def State.qdepth (s : State) (g : Nat) : Nat := (s.framesWith (fun x => x.atCore && x.core == g)).length

def State.tfreeOf (s : State) (g : Nat) : Word := s.tfree.get 0 g
/-- [Marks: DEDUCED (log entry 32)] -/
def State.setTfree (s : State) (g : Nat) (w : Word) : State := { s with tfree := s.tfree.set 0 g w }

/-- A frame leaves its core without being completed (R93, R103). -/
def State.lose (s : State) (f : Nat) : State :=
  let s := s.drop f 4
  let x := s.frame f
  if x.atCore then (s.setFrame f { x with atCore := false, cells := 0 }).prune f else s

/-- Every frame of core g is dropped with CORE_LOST; QDEPTH becomes 0 and TFREE becomes TIMEBASE (R93, R103). -/
def State.coreLost (s : State) (g : Nat) : State :=
  let s := (s.framesWith (fun x => x.atCore && x.core == g)).foldl State.lose s
  let s := s.setTfree g s.timebase
  let c := s.core g
  s.setCore g { c with fnext := [], popped := [], nextCap := [] }

/-! Sources of a core that is fenced or reset (R329) -/

/-- An ACTIVE source that core n of its cluster owned is handled again. -/
def Src.orphan (x : Src) (isLevel : Bool) : Src :=
  { x with act := false, owner := 0, pend := x.pend || !isLevel }

/-- The keys of a cluster's sources that core n owns. -/
def State.owned (s : State) (c n : Nat) : List Nat :=
  (s.srcs.filter (fun e => decide (e.1 / 1024 = c ∧ e.1 < 1024 * 12) && e.2.act && decide (e.2.owner = n))).map (fun e => e.1)

/-- Pending shared sources whose target is now fenced use FALLBACK (R328). -/
def State.fallbackAll (s : State) (c : Nat) : State :=
  (Sys2Proof.range 32 223).foldl (fun (s : State) i => if s.srcPend (shKey c i) then s.fallback c i else s) s

/-- Core g is fenced or reset: its sources are released and its stack emptied (R329). -/
def State.evcRelease (s : State) (g : Nat) : State :=
  let s := (s.owned (g / 8) (g % 8)).foldl (fun (s : State) k => s.setSrc k ((s.src k).orphan (s.level k).isSome)) s
  let c := s.core g
  s.setCore g { c with stack := [] }

/-- A per-core reset returns every source of the private bank to its reset state (R329). -/
def State.evcBankReset (s : State) (g : Nat) : State :=
  (Sys2Proof.range 0 32).foldl (fun (s : State) i =>
    let k := prKey g i
    ((s.setSrc k Src.reset).wr (srcAddr k 0) (rstWord (srcAddr k 0))).wr (srcAddr k 1) (rstWord (srcAddr k 1))) s

/-! Core resets and fences (R151, R308, R436, R441, R448) -/

/-- A core after a per-core reset: memories, bank owners, Keeper registers and the image slot are kept.
[Marks: DEDUCED (log entry 48)] -/
def Core.perCoreReset (c : Core) (now : Nat) (sub : Nat) : Core :=
  { Core.reset with
    rstAt := now, krgn := c.krgn, keeperLimit := c.keeperLimit, slotB := c.slotB, imem := c.imem, dmem := c.dmem,
    dbOwn := c.dbOwn, dbBusy := c.dbBusy, resetSub := sub }

/-! CMEM beats of the cores (R352 to R357) -/

/-- A store of up to 16 bytes from the two halves of its data (R267). [Marks: DEDUCED (log entry 15)] -/
def Mem.farStore (m : Mem) (off size : Nat) (lo hi : TD) : Mem :=
  if size = 16 then (m.store off (toLE 8 lo.v.toNat) lo.t).store (off + 8) (toLE 8 hi.v.toNat) hi.t
  else m.store off (toLE size lo.v.toNat) lo.t

/-- The bank cycle of a granted beat: a store changes CMEM, a load takes what the row holds (R357). -/
def Far.perform (f : Far) (m : Mem) : Far × Mem :=
  let off := f.addr.toNat - 0x1000000
  if f.wr then ({ f with perf := true }, m.farStore off f.size f.lo f.hi)
  else if f.size = 16 then ({ f with perf := true, lo := m.word off, hi := m.word (off + 8) }, m)
  else ({ f with perf := true, lo := ⟨BitVec.ofNat 64 (m.val off f.size), m.tint off⟩ }, m)

/-- The beats in a list whose bank cycle is not later than FCLK k. -/
def performFar (k : Nat) : List Far → Mem → List Far × Mem
  | [], m => ([], m)
  | f :: fs, m =>
    let due := match f.granted with
      | some p => !f.perf && decide (p + 1 ≤ k)
      | none => false
    let x := if due then f.perform m else (f, m)
    let r := performFar k fs x.2
    (x.1 :: r.1, r.2)

/-- The granted beats of a cluster's cores whose bank cycle has come (R352, R357). -/
def State.performBeats (s : State) (c : Nat) : State :=
  (Sys2Proof.range (8 * c) 8).foldl (fun (s : State) g =>
    let x := s.core g
    if x.far.any (fun f => f.granted.isSome && !f.perf) then
      let y := s.clu c
      let r := performFar s.fclk x.far y.cmem
      (s.setCore g { x with far := r.1 }).setClu c { y with cmem := r.2 }
    else s) s

/-- Core g's work in its far accesses is withdrawn: a beat granted and not performed leaves its bank unused for one FCLK,
which counts in DEAD (R354). -/
def State.withdraw (s : State) (g : Nat) : State :=
  let c := g / 8
  let s := s.performBeats c
  let x := s.core g
  let lost := x.far.filter (fun f => f.granted.isSome && !f.perf)
  let s := lost.foldl (fun (s : State) f =>
    let y := s.clu c
    let b := (f.addr.toNat - 0x1000000) / 32 % 32
    (s.setClu c { y with dead := y.dead.set 0 b (f.granted.getD 0 + 1), rmw := y.rmw.set 0 b 0 }).inc64 (ARB_CNT c (g % 8) 2)) s
  let y := s.clu c
  let s := s.setClu c { y with steps := y.steps.set 0 (g % 8) 0, waits := y.waits.set 0 (g % 8) 0 }
  s.setCore g { s.core g with far := [] }

/-- Release the banks that a core's locked sequence holds (R359). -/
def State.unlock (s : State) (g : Nat) : State :=
  let x := s.clu (g / 8)
  s.setClu (g / 8) { x with holder := x.holder.filter (fun e => e.2 != g + 1) }

/-- A per-core reset clears the core's captures and its hold (R11). -/
def State.dropCaptures (s : State) (key : Nat) : State :=
  { s with hold := s.hold.set none key none, cap := s.cap.set none key none, recCap := s.recCap.set none key none }

/-- A per-core reset of core g (R11, R151, R329, R359). [Marks: DEDUCED (log entry 48)] -/
def State.resetCore (s : State) (g sub : Nat) : State :=
  let s := (s.coreLost g).dropCaptures g
  let s := (s.evcRelease g).evcBankReset g
  let s := (s.unlock g).withdraw g
  s.setCore g ((s.core g).perCoreReset s.now sub)

/-- The numbers of a cluster's cores in a rotation state. -/
def State.coresIn (s : State) (c st : Nat) : List Nat :=
  (Sys2Proof.range (8 * c) 8).filter (fun g => s.rotState g == st)

/-- Put core g in a rotation state. -/
def State.toRot (s : State) (g st : Nat) : State :=
  let s := s.setFld (ROT_CORE (g / 8) (g % 8)) ROT_CORE_STATE st
  s.setRot g { s.rotOf g with at_ := s.now, starting := false }

/-- The cluster's spare enters service in the next FCLK (R441). [Marks: DESIGN CHOICE (log entry 26)] -/
def State.promoteSpare (s : State) (c : Nat) : State :=
  match s.coresIn c 4 with
  | [] => s
  | g :: _ =>
    let s := (s.closeKeOf g).toRot g 0
    s.setRot g { s.rotOf g with at_ := 2 * (s.fclk + 1) }

/-- Core g is made unusable in state 5 or 6: its work is lost, its sources go elsewhere, the spare is promoted
(R308, R329, R441, R447, R448). -/
def State.unuseCore (s : State) (g st : Nat) : State :=
  let was := s.rotState g
  let s := if was = 4 then s.closeKeOf g else s
  let s := s.coreLost g
  let s := s.evcRelease g
  let s := (s.unlock g).withdraw g
  let c := s.core g
  let s := s.setCore g { c with run := false }
  let s := s.toRot g st
  let s := s.faultStat FAULT_STAT_CAPACITY
  let s := s.fallbackAll (g / 8)
  if was = 0 then s.promoteSpare (g / 8) else s

/-- Place core g behind a Dust sheet for a cause: record class, INFO0 and INFO1 (R447, R453). -/
def State.fenceCore (s : State) (g st cls : Nat) (info0 info1 : Word) : State :=
  let r := s.mkRec cls 3 1 g info0 info1
  (s.unuseCore g st).sheetOff g (some (some (g / 8), r))

/-! Cluster links (R103, R448) -/

/-- Output cells of a frame. -/
def outCells (x : Frame) : Nat :=
  match x.done with
  | some (_, n) => (n + 255) / 256
  | none => 41

/-- The frame has a descriptor or a cell in its core's cluster (R103). -/
def Frame.inCluster (x : Frame) (c : Nat) : Bool :=
  decide (x.core / 8 = c) && (x.atCore || (x.stage != .gone && decide (x.out.length < outCells x)))
    && x.stage != .wait && x.stage != .refused

/-- Putty frames of a cluster leave their reserves (R134). -/
def State.puttyLost (s : State) (c : Nat) : State :=
  (Sys2Proof.range 0 16).foldl (fun (s : State) q =>
    let e := s.egr (pkey 1 q)
    s.setEgr (pkey 1 q) { e with reserve := (Sys2Proof.range 0 4).foldl (fun (m : SMap (List Nat)) b =>
      m.set [] b ((m.get [] b).filter (fun f => (s.frame f).core / 8 != c))) e.reserve }) s

/-- Both directions of a link with nothing in them, and every credit with its sender. -/
def State.clearLink (s : State) (c : Nat) : State :=
  let s := (s.setLink (2 * c) Link.reset).setLink (2 * c + 1) Link.reset
  (s.setFld (CLINK_STAT c) CLINK_STAT_IN_CREDITS 64).setFld (CLINK_STAT c) CLINK_STAT_OUT_CREDITS 64

/-- Place a cluster behind a Dust sheet: its 8 cores and its shared domain are powered off, then the record of the cause,
if any, is queued (R447, R448). -/
def State.fenceCluster (s : State) (c why : Nat) (note : Option ErrRec) : State :=
  let x := s.clu c
  let s := s.setClu c { x with sheet := why }
  let s := (Sys2Proof.range (8 * c) 8).foldl (fun (s : State) g => (s.unuseCore g 5).sheetOff g none) s
  s.sheetOff (96 + c) (note.map (fun r => (some c, r)))

/-- The effects of a link fence on frames, cores and the link itself (R103). -/
def State.linkLost (s : State) (c : Nat) : State :=
  let s := s.puttyLost c
  let s := (s.framesWith (fun x => x.inCluster c)).foldl (fun (s : State) f =>
    let s := s.lose f
    let x := s.frame f
    (s.setFrame f { x with cells := 0 }).prune f) s
  let s := (Sys2Proof.range (8 * c) 8).foldl State.coreLost s
  s.clearLink c

/-- Fence the link of cluster c for a cause: 1 retry limit, 2 credit audit, 3 command (R103, R104, R115). The third fence
within 1 s fences the cluster (R448). -/
def State.fenceLink (s : State) (c cause : Nat) : State :=
  if s.flag (CLINK_STAT c) CLINK_STAT_FENCED then s
  else
    let s := ((s.setFlag (CLINK_STAT c) CLINK_STAT_FENCED true).setFlag (CLINK_STAT c) CLINK_STAT_UP false).setFld
      (CLINK_STAT c) CLINK_STAT_FENCE_CAUSE cause
    let s := s.linkLost c
    let x := s.clu c
    let recent := x.fences.filter (fun t => decide (s.now < t + 2000000000)) ++ [s.now]
    let s := s.setClu c { x with fences := recent }
    let s := s.raiseShared c 65
    let s := s.record (some c) 10 3 3 c 0 (BitVec.ofNat 32 cause)
    if 3 ≤ recent.length ∧ (s.clu c).sheet = 0 then s.fenceCluster c 1 none else s

end Sys2Proof.Machine
end

