-- ==== Sys2Proof/Machine/Issue.lean ====
section
/-! DEFINITION. What one operation does when its bundle issues: its results in flight, its other effects, the stalls that
hold it back and the checks that refuse it. -/

namespace Sys2Proof.Machine

/-- The lanes that R213 lets an element-wise operation write, as a number with bit i for lane i. -/
def Core.laneMask (c : Core) (pg lanes : Nat) : Nat :=
  let n := min c.vlen lanes
  let p := (c.rdP pg).v.toNat
  (List.range lanes).foldl (fun m i => if i < n && (pg == 0 || bitN p i) then m + 2 ^ i else m) 0

/-- The byte enables of the lanes in a mask, `k` bytes to a lane (R302). -/
def laneBytes (k mask : Nat) : Nat → Nat
  | 0 => 0
  | n + 1 => laneBytes k mask n + (if bitN mask n then (2 ^ k - 1) * 2 ^ (k * n) else 0)

/-- The tint of the governing predicate and of VL (R218). -/
def Core.govTint (c : Core) (pg : Nat) : Tint :=
  (if pg = 0 then Tint.clean else (c.rdP pg).t).or (c.rdCr 7).t

/-- The value of a vector operand: dn or qn. -/
def Core.rdV (c : Core) (n : Nat) (long : Bool) : Nat := if long then c.rdQ n else (c.rdLo n).v.toNat
/-- The OR of the tints of the halves of a vector operand. -/
def Core.vTint (c : Core) (n : Nat) (long : Bool) : Tint :=
  if long then (c.rdLo n).t.or (c.rdHi n).t else (c.rdLo n).t

/-- A number as the two tagged halves of a register. -/
def halves (v : Nat) (tl th : Tint) : TD × TD := (⟨BitVec.ofNat 64 v, tl⟩, ⟨BitVec.ofNat 64 (v / 2 ^ 64), th⟩)

/-- A result for a vector register. -/
def vecFlight (b : Flight) (n : Nat) (long : Bool) (en v : Nat) (tl th : Tint) : Flight :=
  let h := halves v tl th
  { b with file := if long then 6 else 5, num := n, byteEn := BitVec.ofNat 16 en, v0 := h.1, v1 := h.2 }

/-- The results of a VR-format operation (R213, R218 to R222). -/
def Core.vopFlights (c : Core) (f : VF) (o : VR) (b : Flight) : List Flight :=
  let vd := o.vd.toNat
  let va := o.va.toNat
  let vb := o.vb.toNat
  let pg := o.pg.toNat
  let a := c.rdV va o.long
  let bb := c.rdV vb o.long
  let gov := c.govTint pg
  let w := 8 * 2 ^ o.ew.toNat
  let bitsN := if o.long then 128 else 64
  let ewHi := bitN o.ew.toNat 1
  let ewLo := bitN o.ew.toNat 0
  let q := (c.rdCr 9).v.toNat
  let qi := (c.rdCr 10).v.toNat
  let loT := ((c.rdLo va).t.or (c.rdLo vb).t).or gov
  let hiT := ((c.rdHi va).t.or (c.rdHi vb).t).or gov
  let elem (w : Nat) (val : Nat → Nat) : List Flight :=
    let lanes := bitsN / w
    let mask := c.laneMask pg lanes
    [vecFlight b vd o.long (laneBytes (w / 8) mask lanes) (ofLanes w ((List.range lanes).map val)) loT hiT]
  let accum (w : Nat) (val : Nat → Nat) : List Flight :=
    let lanes := bitsN / w
    let mask := c.laneMask pg lanes
    [vecFlight b vd o.long (laneBytes (w / 8) mask lanes) (ofLanes w ((List.range lanes).map val))
      (loT.or (c.rdLo vd).t) (hiT.or (c.rdHi vd).t)]
  let compare : List Flight :=
    let lanes := bitsN / w
    let mask := c.laneMask pg lanes
    let v := (List.range lanes).foldl (fun m i =>
      if bitN mask i && laneVal f w (lane w a i) (lane w bb i) == 1 then m + 2 ^ i else m) 0
    let t := ((c.vTint va o.long).or (c.vTint vb o.long)).or gov
    [{ b with file := 7, num := vd, v0 := ⟨BitVec.ofNat 64 v, t⟩ }]
  let widen (uns add : Bool) : List Flight :=
    let lanes := 64 / w
    let mask := c.laneMask pg lanes
    let d := c.rdQ vd
    let t := ((c.rdLo va).t.or (c.rdLo vb).t).or gov
    let t := if add then (t.or (c.rdLo vd).t).or (c.rdHi vd).t else t
    let a := (c.rdLo va).v.toNat
    let bb := (c.rdLo vb).v.toNat
    let val i :=
      let pr := fieldInt w uns (lane w a i) * fieldInt w uns (lane w bb i)
      let base : Int := if add then (lane (2 * w) d i : Nat) else 0
      (BitVec.ofInt (2 * w) (base + pr)).toNat
    [vecFlight b vd true (laneBytes (w / 4) mask lanes) (ofLanes (2 * w) ((List.range lanes).map val)) t t]
  let whole (v : Nat) (t : Tint) : List Flight := [vecFlight b vd o.long 0xFFFF v t t]
  let allT := (c.vTint va o.long).or (c.vTint vb o.long)
  match f with
  | .cmpeq => compare
  | .cmplt => compare
  | .cmpltu => compare
  | .cmple => compare
  | .cmpleu => compare
  | .sel =>
    let lanes := bitsN / w
    let n := min c.vlen lanes
    let p := (c.rdP pg).v.toNat
    [vecFlight b vd o.long (laneBytes (w / 8) (2 ^ n - 1) lanes)
      (ofLanes w ((List.range lanes).map (fun i => if bitN p i then lane w a i else lane w bb i))) loT hiT]
  | .mov =>
    let lanes := bitsN / w
    let mask := c.laneMask pg lanes
    [vecFlight b vd o.long (laneBytes (w / 8) mask lanes) a ((c.rdLo va).t.or gov) ((c.rdHi va).t.or gov)]
  | .mulw => widen false false
  | .mulwu => widen true false
  | .macw => widen false true
  | .macwu => widen true true
  | .dot4b =>
    let d := c.rdV vd o.long
    accum 32 (fun i => (BitVec.ofInt 32 ((lane 32 d i : Nat) + dotVal 8 ewHi ewLo (lane 32 a i) (lane 32 bb i) 4)).toNat)
  | .dot4h =>
    let d := c.rdV vd o.long
    accum 64 (fun i => (BitVec.ofInt 64 ((lane 64 d i : Nat) + dotVal 16 ewHi ewLo (lane 64 a i) (lane 64 bb i) 4)).toNat)
  | .mmad =>
    let d := c.rdV vd o.long
    let bad := modBad q ewHi
    let res := if ewLo then
        elem 32 (fun i => if bad then 0 else mmadVal q qi ewHi true (lane 32 a i) (lane 32 bb i) 0)
      else accum 32 (fun i => if bad then 0 else mmadVal q qi ewHi false (lane 32 a i) (lane 32 bb i) (lane 32 d i))
    let k := (allT.or gov).k || (!ewLo && (c.vTint vd o.long).k)
    if bad && !k then res.map (fun r => { r with cond := 3 }) else res
  | .bfly =>
    let a1 := c.rdQ (va + 1)
    let bad := modBad q ewHi
    let mask := c.laneMask pg 4
    let en := BitVec.ofNat 16 (laneBytes 4 mask 4)
    let r i := if bad then (0, 0) else bflyLane q qi ewHi ewLo (lane 32 a i) (lane 32 a1 i) (lane 32 bb i)
    let x := ofLanes 32 ((List.range 4).map (fun i => (r i).1))
    let y := ofLanes 32 ((List.range 4).map (fun i => (r i).2))
    let tl := loT.or (c.rdLo (va + 1)).t
    let th := hiT.or (c.rdHi (va + 1)).t
    let hx := halves x tl th
    let hy := halves y tl th
    let k := tl.k || th.k
    [{ b with file := 6, num := vd, shape := 1, byteEn := en, v0 := hx.1, v1 := hx.2, v2 := hy.1, v3 := hy.2,
              cond := if bad && !k then 3 else 0 }]
  | .shuf => whole (shufVal a bb o.long) allT
  | .zipl => whole (zipVal w false a bb) allT
  | .ziph => whole (zipVal w true a bb) allT
  | .uzpe => whole (uzpVal w false a bb) allT
  | .uzpo => whole (uzpVal w true a bb) allT
  | .ext =>
    let off := o.ew.toNat * 4 + pg
    let t := if off = 0 then (c.rdLo va).t.or (c.rdHi va).t
      else if off = 8 then (c.rdHi va).t.or (c.rdLo vb).t
      else if off < 8 then ((c.rdLo va).t.or (c.rdHi va).t).or (c.rdLo vb).t
      else ((c.rdHi va).t.or (c.rdLo vb).t).or (c.rdHi vb).t
    whole (vextVal off a bb) t
  | .clmul =>
    let ha := if ewHi then c.rdHi va else c.rdLo va
    let hb := if ewLo then c.rdHi vb else c.rdLo vb
    whole (clmul ha.v.toNat hb.v.toNat) (ha.t.or hb.t)
  | f => elem w (fun i => laneVal f w (lane w a i) (lane w bb i))

/-- The latency of an operation's result (R155). -/
def opLat (op : Op) : Nat :=
  match op with
  | .div _ _ _ _ => 34
  | .ld _ _ _ => 3
  | .mul _ _ _ => 3
  | .mac _ _ _ _ _ => 3
  | .mfa _ _ _ _ _ => 3
  | .mta _ _ _ => 3
  | .accadd _ _ _ => 3
  | .mulw16 _ _ _ _ => 4
  | .mulw32 _ _ _ _ => 4
  | .macw _ _ _ _ => 4
  | .dot4b _ _ _ _ _ => 4
  | .dot4h _ _ _ _ => 4
  | .mmad _ _ _ _ _ => 4
  | .vop f _ => match f with
    | .clmul => 5
    | .mul => 4
    | .mulh => 4
    | .mulhu => 4
    | .mulw => 4
    | .mulwu => 4
    | .macw => 4
    | .macwu => 4
    | .dot4b => 4
    | .dot4h => 4
    | .mmad => 4
    | .bfly => 4
    | .shuf => 4
    | .zipl => 4
    | .ziph => 4
    | .uzpe => 4
    | .uzpo => 4
    | .ext => 4
    | _ => 2
  | .vshi _ _ => 2
  | .vdupg _ => 2
  | .vdeclass _ _ _ => 2
  | .vrclr _ _ _ => 2
  | .vctrData _ _ _ _ => 16
  | .vecb _ _ _ => 16
  | .vtag _ _ _ => 5
  | .vtagchk _ _ _ _ => 5
  | _ => 1

/-- The key of a slot as bytes, byte 0 from the low bits. -/
def KeySlot.keyBytes (k : KeySlot) : List Nat := (toLE 32 k.key.toNat).map BitVec.toNat

/-- The counter block {IV, CB_CTR} as a quadword: IV in bytes 0 to 11, the counter most significant byte first (R237). -/
def ctrBlock (iv : BitVec 96) (ctr : Word) : Nat :=
  iv.toNat + 2 ^ 96 * leNat (toBE 4 ctr.toNat)

/-- IVB ^ zext(PN, 96) in register byte order, byte 0 most significant in the number of SP 800-38D (R236).
[Marks: DEDUCED (log entry 63)] -/
def ivOf (ivb : BitVec 96) (pn : Nat) : BitVec 96 := ivb ^^^ BitVec.ofNat 96 (leNat (toBE 12 pn))

/-- A pair (file, number) is one of the a, o and m registers of MOVTA and MOVFA (R173). -/
def aomFile (n : Nat) : Nat × Nat := (n / 16 + 1, n % 16)

/-- The register of the a, o or m file that a 6-bit field names (R173). -/
def Core.rdAom (c : Core) (n : Nat) : TW :=
  if n < 16 then c.rdA n else if n < 32 then c.rdO (n - 16) else c.rdM (n - 32)

/-- The links of CALL and JR: the successor of the second delay slot (R187). -/
def Core.afterTwo (c : Core) (succ : Word) : Word := c.succAt (c.succAt succ)

/-- The results that an operation puts in flight: operands from `c`, key-slot state from `ck` (R157, R250). -/
def Core.opFlights (c ck : Core) (e : Env) (sl : Slot) (pc succ : Word) (op : Op) : List Flight :=
  let b := Flight.base (slotCode sl) pc (c.issueCyc + opLat op)
  let b1 := Flight.base (slotCode sl) pc (c.issueCyc + 1)
  let gres (d : R6) (v : Word) (t : Tint) : List Flight := [{ b with num := d.toNat, v0 := ⟨v.zeroExtend 64, t⟩ }]
  let accres (n : Nat) (i : Int) (t : Tint) : Flight :=
    let r := accOf i
    { b with file := 4, num := n, v0 := ⟨r.1.truncate 64, t⟩, v1 := ⟨(r.1 >>> 64).truncate 64, t⟩, accov := r.2 }
  let amodFl (m : MemOp) (size : Nat) : List Flight :=
    match c.amod m size with
    | some (some t) => [{ b1 with file := 1, num := m.ab.toNat, v0 := TD.ofW t }]
    | _ => []
  match op with
  | .alu f d a b' =>
    let x := c.rdG a.toNat
    let y := c.rdG b'.toNat
    gres d (aluVal f x.v y.v) (x.t.or y.t)
  | .sel d a b' =>
    let x := c.rdG a.toNat
    let y := c.rdG b'.toNat
    let z := c.rdG d.toNat
    gres d (if z.v != 0 then x.v else y.v) ((x.t.or y.t).or z.t)
  | .cmp f toP d a b' =>
    let x := c.rdG a.toNat
    let y := c.rdG b'.toNat
    let r := cmpVal f x.v y.v
    if toP then [{ b with file := 7, num := d.toNat, v0 := ⟨if r then 0xFFFF else 0, x.t.or y.t⟩ }]
    else gres d (if r then 1 else 0) (x.t.or y.t)
  | .ext m d a => gres d (extVal m (c.rdG a.toNat).v) (c.rdG a.toNat).t
  | .clz d a => gres d (clzVal (c.rdG a.toNat).v) (c.rdG a.toNat).t
  | .popc d a => gres d (popcVal (c.rdG a.toNat).v) (c.rdG a.toNat).t
  | .alui f d a imm => gres d (immVal f (c.rdG a.toNat).v imm) (c.rdG a.toNat).t
  | .shi f d a sh => gres d (shiftVal f (c.rdG a.toNat).v sh.toNat) (c.rdG a.toNat).t
  | .mfc d n =>
    let r := c.crRead e n.toNat
    gres d r.v r.t
  | .div f d a b' =>
    let x := c.rdG a.toNat
    let y := c.rdG b'.toNat
    let r := divVal f x.v y.v
    let k := x.t.k || y.t.k
    [{ b with num := d.toNat, v0 := ⟨r.1.zeroExtend 64, x.t.or y.t⟩, cond := if k then 0 else r.2 }]
  | .call _ => [{ b with num := 63, v0 := ⟨(c.afterTwo succ).zeroExtend 64, .clean⟩ }]
  | .jr _ l => [{ b with num := l.toNat, v0 := ⟨(c.afterTwo succ).zeroExtend 64, .clean⟩ }]
  | .declass d a =>
    let x := c.rdG a.toNat
    [{ b with num := d.toNat, v0 := ⟨x.v.zeroExtend 64, ⟨false, x.t.r⟩⟩, decl := 1 }]
  | .rclr d a =>
    let x := c.rdG a.toNat
    [{ b with num := d.toNat, v0 := ⟨x.v.zeroExtend 64, ⟨x.t.k, false⟩⟩, decl := 2 }]
  | .ld f rd m =>
    let ea := (c.ea m).toNat
    let am := amodFl m (ldSize f)
    if region ea = .dmem then
      let off := ea - dmemBase
      let w := c.dmem.word (off / 8 * 8)
      let dl := some (c.ea m)
      let r : Flight := match f with
        | .d => { b with file := 5, num := rd.toNat, byteEn := 0xFF, v0 := w, dload := dl }
        | .q => { b with file := 6, num := rd.toNat, v0 := w, v1 := c.dmem.word (off / 8 * 8 + 8), dload := dl }
        | f => { b with num := rd.toNat, v0 := ⟨(ldExtend f (c.dmem.val off (ldSize f))).zeroExtend 64, w.t⟩, dload := dl }
      r :: am
    else am
  | .st f _ m => amodFl m (stSize f)
  | .lea rd ab off => [{ b with file := 1, num := rd.toNat, v0 := ⟨((c.rdA ab.toNat).v + off).zeroExtend 64, (c.rdA ab.toNat).t⟩ }]
  | .amod m => amodFl m 1
  | .movta d a =>
    let fn := aomFile d.toNat
    [{ b with file := fn.1, num := fn.2, v0 := TD.ofW (c.rdG a.toNat) }]
  | .movfa d a =>
    let x := c.rdAom a.toNat
    gres d x.v x.t
  | .mul d a b' =>
    let x := c.rdG a.toNat
    let y := c.rdG b'.toNat
    gres d (x.v * y.v) (x.t.or y.t)
  | .mac f acc a b' md =>
    let x := c.rdG a.toNat
    let y := c.rdG b'.toNat
    let z := c.rdAcc acc.toNat
    let t := (x.t.or y.t).or z.t
    let pr := prod16 md.toNat x.v y.v
    match f with
    | .mac => [accres acc.toNat (accInt z.v + pr) t]
    | .msu => [accres acc.toNat (accInt z.v - pr) t]
    | .macm => [accres acc.toNat (accInt z.v + pr) t, { b1 with num := a.toNat + 1, v0 := ⟨x.v.zeroExtend 64, t⟩ }]
  | .mfa d acc rnd sat sh =>
    let z := c.rdAcc acc.toNat
    let r := mfaVal z.v rnd sat sh.toNat
    [{ b with num := d.toNat, v0 := ⟨r.1.zeroExtend 64, z.t⟩, satf := r.2 }]
  | .mta acc a field =>
    let x := c.rdG a.toNat
    if field = 0 then [{ accres acc.toNat x.v.toInt x.t with accov := false }]
    else [{ b with file := 4, num := acc.toNat, shape := 2, field := field.toNat, v0 := ⟨x.v.zeroExtend 64, x.t⟩ }]
  | .accadd acc src neg =>
    let x := c.rdAcc acc.toNat
    let y := c.rdAcc src.toNat
    [accres acc.toNat (if neg then accInt x.v - accInt y.v else accInt x.v + accInt y.v) (x.t.or y.t)]
  | .mulw16 uns d a b' =>
    let x := c.rdG a.toNat
    let y := c.rdG b'.toNat
    gres d (BitVec.ofInt 32 (fieldInt 16 uns x.v.toNat * fieldInt 16 uns y.v.toNat)) (x.t.or y.t)
  | .mulw32 uns d a b' =>
    let x := c.rdG a.toNat
    let y := c.rdG b'.toNat
    let r := (BitVec.ofInt 64 (fieldInt 32 uns x.v.toNat * fieldInt 32 uns y.v.toNat)).toNat
    let t := x.t.or y.t
    [{ b with num := d.toNat, shape := 1, v0 := ⟨BitVec.ofNat 64 (r % 2 ^ 32), t⟩, v1 := ⟨BitVec.ofNat 64 (r / 2 ^ 32), t⟩ }]
  | .macw uns acc a b' =>
    let x := c.rdG a.toNat
    let y := c.rdG b'.toNat
    let z := c.rdAcc acc.toNat
    [accres acc.toNat (accInt z.v + fieldInt 32 uns x.v.toNat * fieldInt 32 uns y.v.toNat) ((x.t.or y.t).or z.t)]
  | .dot4b ua ub d a b' =>
    let x := c.rdG a.toNat
    let y := c.rdG b'.toNat
    let z := c.rdG d.toNat
    gres d (BitVec.ofInt 32 ((z.v.toNat : Int) + dotVal 8 ua ub x.v.toNat y.v.toNat 4)) ((x.t.or y.t).or z.t)
  | .dot4h uns acc a b' =>
    let pair (n : R6) : Nat := (c.rdG n.toNat).v.toNat + 2 ^ 32 * (c.rdG (n.toNat + 1)).v.toNat
    let pt (n : R6) : Tint := (c.rdG n.toNat).t.or (c.rdG (n.toNat + 1)).t
    let z := c.rdAcc acc.toNat
    [accres acc.toNat (accInt z.v + dotVal 16 uns uns (pair a) (pair b') 4) (((pt a).or (pt b')).or z.t)]
  | .mmad mont noadd d a b' =>
    let x := c.rdG a.toNat
    let y := c.rdG b'.toNat
    let z := c.rdG d.toNat
    let t := (x.t.or y.t).or (if noadd then .clean else z.t)
    let q := (c.rdCr 9).v.toNat
    let bad := modBad q mont
    let v := if bad then 0 else mmadVal q (c.rdCr 10).v.toNat mont noadd x.v.toNat y.v.toNat z.v.toNat
    [{ b with num := d.toNat, v0 := ⟨BitVec.ofNat 64 v, t⟩, cond := if bad && !t.k then 3 else 0 }]
  | .vop f o => c.vopFlights f o b
  | .vshi f o =>
    let w := 8 * 2 ^ o.ew.toNat
    let lanes := (if o.long then 128 else 64) / w
    let a := c.rdV o.va.toNat o.long
    let mask := c.laneMask 0 lanes
    let gov := c.govTint 0
    [vecFlight b o.vd.toNat o.long (laneBytes (w / 8) mask lanes)
      (ofLanes w ((List.range lanes).map (fun i => (shiftVal f (BitVec.ofNat w (lane w a i)) o.sh.toNat).toNat)))
      ((c.rdLo o.va.toNat).t.or gov) ((c.rdHi o.va.toNat).t.or gov)]
  | .vdupg o =>
    let w := 8 * 2 ^ o.ew.toNat
    let lanes := (if o.long then 128 else 64) / w
    let x := c.rdG o.gs.toNat
    let mask := c.laneMask o.pg.toNat lanes
    let t := x.t.or (c.govTint o.pg.toNat)
    [vecFlight b o.vd.toNat o.long (laneBytes (w / 8) mask lanes)
      (ofLanes w ((List.range lanes).map (fun _ => x.v.toNat))) t t]
  | .vctrData vd va vm ks =>
    let k := ck.slot ks.toNat
    let ksm := aesQuad k.keyBytes (ctrBlock k.iv k.ctr)
    let v := (c.rdQ va.toNat ^^^ ksm) &&& c.rdQ vm.toNat
    [vecFlight b vd.toNat true 0xFFFF v ⟨(c.rdLo va.toNat).t.k, k.dir⟩ ⟨(c.rdHi va.toNat).t.k, k.dir⟩]
  | .vecb vd va ks =>
    let k := ck.slot ks.toNat
    let t : Tint := ⟨true, (c.vTint va.toNat true).r⟩
    [vecFlight b vd.toNat true 0xFFFF (aesQuad k.keyBytes (c.rdQ va.toNat)) t t]
  | .vtag vd va ks =>
    let k := ck.slot ks.toNat
    let v := ghashMul (k.acc.toNat ^^^ c.rdQ va.toNat) k.h.toNat ^^^ k.tmask.toNat
    let t : Tint := ⟨false, k.accR || (c.vTint va.toNat true).r⟩
    [vecFlight b vd.toNat true 0xFFFF v t t]
  | .vtagchk pd va vb ks =>
    let k := ck.slot ks.toNat
    let v := ghashMul (k.acc.toNat ^^^ c.rdQ va.toNat) k.h.toNat ^^^ k.tmask.toNat
    let t : Tint := ⟨false, (k.accR || (c.vTint va.toNat true).r) || (c.vTint vb.toNat true).r⟩
    [{ b with file := 7, num := pd.toNat, v0 := ⟨if v = c.rdQ vb.toNat then 0xFFFF else 0, t⟩ }]
  | .vdeclass vd va long =>
    [{ vecFlight b vd.toNat long 0xFFFF (c.rdQ va.toNat) ⟨false, (c.rdLo va.toNat).t.r⟩ ⟨false, (c.rdHi va.toNat).t.r⟩
       with decl := 1 }]
  | .vrclr vd va long =>
    [{ vecFlight b vd.toNat long 0xFFFF (c.rdQ va.toNat) ⟨(c.rdLo va.toNat).t.k, false⟩ ⟨(c.rdHi va.toNat).t.k, false⟩
       with decl := 2 }]
  | _ => []

/-- Append a far access. -/
def Core.pushFar (c : Core) (f : Far) : Core := { c with far := c.far ++ [f] }

/-- The CMEM bank of a core address (R349). -/
def cmemBank (ea : Nat) : Nat := (ea - 0x1000000) / 32 % 32

/-- A far access of the core as issued now: locked when a sequence is active and it goes to CMEM (R358).
[Marks: DESIGN CHOICE (log entry 20)] -/
def Core.newFar (c : Core) (e : Env) (addr : Word) (size : Nat) (wr : Bool) (dst : FarDst) (lo hi : TD)
    (pc : Word) (slot : Nat) (elem : Bool) : Far :=
  { addr := addr, size := size, wr := wr, dst := dst, lo := lo, hi := hi, pl := c.pl, pc := pc, slot := slot,
    at_ := e.now, locked := c.lock.active && region addr.toNat == .cmem, granted := none, perf := false, elem := elem }

/-- Count a locked beat (R358). -/
def Core.addBeat (c : Core) (f : Far) : Core :=
  if f.locked then { c with lock := { c.lock with beats := c.lock.beats + 1 } } else c

/-- The bytes and tints that a store form takes from its register (R171, R267). -/
def Core.storeData (c : Core) (f : StF) (rd : Nat) : TD × TD :=
  match f with
  | .d => (c.rdLo rd, td0)
  | .q => (c.rdLo rd, c.rdHi rd)
  | _ => (TD.ofW (c.rdG rd), td0)

/-- A store into DMEM (R160, R267). -/
def Core.dmemStore (c : Core) (ea : Word) (size : Nat) (lo hi : TD) : Core :=
  let off := ea.toNat - dmemBase
  if size = 16 then
    { c with dmem := (c.dmem.store off (toLE 8 lo.v.toNat) lo.t).store (off + 8) (toLE 8 hi.v.toNat) hi.t }
  else
    { c with dmem := c.dmem.store off (toLE size lo.v.toNat) lo.t }

/-- The level that a control transfer sets a loop register write on: record the change (R204). -/
def Core.loopTouch (c : Core) (n : Nat) (fresh : Nat) : Core :=
  { c with loopChg := c.loopChg.set 0 n (c.issueCyc + 1), loopFresh := c.loopFresh.set 0 n fresh }

/-- LOOP and LOOPI at level `n` (R202). -/
def Core.setLoop (c : Core) (n : Nat) (cnt : TW) (start stop : Word) : Core :=
  let lc := c.lc.set tw0 n cnt
  let lc := (Sys2Proof.range (n + 1) (2 - n)).foldl (fun (m : SMap TW) i => m.set tw0 i tw0) lc
  { c with lc := lc, ls := c.ls.set tw0 n ⟨start, .clean⟩, le := c.le.set tw0 n ⟨stop, .clean⟩ }

/-- Begin a VLDS or VSTS: its operands are read once, in the issue cycle (R223). -/
def Core.startRun (c0 c : Core) (pc succ : Word) (o : VM) (store : Bool) : Core :=
  let lanes := (if o.long then 128 else 64) / (8 * 2 ^ o.ew.toNat)
  { c with vrun := some {
      o := o, store := store, base := (c0.rdA o.ab.toNat).v, stride := (c0.rdO o.os.toNat).v,
      sel := BitVec.ofNat 16 (c0.laneMask o.pg.toNat lanes), lanes := lanes,
      src0 := c0.rdLo o.vr.toNat, src1 := c0.rdHi o.vr.toNat, pc := pc, pl := c0.pl, next := c0.velem,
      made := false, others := [], last := 0, succ := succ } }

/-- The effects of an operation other than its results in flight: `c0` is the core before the bundle, `c` the core as the
bundle's earlier slots leave it. -/
def Core.opEffect (c0 c : Core) (e : Env) (sl : Slot) (pc succ : Word) (op : Op) : Core :=
  match op with
  | .mfc _ n => c.crCapture e n.toNat
  | .mtc n a => c.crWrite n.toNat (c0.rdG a.toNat)
  | .div _ _ _ _ => { c with divFree := c0.issueCyc + 34 }
  | .loop lv src disp =>
    let s := c0.rdG src.toNat
    (c.setLoop lv.toNat ⟨s.v &&& 0xFFFFFF, s.t⟩ (c0.afterTwo succ) (pc + disp.zeroExtend 32 * 4)).loopTouch lv.toNat 1
  | .loopi lv cnt disp =>
    (c.setLoop lv.toNat ⟨cnt.zeroExtend 32, .clean⟩ (c0.afterTwo succ) (pc + disp.zeroExtend 32 * 4)).loopTouch lv.toNat 1
  | .lclr mask =>
    (Sys2Proof.range 0 3).foldl (fun (c : Core) n =>
      if bitN mask.toNat n then ({ c with lc := c.lc.set tw0 n tw0 } : Core).loopTouch n 0 else c) c
  | .pflush => { c with flushAt := some (c0.issueCyc + 1) }
  | .pbar on => c.wrCr0 6 (if on then 1 else 0)
  | .syscall code => { c with callPend := some (8, code.toNat, 0) }
  | .kcall region gate =>
    let w := (c0.krgn.get 0 (4 * b2n c0.slotB + region.toNat)).toNat
    let base := b2n c0.slotB * 0x10000 + 64 * (bits w 30 21 + gate.toNat)
    { c with callPend := some (9, region.toNat * 256 + gate.toNat, BitVec.ofNat 32 base) }
  | .sleep depth =>
    let light := e.inService || c0.flight.any (fun f => f.live && decide (c0.issueCyc < f.commit)) || !c0.far.isEmpty
      || !c0.kloads.isEmpty || !c0.kexp.isEmpty
    let d := if depth.toNat = 1 && !light then 2 else 1
    { c.wrCr0 11 (BitVec.ofNat 32 (d * 2 ^ 24)) with sleep := some ⟨d, e.now + 1⟩ }
  | .ld f rd m =>
    let ea := c0.ea m
    if region ea.toNat = .dmem then c
    else
      let dst := match f with
        | .d => FarDst.dq rd.toNat false
        | .q => FarDst.dq rd.toNat true
        | f => FarDst.g rd.toNat f
      let fa := c0.newFar e ea (ldSize f) false dst td0 td0 pc (slotCode sl) false
      (c.pushFar fa).addBeat fa
  | .st f rd m =>
    let ea := c0.ea m
    let d := c0.storeData f rd.toNat
    if region ea.toNat = .dmem then c.dmemStore ea (stSize f) d.1 d.2
    else
      let fa := c0.newFar e ea (stSize f) true .none d.1 d.2 pc (slotCode sl) false
      (c.pushFar fa).addBeat fa
  | .kload ks gs =>
    let k := c.slot ks.toNat
    let i := (c0.rdG gs.toNat).v.toNat
    { c.setSlot ks.toNat { k with st := 1, idx := i } with
      kloads := c.kloads ++ [⟨ks.toNat, i, c0.pl == 2, e.now⟩] }
  | .kzero ks => c.setSlot ks.toNat KeySlot.empty
  | .kexport qa gh =>
    let v := c0.rdQ qa.toNat + 2 ^ 128 * c0.rdQ (qa.toNat + 1)
    { c with kexp := c.kexp ++ [⟨BitVec.ofNat 256 v, (c0.rdG gh.toNat).v, e.now⟩] }
  | .vctrInit va ks src fsel =>
    let k := c.slot ks.toNat
    let desc := nth none (c.popped.map some) fsel.toNat
    let pn := match desc with
      | some d => d.w2.toNat + 2 ^ 32 * d.w3.toNat
      | none => 0
    let iv := if src then BitVec.ofNat 96 (c0.rdQ va.toNat) else ivOf k.ivb pn
    let popped := if src then c.popped else
      match desc with
      | some d => setNth c.popped fsel.toNat { d with initDone := true }
      | none => c.popped
    { c.setSlot ks.toNat { k with
        iv := iv, tmask := BitVec.ofNat 128 (aesQuad k.keyBytes (ctrBlock iv 1)), ctr := 2, acc := 0, accR := false, st := 3,
        initAt := e.now + 1, busy := max k.busy (e.now + 16) } with
      popped := popped, vctrFree := c0.issueCyc + 2 }
  | .vctrData _ _ _ ks =>
    let k := c.slot ks.toNat
    { c.setSlot ks.toNat { k with ctr := k.ctr + 1, busy := max k.busy (e.now + 16) } with vctrFree := c0.issueCyc + 2 }
  | .vecb _ _ ks =>
    let k := c.slot ks.toNat
    { c.setSlot ks.toNat { k with busy := max k.busy (e.now + 16) } with vctrFree := c0.issueCyc + 2 }
  | .vghash va ks =>
    let k := c.slot ks.toNat
    c.setSlot ks.toNat { k with
      acc := BitVec.ofNat 128 (ghashMul (k.acc.toNat ^^^ c0.rdQ va.toNat) k.h.toNat),
      accR := k.accR || (c0.vTint va.toNat true).r, busy := max k.busy (e.now + 5) }
  | .vtag _ _ ks =>
    let k := c.slot ks.toNat
    c.setSlot ks.toNat { k with st := 2, busy := max k.busy (e.now + 5) }
  | .vtagchk _ _ _ ks =>
    let k := c.slot ks.toNat
    c.setSlot ks.toNat { k with st := 2, busy := max k.busy (e.now + 5) }
  | .vlds o => c0.startRun c pc succ o false
  | .vsts o => c0.startRun c pc succ o true
  | _ => c
/-- The g and q registers that an operation reads, as (file, number) (R161). -/
def opReads (op : Op) : List (Nat × Nat) :=
  let g (n : R6) : Nat × Nat := (0, n.toNat)
  let q (n : R5) : Nat × Nat := (6, n.toNat)
  match op with
  | .alu _ _ a b => [g a, g b]
  | .sel d a b => [g d, g a, g b]
  | .cmp _ _ _ a b => [g a, g b]
  | .ext _ _ a => [g a]
  | .clz _ a => [g a]
  | .popc _ a => [g a]
  | .alui _ _ a _ => [g a]
  | .shi _ _ a _ => [g a]
  | .mtc _ a => [g a]
  | .div _ _ a b => [g a, g b]
  | .bc f _ _ src _ => match f with
    | .bpa => []
    | .bpn => []
    | _ => [g src]
  | .jr src _ => [g src]
  | .loop _ src _ => [g src]
  | .declass _ a => [g a]
  | .rclr _ a => [g a]
  | .st f rd _ => match f with
    | .d => [(6, rd.toNat)]
    | .q => [(6, rd.toNat)]
    | _ => [g rd]
  | .movta _ a => [g a]
  | .vsts o => [q o.vr]
  | .kload _ gs => [g gs]
  | .kexport qa gh => [q qa, (6, qa.toNat + 1), g gh]
  | .mul _ a b => [g a, g b]
  | .mac _ _ a b _ => [g a, g b]
  | .mta _ a _ => [g a]
  | .mulw16 _ _ a b => [g a, g b]
  | .mulw32 _ _ a b => [g a, g b]
  | .macw _ _ a b => [g a, g b]
  | .dot4b _ _ d a b => [g d, g a, g b]
  | .dot4h _ _ a b => [g a, (0, a.toNat + 1), g b, (0, b.toNat + 1)]
  | .mmad _ noadd d a b => if noadd then [g a, g b] else [g d, g a, g b]
  | .vop f o => match f with
    | .mov => [q o.va]
    | .bfly => [q o.va, (6, o.va.toNat + 1), q o.vb]
    | .macw => [q o.vd, q o.va, q o.vb]
    | .macwu => [q o.vd, q o.va, q o.vb]
    | .dot4b => [q o.vd, q o.va, q o.vb]
    | .dot4h => [q o.vd, q o.va, q o.vb]
    | .mmad => [q o.vd, q o.va, q o.vb]
    | _ => [q o.va, q o.vb]
  | .vshi _ o => [q o.va]
  | .vdupg o => [g o.gs]
  | .vctrInit va _ src _ => if src then [q va] else []
  | .vctrData _ va vm _ => [q va, q vm]
  | .vecb _ va _ => [q va]
  | .vghash va _ => [q va]
  | .vtag _ va _ => [q va]
  | .vtagchk _ va vb _ => [q va, q vb]
  | .vdeclass _ va _ => [q va]
  | .vrclr _ va _ => [q va]
  | _ => []

/-- The register that a far load writes, as (file, number). -/
def farReg (d : FarDst) : List (Nat × Nat) :=
  match d with
  | .none => []
  | .g n _ => [(0, n)]
  | .dq n _ => [(6, n)]
  | .lane n _ _ => [(6, n)]

/-- The registers that an operation writes by a far access or a resumable load. -/
def Core.farWrites (c : Core) (op : Op) : List (Nat × Nat) :=
  match op with
  | .ld f rd m =>
    if region (c.ea m).toNat = .dmem then []
    else match f with
      | .d => [(6, rd.toNat)]
      | .q => [(6, rd.toNat)]
      | _ => [(0, rd.toNat)]
  | .vlds o => [(6, o.vr.toNat)]
  | _ => []

/-- Registers whose interlocked result has not arrived (R161); g0 is never one. -/
def Core.interlocked (c : Core) : List (Nat × Nat) :=
  (c.far.flatMap (fun f => farReg f.dst)).filter (fun r => r != (0, 0))

/-- The key slot that a cipher operation names (R243). -/
def opSlot (op : Op) : Option Nat :=
  match op with
  | .vctrInit _ ks _ _ => some ks.toNat
  | .vctrData _ _ _ ks => some ks.toNat
  | .vecb _ _ ks => some ks.toNat
  | .vghash _ ks => some ks.toNat
  | .vtag _ _ ks => some ks.toNat
  | .vtagchk _ _ _ ks => some ks.toNat
  | _ => none

/-- The far entries that an operation takes (R162). -/
def Core.farCount (c : Core) (op : Op) : Nat :=
  match op with
  | .ld _ _ m => if region (c.ea m).toNat = .dmem then 0 else 1
  | .st _ _ m => if region (c.ea m).toNat = .dmem then 0 else 1
  | .kload _ _ => 1
  | .kzero _ => 1
  | .kexport _ _ => 1
  | _ => 0

/-- The operation holds its bundle back in this CCLK (R142). -/
def Core.opStalls (c : Core) (e : Env) (op : Op) : Bool :=
  match op with
  | .kload ks _ =>
    let k := c.slot ks.toNat
    decide (2 ≤ c.kloads.length) || k.st == 1 || decide (e.now < k.busy)
  | .kzero ks =>
    let k := c.slot ks.toNat
    k.st == 1 || decide (e.now < k.busy)
  | .mfc _ n => n == 37 && !c.kexp.isEmpty
  | .vtag _ _ ks =>
    let k := c.slot ks.toNat
    k.st == 1 || decide (k.initAt ≠ 0 ∧ e.now + 1 < k.initAt + 11)
  | .vtagchk _ _ _ ks =>
    let k := c.slot ks.toNat
    k.st == 1 || decide (k.initAt ≠ 0 ∧ e.now + 1 < k.initAt + 11)
  | .retx => !c.far.isEmpty || !c.kloads.isEmpty || !c.kexp.isEmpty
      || c.flight.any (fun f => f.live && decide (c.issueCyc < f.commit))
  | op => match opSlot op with
    | some k => (c.slot k).st == 1
    | none => false

/-- The operation is refused at the core's level (R152, R199, R238, R244, R271, R289, R293 to R295, R475). -/
def Core.opPrivileged (c : Core) (e : Env) (op : Op) : Bool :=
  let pl := c.pl
  match op with
  | .mfc _ n => pl == 0 && !crReadUser n.toNat
  | .mtc n a =>
    let v := (c.rdG a.toNat).v.toNat
    (pl == 0 && !crWriteUser n.toNat && !crRO n.toNat)
      || (n == 0 && (decide (pl < v % 4) || v % 4 == 3))
      || (n == 3 && pl == 2)
  | .pflush => pl == 0
  | .pbar _ => pl == 0
  | .syscall _ => pl == 2
  | .kcall region gate =>
    let w := (c.krgn.get 0 (4 * b2n c.slotB + region.toNat)).toNat
    pl != 1 || !bitN w 31 || decide (bits w 10 5 ≤ gate.toNat)
  | .retx => pl == 0
  | .declass _ _ => pl != 2
  | .vdeclass _ _ _ => pl != 2
  | .rclr _ _ => pl == 0 || !c.rclrEff e
  | .vrclr _ _ _ => pl == 0 || !c.rclrEff e
  | .sleep _ => pl != 1
  | .kexport _ _ => pl != 2
  | .vctrInit _ _ src _ => src && pl != 2
  | _ => false

/-- K in either half of a q register. [Marks: DEDUCED (log entry 16)] -/
def Core.qK (c : Core) (n : Nat) : Bool := (c.rdLo n).t.k || (c.rdHi n).t.k

/-- The register windows of trigger 7 (R274). -/
def isWindow (r : Region) : Bool := r == .clreg || r == .cctl || r == .devw

/-- The TintFault trigger of an operation, 0 for none (R274). -/
def Core.opTintTrig (c : Core) (op : Op) : Nat :=
  let gk (n : R6) : Bool := (c.rdG n.toNat).t.k
  let trig (b : Bool) (n : Nat) : Nat := if b then n else 0
  match op with
  | .bc f _ _ src _ => match f with
    | .bpa => trig (c.rdP src.toNat).t.k 1
    | .bpn => trig (c.rdP src.toNat).t.k 1
    | _ => trig (gk src) 1
  | .jr src _ => trig (gk src) 1
  | .loop _ src _ => trig (gk src) 2
  | .movta _ a => trig (gk a) 3
  | .mtc _ a => trig (gk a) 4
  | .kload _ gs => trig (gk gs) 5
  | .kexport _ gh => trig (gk gh) 5
  | .vctrData _ _ vm _ => trig (c.qK vm.toNat) 6
  | .vctrInit va _ src _ => trig (src && c.qK va.toNat) 6
  | .vghash va _ => trig (c.qK va.toNat) 6
  | .vtag _ va _ => trig (c.qK va.toNat) 6
  | .vtagchk _ va vb _ => trig (c.qK va.toNat || c.qK vb.toNat) 6
  | .st f rd m =>
    let d := c.storeData f rd.toNat
    let k := d.1.t.k || d.2.t.k
    let r := d.1.t.r || d.2.t.r
    let reg := region (c.ea m).toNat
    trig ((isWindow reg && k) || (reg == .imem && (k || r))) 7
  | .vsts o =>
    let w := 8 * 2 ^ o.ew.toNat
    let lanes := (if o.long then 128 else 64) / w
    let mask := c.laneMask o.pg.toNat lanes
    trig ((Sys2Proof.range 0 lanes).any (fun i =>
      let t := if w * i < 64 then (c.rdLo o.vr.toNat).t else (c.rdHi o.vr.toNat).t
      let reg := region ((c.rdA o.ab.toNat).v + BitVec.ofNat 32 i * (c.rdO o.os.toNat).v).toNat
      decide (c.velem ≤ i) && bitN mask i && ((isWindow reg && t.k) || (reg == .imem && (t.k || t.r))))) 7
  | _ => 0

/-- A precise exception of an operation: cause, SUB and FADDR, where the cause has one. -/
structure Exc where
  cause : Nat
  sub : Nat
  faddr : Option Word
  deriving DecidableEq, Repr

/-- The check of a memory access: misaligned, then access, then the update's conditions (R172). -/
def Core.memCheck (c : Core) (m : MemOp) (size : Nat) (wr : Bool) : Option Exc :=
  let ea := c.ea m
  if ea.toNat % size ≠ 0 then some ⟨5, 0, some ea⟩
  else if !c.mayAccess c.pl ea.toNat size wr then some ⟨6, 0, some ea⟩
  else match c.amod m size with
    | some none => some ⟨6, 0, some ea⟩
    | _ => none

/-- The lock-order check of a CMEM access (R309, R358). -/
def Core.lockCheck (c : Core) (ea : Word) : Option Exc :=
  let l := c.lock
  if l.timedOut && region ea.toNat == .cmem then some ⟨10, 2 ^ 15 + l.high * 2 ^ 8 + cmemBank ea.toNat, some ea⟩
  else if l.active && region ea.toNat == .cmem then
    let b := cmemBank ea.toNat
    let planned := l.held ++ (c.far.filter (fun f => f.locked)).map (fun f => cmemBank f.addr.toNat)
    let hi := planned.foldl max 0
    if 32 ≤ l.beats then some ⟨10, 2 ^ 15 + hi * 2 ^ 8 + b, some ea⟩
    else if !planned.isEmpty && !planned.contains b && decide (b ≤ hi) then some ⟨10, hi * 2 ^ 8 + b, some ea⟩
    else none
  else none

/-- The first check that fails, in order. -/
def orElseExc (a b : Option Exc) : Option Exc :=
  match a with
  | some x => some x
  | none => b

/-- A key slot fault of a cipher operation: its KIND, 0 for none (R244 to R249, R252). -/
def Core.ksfKind (c : Core) (op : Op) : Nat :=
  match op with
  | .kload _ gs => if 1024 ≤ (c.rdG gs.toNat).v.toNat then 6 else 0
  | .vctrInit _ ks src fsel =>
    let k := c.slot ks.toNat
    if k.st = 0 then 1
    else if src then 0
    else match nth none (c.popped.map some) fsel.toNat with
      | none => 3
      | some d =>
        if bits d.w1.toNat 19 10 ≠ k.idx ∨ bitN d.w1.toNat 1 ≠ k.dir then 3
        else if !k.dir && d.initDone then 4 else 0
  | .vctrData _ _ _ ks =>
    let k := c.slot ks.toNat
    if k.st = 0 then 1 else if k.st ≠ 3 then 2 else if k.ctr = 0 then 5 else 0
  | .vecb _ _ ks => if (c.slot ks.toNat).st = 0 then 1 else 0
  | .vghash _ ks =>
    let k := c.slot ks.toNat
    if k.st = 0 then 1 else if k.st ≠ 3 then 2 else 0
  | .vtag _ _ ks =>
    let k := c.slot ks.toNat
    if k.st = 0 then 1 else if k.st ≠ 3 then 2 else 0
  | .vtagchk _ _ _ ks =>
    let k := c.slot ks.toNat
    if k.st = 0 then 1 else if k.st ≠ 3 then 2 else 0
  | _ => 0

/-- The slot number that KSF_INFO records (R256). -/
def ksfSlot (op : Op) : Nat :=
  match op with
  | .kload ks _ => ks.toNat
  | op => (opSlot op).getD 0

/-- The KSF_INFO word of a key slot fault (R252, R256). -/
def Core.ksfInfo (c : Core) (op : Op) : Word :=
  let s := ksfSlot op
  let k := c.slot s
  BitVec.ofNat 32 ((if k.st = 0 then k.loaderr else 0) * 2 ^ 16 + c.ksfKind op * 2 ^ 8 + s)

/-- The precise exception of an operation after the Tint checks: misaligned, access, lock order, key slot and, with
STATUS.PRECISE, arithmetic (R172, R185, R252, R275, R309). -/
def Core.opExc (c ck : Core) (e : Env) (sl : Slot) (pc succ : Word) (op : Op) : Option Exc :=
  let arith : Option Exc :=
    if c.precise && (c.opFlights ck e sl pc succ op).any (fun f => f.cond != 0 && bitN (c.rdCr 19).v.toNat (7 + f.cond)) then
      some ⟨7, 0, none⟩
    else none
  match op with
  | .ld f _ m => orElseExc (c.memCheck m (ldSize f) false) (ck.lockCheck (c.ea m))
  | .st f _ m => orElseExc (c.memCheck m (stSize f) true) (ck.lockCheck (c.ea m))
  | .amod m => match c.amod m 1 with
    | some none => some ⟨6, 0, some (c.ea m)⟩
    | _ => none
  | op => if ck.ksfKind op ≠ 0 then some ⟨12, 0, none⟩ else arith

end Sys2Proof.Machine
end

