-- ==== Sys2Proof/Machine/Except.lean ====
section
/-! DEFINITION. Commit points, boundaries, taking an exception or interrupt, and returning from one (R157 to R164, R185,
R288 to R314). -/

namespace Sys2Proof.Machine

/-- Bring the block to a CCLK that a command needs, if it is not there yet. [Marks: DESIGN CHOICE (log entry 2)] -/
def State.upTo (s : State) (t : Nat) : State := { s with now := max s.now t }

/-! Results that commit (R157) -/

/-- Insert a result in order of commit point and then slot. -/
def insFlight (f : Flight) : List Flight → List Flight
  | [] => [f]
  | x :: xs =>
    if x.commit < f.commit ∨ (x.commit = f.commit ∧ x.slot ≤ f.slot) then x :: insFlight f xs else f :: x :: xs

/-- Put results in flight. -/
def Core.addFlights (c : Core) (l : List Flight) : Core := { c with flight := l.foldl (fun a f => insFlight f a) c.flight }

/-- One result enters its register, with its flags, its count and, where its condition is enabled, the imprecise
arithmetic exception (R157, R181, R184, R185, R271). [Marks: DEDUCED (log entry 14)] -/
def Core.commitFlight (c : Core) (f : Flight) : Core :=
  if !f.live then c
  else
    let raise := decide (f.cond ≠ 0) && !c.precise && c.arithEnabled f.cond f.commit
    let c := f.setFlags (f.apply c)
    let c := { c with declCnt := c.declCnt + BitVec.ofNat 64 (if f.decl = 1 then 1 else 0),
                      rclrCnt := c.rclrCnt + BitVec.ofNat 64 (if f.decl = 2 then 1 else 0) }
    if raise && c.imp7.isNone then { c.arithSource f.pc f.slot with imp7 := some (f.pc, f.slot) } else c

/-- Every result whose commit point is not after the next issue cycle. [Marks: DEDUCED (log entry 9)] -/
def Core.settle (c : Core) : Core :=
  (c.flight.filter (fun f => decide (f.commit ≤ c.issueCyc))).foldl Core.commitFlight
    { c with flight := c.flight.filter (fun f => decide (c.issueCyc < f.commit)) }

/-- Store a core, adding to DECL_COUNT_g and RCLR_COUNT_g what its own counters have gained (R271). -/
def State.putCore (s : State) (g : Nat) (c : Core) : State :=
  let old := s.core g
  let d := (c.declCnt - old.declCnt).toNat
  let r := (c.rclrCnt - old.rclrCnt).toNat
  let s := if d = 0 then s else s.add64 (TINT_CORE g 0) d
  let s := if r = 0 then s else s.add64 (TINT_CORE g 1) r
  s.setCore g c

/-! Memory words (R301) -/

/-- Write 64-bit words with their tints into DMEM from an offset. -/
def Mem.putWords (m : Mem) (off : Nat) : List TD → Mem
  | [] => m
  | w :: ws => Mem.putWords (m.store off (toLE 8 w.v.toNat) w.t) (off + 8) ws

/-- An untinted word. -/
def plain (n : Nat) : TD := ⟨BitVec.ofNat 64 n, .clean⟩

/-- TSBP passes R301. -/
def Core.tsbOk (c : Core) : Bool :=
  let t := (c.rdCr 3).v.toNat
  decide (t % 2048 = 0) && region t == .dmem && c.ownsBank (dmemBank t) && !bitN (c.rdCr 43).v.toNat (dmemBank t)

/-- The nine loop registers in the order of R301. -/
def Core.loopWords (c : Core) : List TD :=
  (Sys2Proof.range 0 3).map (fun n => TD.ofW (c.lc.get tw0 n)) ++ (Sys2Proof.range 0 3).map (fun n => TD.ofW (c.ls.get tw0 n))
    ++ (Sys2Proof.range 0 3).map (fun n => TD.ofW (c.le.get tw0 n))

/-- The BYTE_EN of a pending entry. -/
def Flight.tsbEn (f : Flight) : Nat :=
  if f.file = 5 then f.byteEn.toNat % 256 else if f.file = 6 then f.byteEn.toNat else 0xFFFF

/-- The six words of a pending entry with REMAIN `r` (R302). -/
def Flight.words (f : Flight) (r : Nat) : List TD :=
  [plain (f.tsbEn * 2 ^ 32 + f.field % 4 * 2 ^ 26 + f.shape % 4 * 2 ^ 24 + f.num % 64 * 2 ^ 16 + f.file % 16 * 2 ^ 12
      + f.cond % 4 * 2 ^ 8 + r % 64),
    plain (if f.cond = 0 then 0 else f.slot % 16 * 2 ^ 32 + f.pc.toNat), f.v0, f.v1, f.v2, f.v3]

/-- A mask with a bit for each number of a list. -/
def maskOf (l : List Nat) : Nat := (Sys2Proof.range 0 10).foldl (fun m i => if l.contains i then m + 2 ^ i else m) 0

/-! Entry (R303 to R309) -/

/-- What is accepted at a boundary: the fields that CAUSE and AEPC take, the data address, a KCALL gate. -/
structure Accept where
  int : Bool
  code : Nat
  sub : Nat
  faddr : Option Word
  aepc : Word
  gate : Option Word
  deriving DecidableEq, Repr

/-- CAUSE (R311). -/
def Accept.causeWord (x : Accept) : Nat := b2n x.int * 2 ^ 31 + x.sub % 2 ^ 16 * 2 ^ 8 + x.code % 256

/-- Synchronous in the sense of R300. -/
def Accept.sync (x : Accept) : Bool := !x.int && decide (x.code ≠ 0) && decide (x.code ≠ 16)

/-- The base of the active image slot (R297). -/
def Core.slotBase (c : Core) : Nat := b2n c.slotB * 0x10000

/-- Far accesses of every kind are outstanding. -/
def Core.farBusy (c : Core) : Bool := !c.far.isEmpty || !c.kloads.isEmpty || !c.kexp.isEmpty

/-- A locked sequence ends early (R359). -/
def Core.breakLock (c : Core) : Core :=
  { c with
    lock := { c.lock with active := false, broken := c.lock.broken || c.lock.active, held := [], high := 0, first := 0,
                          ending := false, timedOut := false },
    far := c.far.map (fun f => { f with locked := false }) }

/-- What every entry leaves behind: no loop, no shadow, VEI 0, nothing of the interrupted bundle, no imprecise exception
(R206, R227, R299, R303). -/
def Core.clearCtx (c : Core) : Core :=
  { c.wrCr0 8 0 with
    lc := [], shLeft := 0, shAnnul := false, shNext := 0, shRedir := false, vrun := none, replay := none,
    callPend := none, imp13 := none, imp15 := none, imp7 := none, sleep := none }

/-- The first handler bundle issues `extra` CCLK after max(F, K) from acceptance at `a` (R304).
[Marks: DEDUCED (log entry 11)] -/
def Core.startAt (c : Core) (a k extra : Nat) : Core :=
  if c.farBusy then { c with entry := some ⟨a, k, extra⟩ } else { c with ready := a + k + extra }

/-- The last outstanding far access has completed: an entry that waits for it goes on (R304). -/
def Core.farIdle (c : Core) (now : Nat) : Core :=
  match c.entry with
  | some e => if c.farBusy then c else { c with entry := none, ready := max now (e.at_ + e.k) + e.extra }
  | none => c

/-- STATUS after an entry: EXL 1 and the new level, GIE, PRECISE and DFL kept (R303).
[Marks: DEDUCED (log entry 10)] -/
def Core.enterStatus (c : Core) (pl dfl : Nat) : Word :=
  ((c.rdCr 0).v &&& 0xB00) ||| BitVec.ofNat 32 (0x400 + pl + dfl * 0x800)

/-- A Keeper abort (R296). -/
def State.keeperAbort (s : State) (g : Nat) (code : Nat) : State :=
  let c := s.core g
  let t := (c.rdCr 3).v.toNat
  let aepc := if region t = .dmem then BitVec.ofNat 32 (c.dmem.val (t - dmemBase + 8) 4) else 0
  let c := { c with
    g := [], a := [], o := [], m := [], acc := [], q := [], p := [], lc := [], ls := [], le := [], flight := [] }
  let st := c.enterStatus 1 0
  let c := ((((c.clearCtx).wrCr0 0 st).wrCr0 1 (BitVec.ofNat 32 (code * 2 ^ 8 + 14))).wrCr0 2 aepc).wrCr0 44 0
  let c := { c with pc := BitVec.ofNat 32 (c.slotBase + 0x40 * 14) }
  let s := s.setCore g (c.startAt s.now 0 8)
  s.record (some (g / 8)) 11 0 1 g 0 (BitVec.ofNat 32 code)

/-- A third fault (R308). -/
def State.thirdFault (s : State) (g : Nat) (x : Accept) : State :=
  let s := s.fenceCore g 6 13 x.aepc (BitVec.ofNat 32 x.code)
  s.resetCore g 3

/-- A double fault (R307). -/
def State.doubleFault (s : State) (g : Nat) (x : Accept) (badTsb : Bool) : State :=
  let c := s.core g
  if !c.ownsBank 7 then s.thirdFault g x
  else
    let n := (c.flight.filter (fun f => f.live)).length
    let rec_ := [plain (c.rdCr 0).v.toNat, plain x.aepc.toNat, plain x.causeWord, plain (c.rdCr 3).v.toNat,
      plain (c.rdCr 44).v.toNat, plain (c.rdCr 8).v.toNat] ++ c.loopWords ++ [plain n]
    let m := c.dmem.putWords 0x1FF00 (fitTo td0 32 rec_)
    let sub := x.code % 256 + b2n x.int * 2 ^ 8 + b2n badTsb * 2 ^ 9
    let st := c.enterStatus 1 1
    let c := { c.clearCtx with dmem := m, flight := [] }
    let c := ((c.wrCr0 0 st).wrCr0 1 (BitVec.ofNat 32 (sub * 2 ^ 8 + 1))).wrCr0 2 x.aepc
    let c := { c with pc := BitVec.ofNat 32 (c.slotBase + 0x40) }
    let s := s.setCore g (c.startAt s.now 0 16)
    s.record (some (g / 8)) 12 0 1 g x.aepc (BitVec.ofNat 32 x.code)

/-- The SHADOW word (R301). -/
def Core.shadowWord (c : Core) : Nat :=
  if c.shLeft = 0 then 0 else c.shLeft % 4 + b2n c.shAnnul * 4 + c.shNext.toNat * 2 ^ 32

/-- SLOT_DONE of the interrupted bundle, none when it has not begun (R306). [Marks: DEDUCED (log entry 12)] -/
def Core.slotDone (c : Core) : Option (List Nat) :=
  match c.vrun with
  | some r => some r.others
  | none => c.replay

/-- The effects that a saved result has at the entry itself: its count (R271) and the flags that its entry does not
hold (R176, R181). -/
def Core.saveFlight (c : Core) (f : Flight) : Core :=
  let c := { f with cond := 0 }.setFlags c
  { c with declCnt := c.declCnt + BitVec.ofNat 64 (if f.decl = 1 then 1 else 0),
           rclrCnt := c.rclrCnt + BitVec.ofNat 64 (if f.decl = 2 then 1 else 0) }

/-- An entry that saves the TSB (R303). -/
def State.enterTsb (s : State) (g : Nat) (x : Accept) : State :=
  let c := s.core g
  let ta := if c.vrun.isNone && c.replay.isSome then c.issueCyc + 1 else c.issueCyc
  let pend := c.flight.filter (fun f => f.live && decide (ta < f.commit))
  let k := (pend.map (fun f => f.commit - ta)).foldl max 0
  let base := (c.rdCr 3).v.toNat - dmemBase
  let replay := match c.slotDone with
    | some l => maskOf l + 2 ^ 16
    | none => 0
  let hdr := [plain (c.rdCr 0).v.toNat, plain x.aepc.toNat, plain x.causeWord, plain c.shadowWord,
    plain (replay + pend.length % 64 * 2 ^ 24), plain (c.rdCr 8).v.toNat] ++ c.loopWords ++ [plain 0]
  let m := c.dmem.putWords base (hdr ++ pend.flatMap (fun f => f.words (f.commit - ta)))
  let c := pend.foldl Core.saveFlight c
  let st := c.enterStatus (if x.gate.isSome then 2 else 1) (b2n c.dfl)
  let c := { c.clearCtx with dmem := m, flight := [] }
  let c := ((c.wrCr0 0 st).wrCr0 1 (BitVec.ofNat 32 x.causeWord)).wrCr0 2 x.aepc
  let vec := if x.int then (c.rdCr 4).v + BitVec.ofNat 32 (0x40 * x.code)
    else BitVec.ofNat 32 (c.slotBase + 0x40 * x.code)
  let c := { c with pc := x.gate.getD vec, keeperAt := if x.gate.isSome then s.now else c.keeperAt }
  s.putCore g (c.startAt s.now k (8 + 3 * pend.length))

/-- Taking an exception or interrupt in this CCLK (R300, R303). [Marks: DEDUCED (log entry 10)] -/
def State.enter (s : State) (g : Nat) (x : Accept) : State :=
  let c := (s.core g).breakLock
  let c := match x.faddr with
    | some a => c.wrCr0 44 a
    | none => c
  let s := (s.setCore g c).unlock g
  if c.pl = 2 then s.keeperAbort g x.code
  else if x.sync && c.dfl then s.thirdFault g x
  else if !c.tsbOk || (x.sync && c.exl) then s.doubleFault g x (!c.tsbOk)
  else s.enterTsb g x

/-- An exception of cause `code` at the core's next bundle. [Marks: DEDUCED (log entry 10)] -/
def State.except (s : State) (g code sub : Nat) (faddr : Option Word) : State :=
  s.enter g ⟨false, code, sub, faddr, (s.core g).pc, none⟩

/-! Boundaries (R163, R299, R331) -/

/-- The CCLK of the core's next boundary: CCLK that it could have issued in and did not are stall cycles, and every result
due by then has committed. [Marks: DEDUCED (log entry 9)] -/
def State.toBoundary (s : State) (g : Nat) : State :=
  let s := s.upTo (s.core g).ready
  let c := s.core g
  let late := s.now - c.ready
  s.putCore g { c with ready := s.now, stallCnt := c.stallCnt + BitVec.ofNat 64 late }.settle

/-- The next selected lane of a running VLDS or VSTS. -/
def VRun.nextLane (r : VRun) : Option Nat :=
  (Sys2Proof.range r.next (r.lanes - r.next)).find? (fun i => bitN r.sel.toNat i)

/-- VEI.ELEM holds the element at which a running VLDS or VSTS is interrupted (R226). -/
def Core.stopRun (c : Core) : Core :=
  match c.vrun with
  | some r => c.wrCr0 8 (BitVec.ofNat 32 (r.nextLane.getD 0))
  | none => c

/-- R299: an interrupt or Lens halt may be accepted, GIE apart. -/
def Core.asyncOk (c : Core) : Bool := c.pl != 2 && !c.exl && !c.dfl

/-- The entry that a boundary itself calls for: a SYSCALL or KCALL that has issued, else an imprecise exception, else a
waiting Lens halt, in the order of R299. [Marks: DEDUCED (log entry 10)] -/
def State.boundaryEntry (s : State) (g : Nat) : Option State :=
  let c := s.core g
  match c.callPend with
  | some (code, sub, gate) =>
    some (s.enter g ⟨false, code, sub, none, c.pc, if code = 9 then some gate else none⟩)
  | none =>
    match c.imp13 with
    | some (sub, a) => some (s.except g 13 sub (some a))
    | none =>
      match c.imp15 with
      | some a => some (s.except g 15 0 (some a))
      | none =>
        match c.imp7 with
        | some _ => some (s.except g 7 0 none)
        | none =>
          if c.haltReq && c.asyncOk then
            some ((s.setCore g { c.stopRun with haltReq := false }).except g 16 0 none)
          else none

/-- The core takes commands of its pipeline: released, awake, and not inside an entry that waits. -/
def Core.live (c : Core) : Bool := c.run && c.sleep.isNone && c.entry.isNone

/-- A boundary stands before the next bundle, or before the next element of a running VLDS or VSTS (R226). -/
def Core.atBoundary (c : Core) : Bool :=
  match c.vrun with
  | some r => r.nextLane.isSome
  | none => true

/-! RETX (R305, R306) -/

/-- A word of a TSB. -/
def Core.tsbWord (c : Core) (base k : Nat) : TD := c.dmem.word (base + 8 * k)

/-- The pending entry j of a TSB, its commit point counted from issue cycle `tr`. [Marks: DEDUCED (log entry 11)] -/
def Core.tsbEntry (c : Core) (base tr j : Nat) : Flight :=
  let w k := c.tsbWord base (16 + 6 * j + k)
  let d := (w 0).v.toNat
  let x := (w 1).v.toNat
  { Flight.base (bits x 35 32) (BitVec.ofNat 32 x) (tr + bits d 5 0) with
    file := bits d 15 12, num := bits d 21 16, shape := bits d 25 24, field := bits d 27 26,
    byteEn := BitVec.ofNat 16 (bits d 47 32), cond := bits d 9 8, v0 := w 2, v1 := w 3, v2 := w 4, v3 := w 5 }

/-- How many registers a FILE code has. -/
def fileSize (f : Nat) : Nat :=
  match f with
  | 0 => 64 | 1 => 16 | 2 => 16 | 3 => 16 | 4 => 8 | 5 => 32 | 6 => 32 | 7 => 8 | _ => 0

/-- The entry names a register write (R305). -/
def Flight.names (f : Flight) (rem : Nat) : Bool :=
  decide (1 ≤ rem) && decide (rem ≤ 33) && decide (f.num + b2n (f.shape == 1) < fileSize f.file)
    && (match f.shape with
      | 0 => true
      | 1 => f.file == 0 || f.file == 6
      | 2 => f.file == 4 && f.field != 0
      | _ => false)
    && (match f.file with
      | 5 => decide (f.byteEn.toNat < 256)
      | 6 => true
      | _ => f.byteEn == 0xFFFF)

/-- Two results that write one register with one commit point; g0 is exempt (R158). -/
def clash (x y : Flight) : Bool :=
  x.commit == y.commit && x.regs.any (fun r => r != (0, 0) && y.regs.contains r)

/-- Some two results of a list clash. -/
def anyClash : List Flight → Bool
  | [] => false
  | f :: fs => fs.any (fun h => clash f h) || anyClash fs

/-- The exception that RETX raises, if any: its cause and, for TintFault, that trigger 8 applies (R305).
[Marks: DEDUCED (log entry 11)] -/
def Core.retxFault (c : Core) : Option Nat :=
  if !c.tsbOk then some 6
  else
    let base := (c.rdCr 3).v.toNat - dmemBase
    let w k := c.tsbWord base k
    let rep := (w 4).v.toNat
    let n := bits rep 29 24
    let es := (Sys2Proof.range 0 n).map (fun j => c.tsbEntry base 0 j)
    let pl := (w 0).v.toNat % 4
    let hdrK := (w 0).t.k || (w 1).t.k || (Sys2Proof.range 3 12).any (fun k => (w k).t.k)
    let entK := (Sys2Proof.range 0 n).any (fun j =>
      let f := bits (w (16 + 6 * j)).v.toNat 15 12
      (w (16 + 6 * j)).t.k || (w (17 + 6 * j)).t.k
        || (decide (1 ≤ f ∧ f ≤ 3) && (Sys2Proof.range 2 4).any (fun k => (w (16 + 6 * j + k)).t.k)))
    if 39 < n ∨ es.any (fun f => !f.names f.commit) ∨ anyClash es ∨ (bits rep 9 0 ≠ 0 ∧ !bitN rep 16) then some 4
    else if pl = 3 ∨ c.pl < pl then some 3
    else if hdrK || entK then some 2
    else none

/-- RETX issues in CCLK `x`: the TSB is restored (R305, R306). [Marks: DEDUCED (log entry 11)] -/
def Core.retx (c : Core) (x : Nat) : Core :=
  let base := (c.rdCr 3).v.toNat - dmemBase
  let w k := c.tsbWord base k
  let rep := (w 4).v.toNat
  let n := bits rep 29 24
  let replay := bitN rep 16
  let tr := c.issueCyc + (if replay then 1 else 0)
  let loop (k : Nat) : SMap TW := (Sys2Proof.range 0 3).foldl (fun m i => m.set tw0 i (w (6 + k + i)).toW) []
  let sh := (w 3).v.toNat
  let c := ((c.wrCr0 0 ((w 0).v.truncate 32 &&& 0xF03)).wrCr0 8 ((w 5).v.truncate 32 &&& 0xF))
  { c with
    lc := (loop 0).foldl (fun m e => m.set tw0 e.1 ⟨e.2.v &&& 0xFFFFFF, e.2.t⟩) [], ls := loop 3, le := loop 6,
    loopChg := [], shLeft := sh % 4, shAnnul := bitN sh 2, shNext := BitVec.ofNat 32 (sh / 2 ^ 32), shRedir := false,
    flight := (Sys2Proof.range 0 n).foldl (fun l j => insFlight (c.tsbEntry base tr j) l) (c.flight.filter (fun f => !f.live)),
    pc := (w 1).v.truncate 32,
    replay := if replay then some ((Sys2Proof.range 0 10).filter (fun i => bitN rep i)) else none,
    ready := x + 8 + 3 * n }

end Sys2Proof.Machine
end

