-- ==== Sys2Proof/Machine/Access.lean ====
section
/-! DEFINITION. Who may reach a register: the principal access table, refused and unavailable accesses. -/

namespace Sys2Proof.Machine

/-- A bit of PRIN_CTL. -/
def State.prin (s : State) (f : Fld) : Bool := s.flag PRIN_CTL f

/-- The lifecycle state: 0 TEST, 1 OPEN, 2 DEPLOYED, 3 RMA (R421). [Marks: DESIGN CHOICE (log entry 5)] -/
def State.lcState (s : State) : Nat :=
  match s.fuses.lc.toNat with
  | 0 => 0 | 1 => 1 | 3 => 2 | _ => 3

/-- A Lens request that the lifecycle does not permit (R426). -/
def State.lensRefused (s : State) : State := s.raiseDev 50

/-- The rows of the principal access table that a register stands in (R395). [Marks: DEDUCED (log entry 38)] -/
inductive Row where
  | cfg | cluster | dma | cost | fault | hostif | memwin | tintLog | other
  deriving DecidableEq, Repr

/-- The row of a BAR0 offset. [Marks: DEDUCED (log entry 38)] -/
def rowOf (off : Nat) : Row :=
  if off = 0x10 then .memwin
  else if off = 0x20000 ∨ off = 0x20004 then .cfg
  else if off = FAULT_STAT then .fault
  else if 0x3F0010 ≤ off ∧ off < 0x3F001C then .tintLog
  else if 0x3E0000 ≤ off ∧ off < 0x3E1010 then .cost
  else if 0x470000 ≤ off ∧ off < 0x480000 then .hostif
  else if 0x430000 ≤ off ∧ off < 0x440000 then .other
  else if 0x420000 ≤ off ∧ off < 0x430000 then .other
  else if 0x800000 ≤ off ∧ off < 0xB00000 then (if 0x30000 ≤ off % 0x40000 then .dma else .cluster)
  else if 0x100000 ≤ off then .cfg
  else .other

/-- The bits of a family that some principal other than the Warden may write. -/
def RegFam.open_ (f : RegFam) : Word := (f.rw ||| f.rwl ||| f.w1c ||| f.w1s ||| f.wo) &&& ~~~ f.wdn

/-- The reason (R547) for which a principal may not reach the fields of a row that are neither RO nor WDN; 0 when it may.
[Marks: DEDUCED (log entry 38)] -/
def State.denied (s : State) (who : Prin) (row : Row) (off : Nat) (wr : Bool) : Nat :=
  match who with
  | .warden => 0
  | .smbus => 1
  | .host =>
    (match row with
    | .cost => 1
    | .hostif => 0
    | .fault => b2n wr
    | .memwin => if wr && !s.prin PRIN_CTL_HOST_MEM then 1 else 0
    | .dma => if wr && !(s.prin PRIN_CTL_HOST_CFG && s.prin PRIN_CTL_HOST_DMA) then 1 else 0
    | _ => if wr && !s.prin PRIN_CTL_HOST_CFG then 1 else 0)
  | .lens =>
    if s.lcState = 2 then 4
    else match row with
      | .cost => 1
      | .hostif => b2n wr
      | .fault => b2n wr
      | _ => 0
  | .core g =>
    if (s.core g).pl = 0 then 1
    else match row with
      | .cost => 1
      | .memwin => 1
      | _ =>
        if wr then (if (row == .cluster || row == .dma) && (off - 0x800000) / 0x40000 == g.val / 8 then 0 else 1) else 0

/-- The bits of a register that an access may not reach, and the reason of the first of them (R15 to R17, R396). Every
principal reads MIRROR_STAT (R469). [Marks: DEDUCED (log entry 38)] -/
def State.refusedBits (s : State) (who : Prin) (off : Nat) (f : RegFam) (wr : Bool) : Word × Nat :=
  let row := rowOf off
  let wdn : Word × Nat := if who = .warden ∨ (off = MIRROR_STAT ∧ !wr) then (0, 0) else (f.wdn, if f.wdn = 0 then 0 else 3)
  let rest := if who = .smbus then 0xFFFFFFFF else if wr then f.open_ else match row with
    | .tintLog => if who = .host ∧ !s.prin PRIN_CTL_HOST_LOG then 0xFFFFFFFF else 0
    | .cost => if who = .warden then 0 else 0xFFFFFFFF
    | _ => f.open_
  let d := if row = .tintLog ∧ rest ≠ 0 then 1 else s.denied who row off wr
  let oth : Word × Nat := if rest = 0 ∨ d = 0 then (0, 0) else (rest, d)
  (wdn.1 ||| oth.1, if wdn.2 = 0 then oth.2 else wdn.2)

/-- The core address of a BAR0 offset, as core g sees it (R554). -/
def coreAddrOf (g off : Nat) : Word :=
  let base := 0x800000 + 0x40000 * (g / 8)
  if base ≤ off ∧ off < base + 0x40000 then BitVec.ofNat 32 (0x8000000 + (off - base)) else BitVec.ofNat 32 (0xA000000 + off)

/-- A refused access: counted, signalled and logged, or an access fault of the core (R396, R426, R533).
[Marks: DEDUCED (log entry 38)] -/
def State.accRefused (s : State) (who : Prin) (off : Nat) (wr : Bool) (reason : Nat) : State :=
  let log (s : State) (src : Nat) : State :=
    (s.wr64 ACC_LOG_ADDR off).wr ACC_LOG_INFO (BitVec.ofNat 32 (2 ^ 31 + src * 2 ^ 10 + b2n wr * 2 ^ 9 + reason % 8))
  let evt (s : State) (f : Fld) : State := s.evtSet HOSTIF_EVT HOSTIF_EVT_EN 61 f
  match who with
  | .warden => s
  | .host => log (evt (s.inc64 (HOSTIF_CNT 0)) HOSTIF_EVT_HOST_REFUSED) 0
  | .lens =>
    let s := log (evt (s.inc64 (HOSTIF_CNT 1)) HOSTIF_EVT_LENS_REFUSED) 1
    if reason = 4 then s.lensRefused else s
  | .smbus => log (evt (s.inc64 (HOSTIF_CNT 2)) HOSTIF_EVT_SMB_ERR) 2
  | .core g => if (s.core g).run then s.except g 6 0 (some (coreAddrOf g off)) else s

/-- An access to a block that is not ON, or that an aperture does not perform (R532, R552). -/
def State.accUnavail (s : State) (who : Prin) : State :=
  if who = .host ∨ who = .lens then
    (s.inc64 (HOSTIF_CNT 3)).evtSet HOSTIF_EVT HOSTIF_EVT_EN 61 HOSTIF_EVT_UNAVAIL
  else s

/-- The switched domain that a block's registers stand in (R471). -/
def domainOf (off : Nat) : Option Nat :=
  if 0x200000 ≤ off ∧ off < 0x240000 then some 120
  else if 0x240000 ≤ off ∧ off < 0x280000 then some 121
  else if 0x380000 ≤ off ∧ off < 0x390000 then some 120
  else if 0x390000 ≤ off ∧ off < 0x3A0000 then some 121
  else if 0x800000 ≤ off ∧ off < 0xB00000 then some (96 + (off - 0x800000) / 0x40000)
  else none

/-- The block of an offset answers: its domain is ON or still quiescing. -/
def State.blockOn (s : State) (off : Nat) : Bool :=
  match domainOf off with
  | some d => s.domain d == 2 || s.domain d == 3
  | none => true

/-- A write of the value `v` by a principal at an offset whose effect is `act`: performed where every bit that it reaches
is permitted. -/
def State.guarded (s : State) (who : Prin) (off : Nat) (act : State → State) : State :=
  if !s.blockOn off then s.accUnavail who
  else match famOf off with
    | none => s
    | some (f, _, _) =>
      let r := s.refusedBits who off f true
      if r.2 = 0 then act s else s.accRefused who off true r.2

end Sys2Proof.Machine
end

