-- ==== Sys2Proof/Machine/Pipe.lean ====
section
/-! DEFINITION. Issuing a bundle: legality, stalls, checks in the order of R275, operations, branches, loops, and the
elements of VLDS and VSTS (R141 to R162, R187 to R206, R223 to R228). -/

namespace Sys2Proof.Machine

/-! Branches and loops -/

/-- An operation that R192 keeps out of delay slots, set-up slots and loop-end bundles (also R293, R475). -/
def opControl (op : Op) : Bool :=
  match op with
  | .br _ => true
  | .call _ => true
  | .bc _ _ _ _ _ => true
  | .jr _ _ => true
  | .loop _ _ _ => true
  | .loopi _ _ _ => true
  | .lclr _ => true
  | .syscall _ => true
  | .kcall _ _ => true
  | .retx => true
  | .sleep _ => true
  | _ => false

/-- An operation that a shadow of two bundles follows (R190, R202). -/
def opShadow (op : Op) : Bool :=
  match op with
  | .br _ => true
  | .call _ => true
  | .bc _ _ _ _ _ => true
  | .jr _ _ => true
  | .loop _ _ _ => true
  | .loopi _ _ _ => true
  | _ => false

/-- CTX, BAR and key as they stand (R198). -/
def Core.btbNow (c : Core) : Nat × Bool × Nat :=
  let x := (c.rdCr 5).v.toNat % 16
  (x, bitN (c.rdCr 6).v.toNat 0, (c.btbKey.get 0 x).toNat)

/-- The buffer index of R196. -/
def btbIndex (pc : Word) (key : Nat) : Nat := (bits pc.toNat 9 2 ^^^ bits pc.toNat 17 10) ^^^ key

/-- The entry that hits, if one does. -/
def Core.btbHit (c : Core) (pc : Word) (x : Nat × Bool × Nat) : Option Btb :=
  let e := c.btb.get Btb.none (btbIndex pc x.2.2)
  if e.valid && e.ctx == x.1 && e.tag == bits pc.toNat 16 2 then some e else none

/-- The buffer update of an issued conditional branch or JR (R197). -/
def Core.btbUpdate (c : Core) (pc : Word) (taken : Bool) (target : Word) : Core :=
  let x := c.btbNow
  if x.2.1 then c
  else
    let i := btbIndex pc x.2.2
    let tgt := bits target.toNat 16 2
    match c.btbHit pc x with
    | some e =>
      let e := if taken then { e with ctr := min (e.ctr + 1) 3, target := tgt } else { e with ctr := e.ctr - 1 }
      { c with btb := c.btb.set Btb.none i e }
    | none =>
      if taken then { c with btb := c.btb.set Btb.none i ⟨x.1, bits pc.toNat 16 2, tgt, 2, true⟩ } else c

/-- The shadow that an operation sets up: annulment, the bundle after it, and whether a redirect event follows, with the
buffer updated (R187 to R198, R202, R204). [Marks: DEDUCED (log entry 12)] -/
def Core.setShadow (c0 c : Core) (pc succ : Word) (op : Op) : Core :=
  let shadow (c : Core) (annul : Bool) (nxt : Word) (redir : Bool) : Core :=
    { c with shLeft := 2, shAnnul := annul, shNext := nxt, shRedir := redir }
  let after := c0.afterTwo succ
  match op with
  | .br d => shadow c false (pc + d.signExtend 32 <<< 2) false
  | .call d => shadow c false (pc + d.signExtend 32 <<< 2) false
  | .bc f a h src d =>
    let v : Word := match f with
      | .bpa => (c0.rdP src.toNat).v.zeroExtend 32
      | .bpn => (c0.rdP src.toNat).v.zeroExtend 32
      | _ => (c0.rdG src.toNat).v
    let taken := branchTaken f v
    let target := pc + d.signExtend 32 <<< 2
    let guess := if c0.hist2.2.1 then h else match c0.btbHit pc c0.hist2 with
      | some e => decide (2 ≤ e.ctr)
      | none => h
    (shadow c (!taken && a) (if taken then target else after) (guess != taken)).btbUpdate pc taken target
  | .jr src _ =>
    let target := (c0.rdG src.toNat).v
    let guess := if c0.hist2.2.1 then after else match c0.btbHit pc c0.hist2 with
      | some e => BitVec.ofNat 32 (e.target * 4)
      | none => after
    (shadow c false target (guess != target)).btbUpdate pc true target
  | .loop _ src disp =>
    if (c0.rdG src.toNat).v &&& 0xFFFFFF = 0 then shadow c false (c0.succAt (pc + disp.zeroExtend 32 * 4)) true
    else shadow c false after false
  | .loopi _ _ _ => shadow c false after false
  | _ => c

/-- The core spends the two redirect cycles of an event (R193). -/
def Core.redirect (c : Core) : Core := { c with ready := c.ready + 2, redirCnt := c.redirCnt + 1 }

/-- The bundle at `pc` ends a body: it stands at le_n of an active level (R203). -/
def Core.loopEnd (c : Core) (pc : Word) : Bool :=
  (Sys2Proof.range 0 3).any (fun n => (c.lc.get tw0 n).v != 0 && (c.le.get tw0 n).v == pc)

/-- The loop-end test from level `n - 1` down, for a bundle that issued in issue cycle `t`: the core, the next bundle and
whether a test causes a redirect event (R203, R204). -/
def Core.loopTest (c : Core) (pc succ : Word) (t : Nat) : Nat → Core × Word × Bool
  | 0 => (c, succ, false)
  | n + 1 =>
    let l := c.lc.get tw0 n
    if l.v != 0 && (c.le.get tw0 n).v == pc then
      let chg := c.loopChg.get 0 n
      let redir := decide (chg ≠ 0 ∧ t + 1 ≤ chg + 3) && c.loopFresh.get 0 n == 0
      let c := { c with lc := c.lc.set tw0 n ⟨l.v - 1, if l.v = 1 then .clean else l.t⟩, loopFresh := c.loopFresh.set 0 n 0 }
      let c := if l.v = 1 then { c with lc := c.lc.set tw0 n ⟨0, l.t⟩ } else c
      if l.v = 1 then
        let r := c.loopTest pc succ t n
        (r.1, r.2.1, r.2.2 || redir)
      else (c, (c.ls.get tw0 n).v, redir)
    else c.loopTest pc succ t n

/-- The core moves on past the bundle at its pc, which issued in issue cycle `t`. `made` says that the bundle itself set
up the shadow that now stands (R190, R202 to R205). -/
def Core.advance (c : Core) (succ : Word) (made : Bool) (t : Nat) : Core :=
  if made then { c with pc := succ }
  else if c.shLeft = 0 then
    let r := c.loopTest c.pc succ t 3
    let c := { r.1 with pc := r.2.1 }
    if r.2.2 then c.redirect else c
  else if c.shLeft = 1 then
    let redir := c.shRedir
    let c := { c with pc := c.shNext, shLeft := 0, shAnnul := false, shNext := 0, shRedir := false }
    if redir then c.redirect else c
  else { c with pc := succ, shLeft := c.shLeft - 1 }

/-! Legality in DC (R147, R156, R158, R192, R228) -/

/-- R156 for one operation. -/
def Core.intervalOk (c : Core) (op : Op) : Bool :=
  match op with
  | .div _ _ _ _ => decide (c.divFree ≤ c.issueCyc)
  | .vctrInit _ _ _ _ => decide (c.vctrFree ≤ c.issueCyc)
  | .vctrData _ _ _ _ => decide (c.vctrFree ≤ c.issueCyc)
  | .vecb _ _ _ => decide (c.vctrFree ≤ c.issueCyc)
  | _ => true

/-- The registers, as FILE and number, that R228 keeps from being written at issue + 1. -/
def runRegs (op : Op) : List (Nat × Nat) :=
  let common (o : VM) : List (Nat × Nat) :=
    [(1, o.ab.toNat), (2, o.os.toNat)] ++ (if o.pg = 0 then [] else [(7, o.pg.toNat)])
  match op with
  | .vlds o => common o
  | .vsts o => (6, o.vr.toNat) :: common o
  | _ => []

/-- The operation is VLDS or VSTS. -/
def opRun (op : Op) : Bool :=
  match op with
  | .vlds _ => true
  | .vsts _ => true
  | _ => false

/-- An MTC to VL or VEI. -/
def opSetsVl (op : Op) : Bool :=
  match op with
  | .mtc c _ => c == 7 || c == 8
  | _ => false

/-- The results that the operations of a bundle put in flight. -/
def Core.bundleFlights (c : Core) (e : Env) (pc succ : Word) (ops : List (Slot × Op)) : List Flight :=
  ops.flatMap (fun o => c.opFlights c e o.1 pc succ o.2)

/-- The DC checks on a bundle whose operations are known; `ops` are those that are not suppressed (R147, R192, R228). -/
def Core.dcLegal (c : Core) (e : Env) (pc succ : Word) (total : Nat) (ops : List (Slot × Op)) : Bool :=
  let fl := c.bundleFlights e pc succ ops
  let noCtl := decide (c.shLeft = 0) && !c.loopEnd pc
  let alone := decide (total = 1)
  let t1 := ((c.flight.filter (fun f => f.live)) ++ fl).filter (fun f => f.commit == c.issueCyc + 1)
  ops.all (fun o => (noCtl || !opControl o.2) && c.intervalOk o.2
      && (match o.2 with
        | .retx => alone
        | .sleep _ => alone
        | _ => true))
    && !anyClash fl && !fl.any (fun f => c.flight.any (fun h => clash f h))
    && (match ops.find? (fun o => opRun o.2) with
      | none => true
      | some o => !(t1.any (fun f => f.regs.any (fun r => (runRegs o.2).contains r))) && !ops.any (fun o => opSetsVl o.2))

/-! Stalls (R142, R161, R162) -/

/-- The bundle stalls in this CCLK. -/
def Core.bundleStalls (c : Core) (e : Env) (pc succ : Word) (ops : List (Slot × Op)) : Bool :=
  let lock := c.interlocked
  let wr := (c.bundleFlights e pc succ ops).flatMap Flight.regs ++ ops.flatMap (fun o => c.farWrites o.2)
  let entries := (c.far.filter (fun f => !f.elem)).length + c.kloads.length + c.kexp.length
  let need := (ops.map (fun o => c.farCount o.2)).foldl (· + ·) 0
  (ops.flatMap (fun o => opReads o.2) ++ wr).any (fun r => lock.contains r)
    || decide (0 < need ∧ 24 < entries + need)
    || ops.any (fun o => c.opStalls e o.2)

/-! Checks that make a bundle fault (R275) -/

/-- The first operation with a Tint trigger. -/
def Core.tintFault (c : Core) (ops : List (Slot × Op)) : Option (Slot × Nat) :=
  (ops.find? (fun o => c.opTintTrig o.2 != 0)).map (fun o => (o.1, c.opTintTrig o.2))

/-- The core of a number as a principal. [Marks: DEDUCED (log entry 71)] -/
def corePrin (g : Nat) : Prin := if h : g < 96 then .core ⟨g, h⟩ else .warden

/-- The BAR0 offset of an address in the cluster-register or device window, as core g sees it (R554).
[Marks: DEDUCED (log entry 18)] -/
def windowOff (g ea : Nat) : Option Nat :=
  match region ea with
  | .clreg => some (0x800000 + 0x40000 * (g / 8) + (ea - 0x8000000))
  | .devw => some (ea - 0xA000000)
  | _ => none

/-- The words of the vault window that an access may reach: the TRNG ports, KE_BIND, and, with a bound handle, its seed and
its buffer (R408). [Marks: DEDUCED (log entry 18)] -/
def State.vaultOk (s : State) (g ea size : Nat) (wr : Bool) : Bool :=
  let bound := (s.vault.boundTo g).isSome
  let within (lo n : Nat) : Bool := decide (lo ≤ ea ∧ ea + size ≤ lo + n)
  (!wr && (within 0xC000000 16 || within 0xC000200 4 || (bound && within 0xC000100 64))) || (bound && within 0xC004000 0x4000)

/-- Core g may not make an access of `size` bytes at `ea` to a register window or the vault window: it reaches a field that
the core may not reach, or a vault address that is not there (R16, R17, R396, R408).
[Marks: DEDUCED (log entry 18)] -/
def State.windowBad (s : State) (g ea size : Nat) (wr : Bool) : Bool :=
  match windowOff g ea with
  | some off => (Sys2Proof.range 0 (size / 4)).any (fun i =>
    match famOf (off + 4 * i) with
    | some (f, _, _) => (s.refusedBits (corePrin g) (off + 4 * i) f wr).2 != 0
    | none => false)
  | none => region ea == .vault && !s.vaultOk g ea size wr

/-- The access fault of a load or store to a register window (R17, R172). [Marks: DEDUCED (log entry 18)] -/
def State.windowExc (s : State) (g : Nat) (c : Core) (op : Op) : Option Exc :=
  let chk (m : MemOp) (size : Nat) (wr : Bool) : Option Exc :=
    if s.windowBad g (c.ea m).toNat size wr then some ⟨6, 0, some (c.ea m)⟩ else none
  match op with
  | .ld f _ m => chk m (ldSize f) false
  | .st f _ m => chk m (stSize f) true
  | _ => none

/-- The first operation with another precise exception; `win` is the check of the register windows. -/
def Core.firstExc (c : Core) (e : Env) (pc succ : Word) (win : Op → Option Exc) : List (Slot × Op) → Option (Op × Exc)
  | [] => none
  | o :: r =>
    match orElseExc (c.opExc c e o.1 pc succ o.2) (win o.2) with
    | some x => some (o.2, x)
    | none => c.firstExc e pc succ win r

/-- A TintFault at the next bundle (R275, R283). -/
def State.tintFault (s : State) (g slot trig : Nat) : State :=
  let c := s.core g
  let s := s.setCore g (c.wrCr0 42 (BitVec.ofNat 32 (trig * 2 ^ 8 + slot)))
  (s.inc64 (TINT_CORE g 2)).except g 2 0 none

/-- A precise arithmetic exception: flags and source in the issue cycle (R185). [Marks: DEDUCED (log entry 14)] -/
def Core.preciseArith (c : Core) (fl : List Flight) : Core :=
  let on := fl.filter (fun f => f.cond != 0 && bitN (c.rdCr 19).v.toNat (7 + f.cond))
  let c := on.foldl (fun (c : Core) f => c.setArith (f.cond - 1)) c
  match on with
  | f :: _ => c.arithSource f.pc f.slot
  | [] => c

/-! Elements of VLDS and VSTS (R223 to R226) -/

/-- The address of lane i. -/
def VRun.ea (r : VRun) (i : Nat) : Word := r.base + BitVec.ofNat 32 i * r.stride
/-- The element size in bytes. -/
def VRun.size (r : VRun) : Nat := 2 ^ r.o.ew.toNat

/-- KIND of R225: 1 misaligned, 2 access, 0 none. [Marks: DEDUCED (log entry 13)] -/
def Core.elemKind (c : Core) (r : VRun) (i : Nat) : Nat :=
  let ea := (r.ea i).toNat
  if ea % r.size ≠ 0 then 1 else if !c.mayAccess r.pl ea r.size r.store then 2 else 0

/-- Enter bytes in lane position `lo` of a d or q register (R159). -/
def Core.putLane (c : Core) (n lo size : Nat) (long : Bool) (v : Nat) (t : Tint) : Core :=
  let x := halves (v % 2 ^ (8 * size) * 2 ^ (8 * lo)) t t
  let en := (2 ^ size - 1) * 2 ^ lo
  if long then c.wrQen n en x.1 x.2 else c.wrDen n en x.1

/-- The value and tint of lane i of a VSTS. -/
def VRun.laneVal (r : VRun) (i : Nat) : TD :=
  let lo := i * r.size
  let h := if lo < 8 then r.src0 else r.src1
  ⟨BitVec.ofNat 64 (h.v.toNat / 2 ^ (8 * (lo % 8)) % 2 ^ (8 * r.size)), h.t⟩

/-- A running VLDS or VSTS has accessed its last element: the bundle is complete (R224).
[Marks: DEDUCED (log entry 13)] -/
def Core.finishRun (c : Core) (r : VRun) : Core :=
  let wait := r.last - c.ready
  let c := { c.wrCr0 8 0 with vrun := none, ready := max c.ready r.last, stallCnt := c.stallCnt + BitVec.ofNat 64 wait }
  c.advance r.succ r.made (c.issueCyc - 1)

/-- Finish the run when nothing of it is left. [Marks: DEDUCED (log entry 13)] -/
def Core.tryFinish (c : Core) : Core :=
  match c.vrun with
  | some r => if r.nextLane.isNone && !c.far.any (fun f => f.elem) then c.finishRun r else c
  | none => c

/-- A stall cycle passes. [Marks: DEDUCED (log entry 9)] -/
def Core.stall (c : Core) : Core := { c with ready := c.ready + 1, stallCnt := c.stallCnt + 1 }

/-- A value that the spec leaves open is drawn. [Marks: DESIGN CHOICE (log entries 6, 7)] -/
def State.draw (s : State) : DWord × State := (Config.freeDWord s.free, { s with free := s.free + 1 })

/-- An uncorrectable error in the 64-bit word that a store of `size` bytes at `off` has written in part: its other bytes
are open and its tint is both (R343). [Marks: DEDUCED (log entry 15)] -/
def Mem.spoil (m : Mem) (off size : Nat) (w : DWord) : Mem :=
  let base := off / 8 * 8
  let keep := m.bytes off size
  let m := m.store base (toLE 8 w.toNat) .both
  { m with b := m.b.setRange 0 off keep }

/-- A part-word DMEM store of core g met an error in its word (R342, R343). [Marks: DEDUCED (log entry 15)] -/
def State.partStoreErr (s : State) (g : Nat) (ea : Word) (size : Nat) (ecc : Ecc) : State :=
  match ecc with
  | .ok => s
  | .ce => s.coreMemErr g 1 false ea
  | .ue =>
    let d := s.draw
    let s := d.2.coreMemErr g 1 true ea
    let c := (s.core g).wrCr0 44 ea
    s.setCore g { c with dmem := c.dmem.spoil (ea.toNat - dmemBase) size d.1, imp13 := some (1, ea) }

/-- Access element i of a run in DMEM in this CCLK. [Marks: DEDUCED (log entry 15)] -/
def State.dmemElem (s : State) (g : Nat) (r : VRun) (i : Nat) (ecc : Ecc) : State :=
  let c := s.core g
  let ea := r.ea i
  let off := ea.toNat - dmemBase
  let r' := { r with next := i + 1, last := s.now + (if r.store then 1 else 3) }
  if r.store then
    let x := r.laneVal i
    let s := s.setCore g { c.dmemStore ea r.size x td0 with vrun := some r' }
    if r.size = 8 then s else s.partStoreErr g ea r.size ecc
  else if ecc == .ue then
    let d := s.draw
    let s := d.2.coreMemErr g 1 true ea
    let c := c.putLane r.o.vr.toNat (i * r.size) r.size r.o.long d.1.toNat .both
    s.setCore g { c.wrCr0 44 ea with vrun := some r', imp13 := some (1, ea) }
  else
    let s := if ecc == .ce then s.coreMemErr g 1 false ea else s
    let w := c.dmem.tint (off / 8 * 8)
    let c := c.putLane r.o.vr.toNat (i * r.size) r.size r.o.long (c.dmem.val off r.size) w
    s.setCore g { c with vrun := some r' }

/-- The next element of a running VLDS or VSTS in this CCLK; `first` in the CCLK of the bundle's issue.
[Marks: DEDUCED (log entry 13)] -/
def State.stepRun (s : State) (g : Nat) (ecc : Ecc) (first : Bool) : State :=
  let c := s.core g
  match c.vrun with
  | none => s
  | some r =>
    let pay (c : Core) : Core := if first then c else c.stall
    match r.nextLane with
    | none => if c.far.any (fun f => f.elem) then s.setCore g (pay c) else s.setCore g (c.finishRun r)
    | some i =>
      let ea := r.ea i
      let kind := c.elemKind r i
      let kind := if kind = 0 && s.windowBad g ea.toNat r.size r.store then 2 else kind
      let fault (c : Core) (s : State) (code sub : Nat) (fa : Option Word) : State :=
        let a := max s.now r.last
        let c := { c.wrCr0 8 (BitVec.ofNat 32 i) with stallCnt := c.stallCnt + BitVec.ofNat 64 (a - c.ready) }
        ((s.setCore g c).upTo a).except g code sub fa
      if kind ≠ 0 then
        let info := i * 2 ^ 8 + b2n r.store * 2 ^ 4 + kind
        fault ((c.wrCr0 33 ea).wrCr0 34 (BitVec.ofNat 32 info)) s 11 0 none
      else match c.lockCheck ea with
        | some x => fault c s x.cause x.sub x.faddr
        | none =>
          if region ea.toNat = .dmem then
            let s := s.dmemElem g r i ecc
            s.setCore g (pay (s.core g)).tryFinish
          else if 4 ≤ (c.far.filter (fun f => f.elem)).length then s.setCore g (pay c)
          else
            let x := r.laneVal i
            let dst := if r.store then FarDst.none else FarDst.lane r.o.vr.toNat (i * r.size) r.o.long
            let e := s.env g
            let f := c.newFar e ea r.size r.store dst (if r.store then x else td0) td0 r.pc 2 true
            let c := (c.pushFar f).addBeat f
            s.setCore g (pay { c with vrun := some { r with next := i + 1 } })

/-! Issue -/

/-- End of an issue cycle: the predictor's history, PFLUSH, the issue count of time (R141, R198, R199). -/
def Core.endCycle (c0 c : Core) : Core :=
  let t := c0.issueCyc
  let c := match c.flushAt with
    | some k => if k ≤ t then { c with btb := [], flushAt := none } else c
    | none => c
  { c with issueCyc := t + 1, hist2 := c0.hist1, hist1 := c0.btbNow, ready := c0.ready + 1 }

/-- The marks that an operation which does not execute leaves for later R156 and R158 checks (R191, R306). -/
def Core.phantom (c0 c : Core) (e : Env) (pc succ : Word) (ops : List (Slot × Op)) : Core :=
  let c := c.addFlights ((c0.bundleFlights e pc succ ops).map (fun f => { f with live := false }))
  ops.foldl (fun (c : Core) o => match o.2 with
    | .div _ _ _ _ => { c with divFree := c0.issueCyc + 34 }
    | .vctrInit _ _ _ _ => { c with vctrFree := c0.issueCyc + 2 }
    | .vctrData _ _ _ _ => { c with vctrFree := c0.issueCyc + 2 }
    | .vecb _ _ _ => { c with vctrFree := c0.issueCyc + 2 }
    | _ => c) c

/-- Operations that change a key slot's key: they act on the slot after the bundle's cipher operations (R240).
[Marks: DEDUCED (log entry 16)] -/
def opKeyChange (op : Op) : Bool :=
  match op with
  | .kload _ _ => true
  | .kzero _ => true
  | _ => false

/-- The operations of a bundle take effect together on the core as it stands (R141, R250).
[Marks: DEDUCED (log entry 16)] -/
def Core.execute (c : Core) (e : Env) (pc succ : Word) (ops : List (Slot × Op)) : Core :=
  let fl := c.bundleFlights e pc succ ops
  let order := ops.filter (fun o => !opKeyChange o.2) ++ ops.filter (fun o => opKeyChange o.2)
  let x := order.foldl (fun (x : Core) o => (c.setShadow (c.opEffect x e o.1 pc succ o.2) pc succ o.2)) c
  x.addFlights fl

/-- The EVC's part of an end of interrupt (R322). -/
def State.evcEoi (s : State) (g id : Nat) : State :=
  let c := s.core g
  let cl := g / 8
  let n := g % 8
  let key := if id < 32 then prKey g id else shKey cl id
  let x := s.src key
  if id < 255 && x.act && x.owner == n then
    let s := s.setSrc key { x with act := false, owner := 0 }
    let top := match c.stack with
      | t :: _ => t.id == id
      | [] => false
    let s := s.setCore g { c with stack := c.stack.filter (fun t => t.id != id) }
    if top then s else s.inc64 (EVC_CNT cl n 2)
  else s.inc64 (EVC_CNT cl n 0)

/-- The state-level part of a bundle's operations: EVC_EOI, the banks of a sequence that has ended, the SLEEP entry. -/
def State.afterIssue (s : State) (g : Nat) (c0 : Core) (ops : List (Slot × Op)) : State :=
  let s := ops.foldl (fun (s : State) o => match o.2 with
    | .mtc n a => if n = 46 then s.evcEoi g ((c0.rdG a.toNat).v.toNat % 256) else s
    | _ => s) s
  if c0.lock.active && !(s.core g).lock.active then s.unlock g else s

/-- The part-word DMEM stores of a bundle: address and size. -/
def Core.partStores (c : Core) (ops : List (Slot × Op)) : List (Word × Nat) :=
  ops.filterMap (fun o => match o.2 with
    | .st f _ m => if region (c.ea m).toNat == .dmem && decide (stSize f < 8) then some (c.ea m, stSize f) else none
    | _ => none)

/-- A bundle has issued: it is counted, and a replay has ended (R154, R306). -/
def Core.counted (c : Core) : Core := { c with issueCnt := c.issueCnt + 1, replay := none }

/-- What a VLDS or VSTS that has begun keeps of its bundle until its last element (R224, R306). -/
def Core.runBundle (c : Core) (r : VRun) (others : List Nat) (now : Nat) (made : Bool) (succ : Word) : Core :=
  { c with vrun := some { r with others := others, last := now + 1, made := made, succ := succ } }

/-- The core leaves an issued bundle: by RETX, by the elements of a VLDS or VSTS, or for the bundle that follows (R141, R203,
R224, R305). -/
def Core.leave (c : Core) (now : Nat) (retx : Bool) (others : List Nat) (made : Bool) (succ : Word) (t : Nat) : Core :=
  if retx then c.retx now
  else match c.vrun with
    | some r => c.runBundle r others now made succ
    | none => c.advance succ made t

/-- The core after a bundle that has passed every check, up to the end of its issue cycle (R141, R154, R306).
[Marks: DEDUCED (log entry 12)] -/
def Core.issueCore (c0 : Core) (e : Env) (b : Bundle) : Core :=
  let pc := c0.pc
  let succ := c0.seqNext pc b.len
  let off := c0.replay.getD []
  let run := b.ops.filter (fun o => !off.contains (slotCode o.1))
  let skip := b.ops.filter (fun o => off.contains (slotCode o.1))
  let made := b.ops.any (fun o => opShadow o.2)
  let others := (b.ops.filter (fun o => !opRun o.2)).map (fun o => slotCode o.1)
  let c := c0.phantom (c0.execute e pc succ run) e pc succ skip
  (c0.endCycle c.counted).leave e.now (run.any (fun o => o.2 == .retx)) others made succ c0.issueCyc

/-- Issue a bundle that has passed every check. -/
def State.issueOk (s : State) (g : Nat) (b : Bundle) (data : Ecc) : State :=
  let c0 := s.core g
  let off := c0.replay.getD []
  let run := b.ops.filter (fun o => !off.contains (slotCode o.1))
  let s := s.setCore g (c0.issueCore (s.env g) b)
  let s := (c0.partStores run).foldl (fun (s : State) x => s.partStoreErr g x.1 x.2 data) s
  let s := s.afterIssue g c0 run
  s.stepRun g data true

/-- The bundle that stands at the core's pc: the one IMEM holds, or one operation alone in its slot.
[Marks: DEDUCED (log entry 79); DESIGN CHOICE (log entry 80)] -/
def Core.bundleHere (c : Core) (alone : Option (Slot × Op)) : Option Bundle :=
  match alone with
  | none => c.fetch c.pc.toNat
  | some o => if slotOk o.2 o.1 && opLegal o.2 then some ⟨[o], 4 * opSyllables o.2⟩ else none

/-- An annulled bundle occupies its issue cycle (R191). [Marks: DEDUCED (log entry 13)] -/
def Core.annulled (c0 : Core) (e : Env) (alone : Option (Slot × Op)) : Core :=
  let b := c0.bundleHere alone
  let succ := match alone, b with
    | some _, some b => c0.seqNext c0.pc b.len
    | _, _ => c0.succAt c0.pc
  let c := c0.phantom c0 e c0.pc succ ((b.map Bundle.ops).getD [])
  (c0.endCycle c).advance succ false c0.issueCyc

/-- The core as the DC checks see it: a replayed bundle that itself made the shadow is not in it (R306). -/
def Core.asMaker (c : Core) (own : Bool) : Core := if own then { c with shLeft := 0 } else c

/-- The bundle at the core's pc reaches IS: it issues, stalls or faults (R142, R147, R189, R275).
[Marks: DESIGN CHOICE (log entry 80)] -/
def State.issueAt (s : State) (g : Nat) (alone : Option (Slot × Op)) (fetch data : Ecc) : State :=
  let c := s.core g
  let e := s.env g
  let pc := c.pc
  let off := c.replay.getD []
  let b? := c.bundleHere alone
  let own := c.replay.isSome && ((b?.map Bundle.ops).getD []).any (fun o => opShadow o.2 && off.contains (slotCode o.1))
  if c.shLeft ≠ 0 && c.shAnnul && !own then s.setCore g (c.annulled e alone)
  else if pc.toNat % 4 ≠ 0 then s.except g 5 0 none
  else if decide (0x20000 ≤ pc.toNat) || c.inKeeper pc.toNat != (c.pl == 2) then s.except g 6 0 none
  else
    let s := if fetch == .ok then s else s.coreMemErr g 0 (fetch == .ue) pc
    if fetch == .ue then s.except g 13 0 none
    else match b? with
      | none => s.except g 4 0 none
      | some b =>
        let succ := c.seqNext pc b.len
        let run := b.ops.filter (fun o => !off.contains (slotCode o.1))
        let retx := run.any (fun o => o.2 == .retx)
        if !(c.asMaker own).dcLegal e pc succ b.ops.length run then s.except g 4 0 none
        else if c.bundleStalls e pc succ run then
          s.setCore g (if retx then { c.stall with issueCyc := c.issueCyc + 1 } else c.stall)
        else if run.any (fun o => c.opPrivileged e o.2) then s.except g 3 0 none
        else match c.tintFault run with
          | some (sl, trig) => s.tintFault g (slotCode sl) trig
          | none =>
            match (if retx then c.retxFault else none) with
            | some k => if k = 2 then s.tintFault g 0 8 else s.except g k 0 none
            | none =>
              match c.firstExc e pc succ (s.windowExc g c) run with
              | some (op, x) =>
                let c := if x.cause = 12 then c.wrCr0 36 (c.ksfInfo op)
                  else if x.cause = 7 then c.preciseArith (c.bundleFlights e pc succ run) else c
                (s.setCore g c).except g x.cause x.sub x.faddr
              | none => s.issueOk g b data

/-- One CCLK of a core at IS: the entry that its boundary calls for, the next element of a VLDS or VSTS, or the next
bundle. A core that is held, asleep or waiting in an entry does nothing. [Marks: DESIGN CHOICE (log entry 80)] -/
def State.issue (s : State) (g : Nat) (alone : Option (Slot × Op)) (fetch data : Ecc) : State :=
  if !(s.core g).live then s
  else
    let s := s.toBoundary g
    if (s.core g).vrun.isSome then s.stepRun g data false
    else match s.boundaryEntry g with
      | some s' => s'
      | none => s.issueAt g alone fetch data

/-- A bundle that holds one operation alone. [Marks: DEDUCED (log entry 79); DESIGN CHOICE (log entry 80)] -/
def State.issueOne (s : State) (g : CoreId) (sl : Slot) (op : Op) : Host.Outcome State Fault Refusal :=
  .next (s.issue g.val (some (sl, op)) .ok .ok)

end Sys2Proof.Machine
end

