-- ==== Sys2Proof/Machine/CoreEvents.lean ====
section
/-! DEFINITION. The events of a core outside its operations: commit, interrupts, halts, Keeper time, sleep and wake, key
loads, end of interrupt and locked sequences. -/

namespace Sys2Proof.Machine

/-- A bundle reaches IS (R141). -/
def execBundleIssue (g : CoreId) (fetch data : Ecc) (s : State) : Host.Outcome State Fault Refusal :=
  .next (s.issue g.val none fetch data)

/-- The effect of an error on a DMEM load that commits (R342, R343). [Marks: DEDUCED (log entry 15)] -/
def State.loadErr (s : State) (g : Nat) (f : Flight) (a : Word) (ecc : Ecc) : State × Flight :=
  match ecc with
  | .ok => (s, f)
  | .ce => (s.coreMemErr g 1 false a, f)
  | .ue =>
    let d := s.draw
    let d' := d.2.draw
    let s := d'.2.coreMemErr g 1 true a
    let c := (s.core g).wrCr0 44 a
    (s.setCore g { c with imp13 := some (1, a) }, { f with v0 := ⟨d.1, .both⟩, v1 := ⟨d'.1, .both⟩ })

/-- The oldest result that is due enters its register (R157); `ecc` is what the corrector found where it is a DMEM load. -/
def execResultCommit (g : CoreId) (ecc : Ecc) (s : State) : Host.Outcome State Fault Refusal :=
  let c := s.core g
  match c.flight with
  | [] => .next s
  | f :: fs =>
    if c.issueCyc < f.commit then .next s
    else
      let s := s.setCore g { c with flight := fs }
      let r := match f.dload with
        | some a => if f.live then s.loadErr g f a ecc else (s, f)
        | none => (s, f)
      .next (r.1.putCore g ((r.1.core g).commitFlight r.2))

/-! Interrupts (R319, R320) -/

/-- The source of ID i as core g sees it. -/
def idKey (g i : Nat) : Nat := if i < 32 then prKey g i else shKey (g / 8) i

/-- Source i is eligible for core g (R319). -/
def State.eligible (s : State) (g i : Nat) : Bool :=
  let k := idKey g i
  let cfg := s.rd (srcAddr k 0)
  cfg.fld SRC_CFG_ENABLE == 1 && s.srcPend k && !(s.src k).act
    && (decide (i < 32) || s.effTarget (g / 8) i == some (g % 8))
    && (match (s.core g).stack with
      | [] => true
      | t :: _ => decide (t.pri < cfg.fld SRC_CFG_PRI))

/-- The better of two IDs: higher PRI, then lower ID; the list is in ascending order of ID.
[Marks: DEDUCED (log entry 17)] -/
def State.bestId (s : State) (g : Nat) : List Nat → Option Nat
  | [] => none
  | i :: is =>
    match s.bestId g is with
    | none => some i
    | some j =>
      if (s.rd (srcAddr (idKey g i) 0)).fld SRC_CFG_PRI < (s.rd (srcAddr (idKey g j) 0)).fld SRC_CFG_PRI then some j
      else some i

/-- The source that the EVC presents to core g. [Marks: DEDUCED (log entry 17)] -/
def State.presented (s : State) (g : Nat) : Option Nat :=
  s.bestId g ((Sys2Proof.range 0 255).filter (fun i => s.eligible g i))

/-- The EVC's part of an acceptance: the ID delivered (R320). [Marks: DEDUCED (log entry 17)] -/
def State.accept (s : State) (g : Nat) : State × Nat :=
  match s.presented g with
  | some i =>
    let k := idKey g i
    let x := s.src k
    let pri := (s.rd (srcAddr k 0)).fld SRC_CFG_PRI
    let s := s.setSrc k { x with pend := false, act := true, owner := g % 8, occ := 0, win := none, fb := false }
    let c := s.core g
    (s.setCore g { c with stack := ⟨i, pri, x.occ⟩ :: c.stack }, i)
  | none => (s.inc64 (EVC_CNT (g / 8) (g % 8) 1), 255)

/-- A core accepts an interrupt at its next boundary: an entry that the boundary itself calls for goes first, and a request
that is no longer eligible is delivered as ID 255 (R298, R299, R320). [Marks: DEDUCED (log entry 17)] -/
def execInterruptAccept (g : CoreId) (s : State) : Host.Outcome State Fault Refusal :=
  if !(s.core g).live || !(s.core g).atBoundary then .next s
  else
    let t := s.toBoundary g
    match t.boundaryEntry g with
    | some t => .next t
    | none =>
      let c := t.core g
      if !c.asyncOk || !c.gie then .next s
      else
        let r := t.accept g
        let c := (r.1.core g).stopRun
        .next ((r.1.setCore g c).enter g ⟨true, r.2, 0, none, c.pc, none⟩)

/-- The Keeper time counter has passed KEEPER_LIMIT: an abort at the next boundary (R295, R296). -/
def execKeeperTimeLimit (g : CoreId) (s : State) : Host.Outcome State Fault Refusal :=
  let c := s.core g
  if !c.live || c.pl != 2 || !c.atBoundary then .next s
  else
    let t := (s.upTo (c.keeperAt + c.keeperLimit.toNat + 1)).toBoundary g
    match t.boundaryEntry g with
    | some t => .next t
    | none => .next (((t.setCore g (t.core g).breakLock).unlock g).keeperAbort g 31)

/-! Sleep and wake (R477 to R480) -/

/-- A wake condition: `why` is the bit of SLEEP_STAT that records it, 0 for the EVC, whose source is `src` (R478).
[Marks: DEDUCED (log entry 19)] -/
def State.wake (s : State) (g why : Nat) (src : Option Nat) : State :=
  match (s.core g).sleep with
  | none => s
  | some sl =>
    let s := s.upTo sl.at_
    let c := s.core g
    let aborted := decide (s.now = sl.at_)
    let ready := if aborted then sl.at_ + 1 else s.now + (if sl.depth = 2 then 800 else 8)
    let stat := (c.rdCr 11).v.toNat / 2 ^ 24 % 4 * 2 ^ 24 + b2n aborted * 2 ^ 31 + why
      + (match src with
        | some i => 2 ^ 8 + i % 256
        | none => 0)
    let s := s.setCore g { c.wrCr0 11 (BitVec.ofNat 32 stat) with sleep := none, ready := ready }
    match src with
    | some i => s.wr (AON_WSRC g) (BitVec.ofNat 32 (2 ^ 31 + i % 256))
    | none => s

/-- The Prism has chosen a core: one in LIGHT sleep is signalled (R479). -/
def State.prismWake (s : State) (g : Nat) : State :=
  match (s.core g).sleep with
  | some sl => if sl.depth = 1 then s.wake g (2 ^ 28) none else s
  | none => s

/-- The EVC presents to a sleeping core a source whose AON_WAKE bit is set: the core wakes (R330, R478). -/
def execCoreWake (g : CoreId) (s : State) : Host.Outcome State Fault Refusal :=
  if (s.core g).sleep.isNone then .next s
  else match s.presented g with
    | some i => if bitN (s.rd (AON_WAKE g (i / 32))).toNat (i % 32) then .next (s.wake g 0 (some i)) else .next s
    | none => .next s

/-- SLEEP_TMR MCLK have passed since the request cycle (R478). -/
def execSleepTimerExpire (g : CoreId) (s : State) : Host.Outcome State Fault Refusal :=
  let c := s.core g
  match c.sleep with
  | none => .next s
  | some sl =>
    let n := (c.rdCr 48).v.toNat
    if n = 0 then .next s else .next ((s.upTo (sl.at_ + 20 * n)).wake g (2 ^ 30) none)

/-- A Lens halt request: refused in DEPLOYED, a wake condition for a sleeping core, else accepted at the next boundary or
kept until it can be (R295, R299, R426, R478). [Marks: DEDUCED (log entry 19)] -/
def execLensHalt (g : CoreId) (s : State) : Host.Outcome State Fault Refusal :=
  if s.lcState = 2 then .next s.lensRefused
  else
    let c := s.core g
    if !c.run then .next s
    else
      let s := (s.setCore g { c with haltReq := true }).wake g (2 ^ 29) none
      if !(s.core g).live || !(s.core g).atBoundary then .next s
      else
        let t := s.toBoundary g
        match t.boundaryEntry g with
        | some t => .next t
        | none => .next s

/-! Key loads (R239 to R243) -/

/-- Empty every slot of a cluster that was loaded from context i (R242). -/
def State.retireCtx (s : State) (c i err : Nat) : State :=
  (Sys2Proof.range (8 * c) 8).foldl (fun (s : State) g =>
    let k := s.core g
    let k := (Sys2Proof.range 0 16).foldl (fun (k : Core) n =>
      let x := k.slot n
      if x.st ≠ 0 && x.idx == i then k.setSlot n { KeySlot.empty with loaderr := err } else k) k
    s.setCore g k) s

/-- The context of an index in a cluster's SKB. -/
def Cluster.ctx (x : Cluster) (i : Nat) : SkbCtx := x.skb.get SkbCtx.empty i
/-- Write a context. -/
def Cluster.setCtx (x : Cluster) (i : Nat) (v : SkbCtx) : Cluster := { x with skb := x.skb.set SkbCtx.empty i v }

/-- The slot that a load leaves (R239). -/
def loadedSlot (x : SkbCtx) (idx : Nat) (keeper : Bool) : KeySlot :=
  if !x.live then { KeySlot.empty with loaderr := 1 }
  else if x.keeper && !keeper then { KeySlot.empty with loaderr := 2 }
  else { KeySlot.empty with st := 2, key := x.key, h := x.h, ivb := x.ivb, dir := x.dir, idx := idx }

/-- The oldest KLOAD of a core completes (R239); an uncorrectable error has the vault retire the context and expand it
again (R343). While the zeroise engine holds the SKB no KLOAD completes (R239, R424). -/
def execKloadComplete (g : CoreId) (ecc : Ecc) (s : State) : Host.Outcome State Fault Refusal :=
  match (s.core g).kloads with
  | [] => .next s
  | l :: ls =>
    if s.vault.zeroAt ≠ 0 then .next s else
    let s := s.upTo (l.at_ + 20)
    let cl := g.val / 8
    let c := s.core g
    let x := (s.clu cl).ctx l.idx
    let c := { c with kloads := ls }
    let waiting := (c.slot l.ks).st == 1 && (c.slot l.ks).idx == l.idx
    let new := if ecc = .ue then { KeySlot.empty with loaderr := 3 } else loadedSlot x l.idx l.keeper
    let c := if waiting then c.setSlot l.ks new else c
    let s := s.setCore g (c.farIdle s.now)
    match ecc with
    | .ok => .next s
    | .ce => .next (s.skbErr cl false l.idx)
    | .ue =>
      let s := (s.skbErr cl true l.idx).retireCtx cl l.idx 3
      let y := s.clu cl
      let y := if x.live then { y.setCtx l.idx { x with live := false } with restore := y.restore ++ [l.idx] } else y
      .next (s.setClu cl y)

/-- End of interrupt: the write of EVC_EOI acts (R322). -/
def execEvcEoi (g : CoreId) (v : Word) (s : State) : Host.Outcome State Fault Refusal :=
  .next (s.evcEoi g (v.toNat % 256))

/-! Locked sequences (R358, R359, R367) -/

/-- A write of LOCKSEQ with the banks that a sequence's end releases. [Marks: DEDUCED (log entry 19)] -/
def State.lockWrite (s : State) (g v : Nat) : State :=
  let c := s.core g
  let s' := s.setCore g (c.lockWrite v)
  if c.lock.active && !(s'.core g).lock.active then s'.unlock g else s'

/-- BEGIN (R358). -/
def execLockseqBegin (g : CoreId) (s : State) : Host.Outcome State Fault Refusal := .next (s.lockWrite g 1)
/-- END (R358). -/
def execLockseqEnd (g : CoreId) (s : State) : Host.Outcome State Fault Refusal := .next (s.lockWrite g 2)

/-- 64 FCLK after its first acquisition a sequence is broken, and the next locked access raises cause 10 (R359).
[Marks: DEDUCED (log entry 19)] -/
def execLockseqTimeout (g : CoreId) (s : State) : Host.Outcome State Fault Refusal :=
  let l := (s.core g).lock
  if !l.active || l.first == 0 then .next s
  else
    let s := s.upTo (2 * (l.first - 1 + 64))
    let c := (s.core g).breakLock
    .next ((s.setCore g { c with lock := { c.lock with timedOut := true } }).unlock g)

end Sys2Proof.Machine
end

