-- ==== Sys2Proof/Machine/FrameFlow.lean ====
section
/-! DEFINITION. Times, rates, output lengths and slots of the ports, and what happens to a frame between the MAC and its core. -/

namespace Sys2Proof.Machine

/-! Times of TIMEBASE (R89) -/

/-- The time `a` is not later than `b`, modulo 2^32 (R89). -/
def wle (a b : Word) : Bool := (b - a).msb == false
/-- The later of two times. -/
def wmax (a b : Word) : Word := if wle a b then b else a
/-- The CCLK nearest to now that TIMEBASE shows as `t`. -/
def State.absTime (s : State) (t : Word) : Nat :=
  if wle s.timebase t then s.now + (t - s.timebase).toNat else s.now - (s.timebase - t).toNat
/-- n CCLK as a TIMEBASE difference. -/
def tw (n : Nat) : Word := BitVec.ofNat 32 n

/-! Port types and rates (R41, R117, R118, R122) -/

/-- The rate class of a supported TYPE, WIDTH and FEC; 0 for a combination that R41 does not list. -/
def rateClass (type width fec : Nat) : Nat :=
  match type, width, fec with
  | 1, 0, 0 => 10
  | 2, 0, 0 => 28
  | 2, 0, 1 => 28
  | 3, 0, 2 => 56
  | 4, 2, 1 => 28
  | 4, 1, 2 => 56
  | 4, 0, 2 => 112
  | 5, 2, 2 => 56
  | 5, 1, 2 => 112
  | 6, 3, 2 => 56
  | 6, 2, 2 => 112
  | 7, 3, 2 => 112
  | _, _, _ => 0

/-- Gbit/s of a TYPE (R117). -/
def typeRate (type : Nat) : Nat := nth 10 [10, 10, 25, 50, 100, 200, 400, 800] type
/-- RX_LAT in CCLK (R117). -/
def typeRxLat (type fec : Nat) : Nat :=
  if type = 2 ∧ fec = 1 then 760 else nth 240 [240, 240, 240, 560, 460, 460, 400, 400] type
/-- TX_LAT in CCLK (R117). -/
def typeTxLat (type fec : Nat) : Nat := if type ≤ 1 ∨ (type = 2 ∧ fec = 0) then 220 else 320
/-- CCLK to serialise n bytes at r Gbit/s (R118). -/
def ser (n r : Nat) : Nat := (16 * n + r - 1) / r
/-- The rate floor of R122. -/
def rateCyc (r : Nat) : Nat := (256 + r - 1) / r

def State.portType (s : State) (sd p : Nat) : Nat := s.fld (PORT_CFG sd p) PORT_CFG_TYPE
def State.portFec (s : State) (sd p : Nat) : Nat := s.fld (PORT_CFG sd p) PORT_CFG_FEC
def State.portMax (s : State) (sd p : Nat) : Nat := s.fld (PORT_CFG sd p) PORT_CFG_MAX_FRAME
def State.portRate (s : State) (sd p : Nat) : Nat := typeRate (s.portType sd p)
def State.rxLat (s : State) (sd p : Nat) : Nat := typeRxLat (s.portType sd p) (s.portFec sd p)
def State.txLat (s : State) (sd p : Nat) : Nat := typeTxLat (s.portType sd p) (s.portFec sd p)
def State.portOn (s : State) (sd p : Nat) : Bool := s.flag (PORT_CFG sd p) PORT_CFG_ENABLE
def State.linkUp (s : State) (sd p : Nat) : Bool := s.flag (PORT_STAT sd p) PORT_STAT_LINK_UP
/-- Lanes of a port (R62). -/
def State.portLanes (s : State) (sd p : Nat) : Nat := 2 ^ s.fld (PORT_CFG sd p) PORT_CFG_WIDTH
/-- Lane l belongs to port p (R43). -/
def State.owns (s : State) (sd p l : Nat) : Bool := decide (p ≤ l ∧ l < p + s.portLanes sd p)

/-- Count in a port counter of R65. -/
def State.portCount (s : State) (sd p k n : Nat) : State := s.add64 (PORT_CNT sd p k) n
/-- Set an event of a port. -/
def State.portEvt (s : State) (sd p : Nat) (f : Fld) : State :=
  s.evtSet (PORT_EVT sd p) (PORT_EVT_EN sd p) (16 * sd + p) f

/-! ZTF values in use, buckets and slots (R131, R132, R140) -/

/-- The egress partition of port q of side sd. -/
def State.eg (s : State) (sd q : Nat) : Egress := s.egr (pkey sd q)
def Egress.ztf (e : Egress) : Bool := e.cfg.fld ZTF_CFG_ZTF == 1
def Egress.tfc (e : Egress) : Bool := e.cfg.fld ZTF_CFG_TFC == 1
def Egress.tagged (e : Egress) : Bool := e.cfg.fld ZTF_CFG_TAGGED == 1
/-- Bytes of bucket b, from the two bucket words. -/
def bucketOf (b01 b23 : Word) (b : Nat) : Nat :=
  let w := if b < 2 then b01 else b23
  w.toNat / 2 ^ (16 * (b % 2)) % 65536
/-- Entry i of a schedule of four words. -/
def schedEnt (m : SMap Word) (i : Nat) : Nat := (m.get 0 (i / 16)).toNat / 2 ^ (2 * (i % 16)) % 4
def Egress.bucket (e : Egress) (b : Nat) : Nat := bucketOf e.b01 e.b23 b
/-- The bucket of slot i of the stream (R131). -/
def Egress.slotBucket (e : Egress) (i : Nat) : Nat := schedEnt e.sched (i % e.schedLen)
/-- Buckets that a schedule of n entries uses, in order of size. -/
def usedOf (m : SMap Word) (n : Nat) : List Nat :=
  (range 0 4).filter (fun b => (range 0 n).any (fun i => schedEnt m i == b))
def Egress.used (e : Egress) : List Nat := usedOf e.sched e.schedLen
/-- SLOT_CYC of a bucket of `bytes` at r Gbit/s (R131). [Marks: DEDUCED (log entry 30)] -/
def slotCycOf (bytes r : Nat) : Nat := 16 * (bytes + 20) / r + 1
/-- [Marks: DEDUCED (log entry 30)] -/
def Egress.slotCyc (e : Egress) (r b : Nat) : Nat := slotCycOf (e.bucket b) r
/-- CCLK of one cycle of the schedule. -/
def Egress.cycleLen (e : Egress) (r : Nat) : Nat :=
  ((range 0 e.schedLen).map (fun i => e.slotCyc r (e.slotBucket i))).foldl (· + ·) 0

/-- The smallest used bucket that holds a frame of length L (R132). [Marks: DEDUCED (log entry 28)] -/
def Egress.bucketFor (e : Egress) (l : Nat) : Option Nat :=
  e.used.find? (fun b => decide (l + (if e.tagged then 54 else 50) ≤ e.bucket b))

/-- The candidate buckets of a frame (R132). -/
def Egress.cand (e : Egress) (l : Nat) (provisional : Bool) : List Nat :=
  if provisional then e.used.filter (fun b => decide ((if e.tagged then 311 else 307) ≤ e.bucket b))
  else (e.bucketFor l).toList

/-- The first slot of bucket b that starts at or after CCLK t, from slot i at CCLK `at_`, in at most `fuel` slots. -/
def Egress.scan (e : Egress) (r b t : Nat) : Nat → Nat → Nat → Nat
  | 0, _, at_ => at_
  | fuel + 1, i, at_ =>
    if t ≤ at_ ∧ e.slotBucket i = b then at_
    else e.scan r b t fuel (i + 1) (at_ + e.slotCyc r (e.slotBucket i))

/-- next_slot(q, b, t) of R132, as CCLK: whole cycles of the schedule are skipped first. -/
def Egress.nextSlot (e : Egress) (r b t : Nat) : Nat :=
  let w := e.cycleLen r
  let skip := if w = 0 then 0 else (t - e.slotAt) / w
  e.scan r b t (2 * e.schedLen) e.slot (e.slotAt + skip * w)

/-- The longest time from any instant to the next slot start of bucket b (R140): the longest gap between two of its starts
in the cycle. [Marks: DEDUCED (log entry 30)] -/
def Egress.waitOf (e : Egress) (r b : Nat) : Nat :=
  let step (acc : Nat × Nat × Option Nat × Nat) (i : Nat) : Nat × Nat × Option Nat × Nat :=
    let (t, last, first, best) := acc
    let t' := t + e.slotCyc r (e.slotBucket i)
    if e.slotBucket i = b then
      match first with
      | none => (t', t, some t, best)
      | some f => (t', t, some f, max best (t - last))
    else (t', last, first, best)
  let z := (range 0 e.schedLen).foldl step (0, 0, none, 0)
  match z.2.2.1 with
  | none => 0
  | some f => max z.2.2.2 (z.1 - z.2.1 + f)

/-! Output length and latest start (R118, R120) -/

/-- OUT_L of a frame of length L that leaves by port q of side `out`, where its length decides it (R118). -/
def State.outLen (s : State) (out q fmt l : Nat) : Nat :=
  let e := s.eg out q
  if out = 0 then l
  else if fmt = 2 then
    if e.tfc then (e.bucketFor l).elim 0 e.bucket else l + (if e.tagged then 54 else 50)
  else l + 32

/-- CCLK of the egress line that the latest start keeps free (R120). -/
def State.lastCyc (s : State) (out q : Nat) (outL : Nat) (cand : List Nat) : Nat :=
  let e := s.eg out q
  let r := s.portRate out q
  if out = 1 && e.tfc then
    match cand with
    | [] => 0
    | b :: _ => e.slotCyc r b
  else ser (outL + 20) r

/-- A frame counts in OUT, and in its SA's counters (R109, R113). [Marks: DEDUCED (log entry 34)] -/
def State.countOut (s : State) (x : Frame) (n : Nat) : State :=
  (((s.ledger x.side x.port 1).inflight x.side x.port false).saCount x.sa 0).add64 (SA_CNT x.sa 1) n

/-! Cells towards the cluster (R101) -/

/-- The field of CLINK_STAT_c that holds the credits of a direction, and the one with its consecutive retries (R115). -/
def creditFld (k : Nat) : Fld := if k % 2 = 0 then CLINK_STAT_IN_CREDITS else CLINK_STAT_OUT_CREDITS
def runFld (k : Nat) : Fld := if k % 2 = 0 then CLINK_STAT_IN_RUN else CLINK_STAT_OUT_RUN

/-- Cells leave the sender while credits last and fewer than 32 are unacknowledged, at most `fuel` of them (R102, R104). -/
def State.linkFill (s : State) (k : Nat) : Nat → State
  | 0 => s
  | fuel + 1 =>
    let l := s.link k
    let a := CLINK_STAT (k / 2)
    let n := s.fld a (creditFld k)
    match l.queue with
    | [] => s
    | m :: ms =>
      if 32 ≤ l.sent.length ∨ n = 0 then s
      else
        let l := { l with queue := ms, sent := l.sent ++ [m], sentAt := if l.sent.isEmpty then max s.now l.replayAt else l.sentAt }
        ((s.setLink k l).setFld a (creditFld k) (n - 1)).linkFill k fuel

/-- A message enters the inbound or outbound direction of a cluster's link. -/
def State.linkPush (s : State) (k : Nat) (m : LMsg) : State :=
  let l := s.link k
  (s.setLink k { l with queue := l.queue ++ [m] }).linkFill k 1

/-- A cell of a frame follows the frame's decision: it waits in the Prism, is discarded with a refused frame, or goes to
the frame's cluster while the frame is there (R71, R101, R123). A spilled frame's cells stay in the Prism for its ring
message. -/
def State.sendCell (s : State) (f : Nat) (bytes : List Byte) (last : Bool) : State :=
  let x := s.frame f
  match x.stage with
  | .refused => s
  | .wait => s.setFrame f { x with pend := x.pend ++ [bytes] }
  | _ =>
    if x.spill.isSome then s.setFrame f { x with pend := x.pend ++ [bytes] }
    else if !x.atCore then s
    else (s.setFrame f { x with sent := x.sent + 1 }).linkPush (2 * (x.core / 8)) (.cell f x.sent bytes last)

/-- The end-of-frame correction of a frame admitted with its provisional length (R92, R120). A frame too long for every
bucket of its TFC port is dropped (R132). [Marks: DEDUCED (log entry 23)] -/
def State.endCorrect (s : State) (f : Nat) : State :=
  let x := s.frame f
  if x.prov = 0 then s
  else
    let blocks (l : Nat) : Nat := (l + 15) / 16
    let d := tw (x.pb * (blocks x.prov - blocks x.len))
    let s := if x.atCore then s.setTfree x.core (s.tfreeOf x.core - d) else s
    let out := 1 - x.side
    let q := x.eport
    let e := s.eg out q
    let tfc := out == 1 && e.tfc
    let r := s.portRate out q
    let outL := s.outLen out q x.fmt x.len
    let s := if tfc then s
      else
        let a := EGR_FREE out q
        s.wr a (s.rd a - tw (ser (x.outL + 20) r - ser (outL + 20) r))
    let latest := x.dl - tw (s.txLat out q) - tw (s.lastCyc out q outL (e.cand x.len false))
    let keep := (x.len + 64 + 255) / 256
    let s := s.setFrame f { x with prov := 0, c := if x.spill.isSome then x.c else x.c - d, latest := latest, outL := outL,
                                   cells := if x.cells = 0 then 0 else min keep x.cells }
    if tfc && (e.bucketFor x.len).isNone then s.drop f 7 else s

/-- A late discard of R51: counted, and the Prism drops the frame once it is admitted.
[Marks: DEDUCED (log entry 23)] -/
def State.lateDiscard (s : State) (sd p f : Nat) : State :=
  let s := (s.portCount sd p 7 1).portEvt sd p PORT_EVT_LATE_DISCARD
  let x := s.frame f
  match x.stage with
  | .refused => s.setFrame f Frame.none
  | .wait => s.setFrame f { x with discard := true, ended := true }
  | _ =>
    let s := s.setFrame f { x with discard := true, ended := true }
    let s := if x.atCore && x.spill.isNone then s.linkPush (2 * (x.core / 8)) (.arrival f true) else s
    s.drop f 1

end Sys2Proof.Machine
end

