-- ==== Sys2Proof/Machine/Sha.lean ====
section
/-! DEFINITION. SHA3-512, the one-step key derivation of SP 800-56C with it, and AES key wrap (R402, R410, R415, R518). -/

namespace Sys2Proof

/-- Rotation offsets of Keccak's ρ, lane x + 5y. -/
def keccakRho : List Nat :=
  [0, 1, 62, 28, 27, 36, 44, 6, 55, 20, 3, 10, 43, 25, 39, 41, 45, 15, 21, 8, 18, 2, 61, 56, 14]

/-- Round constants of Keccak's ι. -/
def keccakRc : List DWord :=
  [0x1, 0x8082, 0x800000000000808A, 0x8000000080008000, 0x808B, 0x80000001, 0x8000000080008081, 0x8000000000008009,
   0x8A, 0x88, 0x80008009, 0x8000000A, 0x8000808B, 0x800000000000008B, 0x8000000000008089, 0x8000000000008003,
   0x8000000000008002, 0x8000000000000080, 0x800A, 0x800000008000000A, 0x8000000080008081, 0x8000000000008080,
   0x80000001, 0x8000000080008008]

/-- One round of Keccak-f[1600] on 25 lanes. -/
def keccakRound (a : List DWord) (rc : DWord) : List DWord :=
  let at_ (l : List DWord) (x y : Nat) : DWord := nth 0 l (x % 5 + 5 * (y % 5))
  let c := (range 0 5).map (fun x => at_ a x 0 ^^^ at_ a x 1 ^^^ at_ a x 2 ^^^ at_ a x 3 ^^^ at_ a x 4)
  let d := (range 0 5).map (fun x => nth 0 c ((x + 4) % 5) ^^^ (nth 0 c ((x + 1) % 5)).rotateLeft 1)
  let t := (range 0 25).map (fun i => nth 0 a i ^^^ nth 0 d (i % 5))
  let b := (range 0 25).map (fun i =>
    let x := (i % 5 + 3 * (i / 5)) % 5
    let j := x + 5 * (i % 5)
    (nth 0 t j).rotateLeft (nth 0 keccakRho j))
  let e := (range 0 25).map (fun i =>
    let x := i % 5
    let y := i / 5
    at_ b x y ^^^ (~~~ at_ b (x + 1) y &&& at_ b (x + 2) y))
  match e with
  | l :: ls => (l ^^^ rc) :: ls
  | [] => []

/-- Keccak-f[1600]. -/
def keccakF (a : List DWord) : List DWord := keccakRc.foldl keccakRound a

/-- Absorb blocks of 72 bytes. -/
def sha3Absorb : Nat → List Byte → List DWord → List DWord
  | 0, _, a => a
  | n + 1, bs, a =>
    let block := (range 0 9).map (fun i => BitVec.ofNat 64 (leNat ((bs.drop (8 * i)).take 8)))
    let a' := (range 0 25).map (fun i => nth 0 a i ^^^ nth 0 block i)
    sha3Absorb n (bs.drop 72) (keccakF a')

/-- The padding of SHA3-512 for a message of n bytes. -/
def sha3Pad (n : Nat) : List Byte :=
  let k := 72 - n % 72
  if k = 1 then [0x86] else 0x06 :: (List.replicate (k - 2) 0 ++ [0x80])

/-- SHA3-512 of a byte string, as 64 bytes. -/
def sha3Bytes (bs : List Byte) : List Byte :=
  let p := bs ++ sha3Pad bs.length
  let a := sha3Absorb (p.length / 72) p (List.replicate 25 0)
  ((range 0 8).map (fun i => toLE 8 (nth 0 a i).toNat)).flatten

/-- SHA3-512 as a number, first byte most significant. -/
def sha3 (bs : List Byte) : BitVec 512 := BitVec.ofNat 512 (beNat (sha3Bytes bs))

/-- Option 1 of the one-step KDF of SP 800-56C with H = SHA3-512: n bytes (R415). -/
def kdf (z info : List Byte) (n : Nat) : List Byte :=
  (((range 1 ((n + 63) / 64)).map (fun i => sha3Bytes (toBE 4 i ++ z ++ info))).flatten).take n

/-- One pass of AES key wrap (SP 800-38F). -/
def kwWrapPass (key : List Nat) : Nat → List Nat → List (List Nat) → List (List Nat) → List Nat × List (List Nat)
  | _, a, [], done => (a, done.reverse)
  | t, a, r :: rs, done =>
    let b := aesEnc key (a ++ r)
    kwWrapPass key (t + 1) (xorL (b.take 8) ((toBE 8 t).map BitVec.toNat)) rs (b.drop 8 :: done)

/-- The six passes of AES key wrap. -/
def kwWrapPasses (key : List Nat) (n : Nat) : Nat → Nat → List Nat → List (List Nat) → List Nat × List (List Nat)
  | 0, _, a, rs => (a, rs)
  | k + 1, j, a, rs =>
    let r := kwWrapPass key (n * j + 1) a rs []
    kwWrapPasses key n k (j + 1) r.1 r.2

/-- A number as 32 key bytes, first byte most significant. -/
def keyBytes (k : BitVec 256) : List Nat := (toBE 32 k.toNat).map BitVec.toNat

/-- AES key wrap of a string of 8-byte blocks, with the default ICV. -/
def aesWrap (key : BitVec 256) (bs : List Byte) : List Byte :=
  let n := bs.length / 8
  let r := kwWrapPasses (keyBytes key) n 6 0 (List.replicate 8 0xA6) (chunks 8 n (bs.map BitVec.toNat))
  (r.1 ++ r.2.flatten).map (BitVec.ofNat 8)

/-- AES key unwrap of a byte string; none where the check value is wrong. -/
def aesUnwrapBytes (key : BitVec 256) (bs : List Byte) : Option (List Byte) :=
  (aesUnwrap (keyBytes key) (bs.map BitVec.toNat) (bs.length / 8 - 1)).map (fun l => l.map (BitVec.ofNat 8))

end Sys2Proof
end

