-- ==== Sys2Proof/Machine/RingOps.lean ====
section
/-! DEFINITION. Sending on the Tertos ring: credits, replay, turns and datelines, and the replication of leases. -/

namespace Sys2Proof.Machine

def rportN : RPort → Nat
  | .east => 0
  | .west => 1

def State.rp (s : State) (d : Nat) : RPortSt := s.rport.get RPortSt.reset d
def State.setRp (s : State) (d : Nat) (x : RPortSt) : State := { s with rport := s.rport.set RPortSt.reset d x }
/-- RPORT_STAT.STATE: 0 DOWN, 1 TRAINING, 2 AUTH, 3 UP, 4 LOST, 5 FENCED (R507). -/
def State.rpState (s : State) (d : Nat) : Nat := s.fld (RPORT_STAT d) RPORT_STAT_STATE
def State.setRpState (s : State) (d n : Nat) : State := s.setFld (RPORT_STAT d) RPORT_STAT_STATE n
def State.wrapped (s : State) (d : Nat) : Bool := s.flag (RPORT_STAT d) RPORT_STAT_WRAPPED
def State.nodeId (s : State) : Nat := s.fld RING_CFG RING_CFG_NODE
/-- Set an event of R526. -/
def State.ringEvt (s : State) (f : Fld) : State := s.evtSet RING_EVT RING_EVT_EN 59 f

/-- Flits of a message: 224 payload bytes each (R499, R514). [Marks: DESIGN CHOICE (log entry 64)] -/
def flitsOf : RBody → Nat
  | .spill _ b _ => (64 + b.length + 223) / 224
  | .result _ b _ => (64 + b.length + 223) / 224
  | _ => 1

/-- The credit pool of a message: data or control, by dateline class (R501, R505). -/
def poolOf (b : RBody) (dl : Bool) : Nat :=
  let base := match b with
    | .spill _ _ _ => 0
    | .result _ _ _ => 0
    | _ => 2
  base + b2n dl

/-- The replay buffer's flits. -/
def RPortSt.unacked (p : RPortSt) : Nat := (p.replay.map (fun x => x.n)).foldl (· + ·) 0

/-- A message can be sent now: credits of its pool, and room in the replay buffer (R504, R505).
[Marks: DESIGN CHOICE (log entry 64)] -/
def RPortSt.fits (p : RPortSt) (m : RMsg) : Bool :=
  let n := flitsOf m.body
  decide (n ≤ nth 0 p.credits (poolOf m.body m.dl)) && decide (p.unacked + n ≤ 512)

/-- The message that the port sends next: the oldest control message that fits, else the oldest data message (R505).
[Marks: DESIGN CHOICE (log entry 64)] -/
def RPortSt.pick (p : RPortSt) : Option RMsg :=
  let first (data : Bool) : Option RMsg := p.queue.find? (fun m => decide (poolOf m.body m.dl < 2) == data)
  match (first false).filter p.fits with
  | some m => some m
  | none => (first true).filter p.fits

/-- The pool whose owed credits ride on the next flit, and how many: CR_SEL is bit 48 VC, bit 47 class (R500).
[Marks: DESIGN CHOICE (log entry 64)] -/
def RPortSt.crRide (p : RPortSt) : Nat × Nat :=
  let i := ((range 0 4).find? (fun i => nth 0 p.owed i != 0)).getD 0
  (i, min (nth 0 p.owed i) 255)

/-- One message leaves a port. [Marks: DESIGN CHOICE (log entry 64)] -/
def State.ringEmit (s : State) (d : Nat) (m : RMsg) : State :=
  let p := s.rp d
  let n := flitsOf m.body
  let cr := p.crRide
  let h : FlitHdr := ⟨m.dl, BitVec.ofNat 8 m.dest, BitVec.ofNat 8 m.src, BitVec.ofNat 12 p.txNum, BitVec.ofNat 12 p.rxNum,
    p.nack, BitVec.ofNat 2 cr.1, BitVec.ofNat 8 cr.2⟩
  let i := poolOf m.body m.dl
  let p' := { p with
    queue := p.queue.erase m, txNum := p.txNum + n, nack := false,
    replay := p.replay ++ [⟨h, m.body, n, s.now⟩],
    credits := setNth p.credits i (nth 0 p.credits i - n), owed := setNth p.owed cr.1 (nth 0 p.owed cr.1 - cr.2) }
  (((s.setRp d p').add64 (RPORT_CNT d 0) n)).emit (.ring d h m.body)

/-- Send what can be sent, at most `fuel` messages. [Marks: DESIGN CHOICE (log entry 64)] -/
def State.ringPump (s : State) (d : Nat) : Nat → State
  | 0 => s
  | fuel + 1 =>
    if s.rpState d ≠ 3 then s
    else match (s.rp d).pick with
      | none => s
      | some m => (s.ringEmit d m).ringPump d fuel

/-- The last ADVERT of a node that has arrived within the last 40 µs (R511). -/
def State.advertOf (s : State) (n : Nat) : Option Advert :=
  match s.ring.adverts.get none n with
  | some (t, a) => if s.now + 1 ≤ t + 80000 then some a else none
  | none => none

/-- The node is reached (R511). [Marks: DEDUCED (log entry 66)] -/
def State.reached (s : State) (n : Nat) : Bool := (s.advertOf n).isSome
/-- The nodes reached. [Marks: DEDUCED (log entry 66)] -/
def State.reachedNodes (s : State) : List Nat := s.ring.adverts.keys.filter s.reached

/-- A whole ring: both ports of this device and of every device reached are UP, none wrapped (R506).
[Marks: DEDUCED (log entry 66)] -/
def State.ringWhole (s : State) : Bool :=
  s.rpState 0 == 3 && s.rpState 1 == 3 && !s.wrapped 0 && !s.wrapped 1
    && s.reachedNodes.all (fun n => match s.advertOf n with
      | some a => a.stE == 3 && a.stW == 3 && !a.wrapE && !a.wrapW
      | none => true)

/-- The NODE of another device that its ADVERT shows with a wrapped port. [Marks: DEDUCED (log entry 66)] -/
def State.otherWrap (s : State) : Option Nat :=
  s.reachedNodes.find? (fun n => match s.advertOf n with
    | some a => a.wrapE || a.wrapW
    | none => false)

/-- The active dateline is the east link of this device (R506). -/
def State.datelineEast (s : State) : Bool := s.ringWhole && s.flag RING_CFG RING_CFG_DATELINE
/-- The active dateline is the turn at this device (R506). -/
def State.datelineTurn (s : State) : Bool :=
  match s.otherWrap with
  | some y => decide (s.nodeId < y)
  | none => true

/-- A message leaves in direction d: by port d while it is UP, else turned while that port is wrapped, else discarded; an
ADVERT or a LOSS is never turned (R506, R511, R512). -/
def State.ringSend (s : State) (d dest src : Nat) (dl : Bool) (body : RBody) : State :=
  let turns := match body with
    | .advert _ => false
    | .loss _ => false
    | _ => true
  let put (s : State) (d : Nat) (dl : Bool) : State :=
    let p := s.rp d
    let q := p.queue ++ [⟨body, dest, src, dl⟩]
    (s.setRp d { p with queue := q }).ringPump d q.length
  if s.rpState d = 3 then put s d (dl || (d == 0 && s.datelineEast))
  else if s.wrapped d && turns && s.rpState (1 - d) == 3 then put s (1 - d) (dl || s.datelineTurn)
  else s

/-- This device originates a message. -/
def State.ringOwn (s : State) (d dest : Nat) (body : RBody) : State := s.ringSend d dest s.nodeId false body

/-- A message refused at the ring port for a word with K (R277). -/
def State.ringRefused (s : State) : State :=
  (s.inc64 (TINT_CNT 2)).evtSet TINT_EVT TINT_EVT_EN 35 TINT_EVT_RING

/-! Replication (R517 to R520) -/

def State.replMode (s : State) (sa : Nat) : Nat := s.fld (REPL_STAT sa) REPL_STAT_MODE
def State.replDir (s : State) (sa : Nat) : Nat := s.fld (REPL_STAT sa) REPL_STAT_RING_DIR
/-- [Marks: DEDUCED (log entry 66)] -/
def State.replPeer (s : State) (sa : Nat) : Nat := s.fld (REPL_STAT sa) REPL_STAT_PEER

/-- The key's wrapped plaintext: KW under KEK_REPL of the 48 bytes of R410 (R518). -/
def State.wrapForRepl (s : State) (sa : Nat) (k : Bool) : Option (List Byte) :=
  match s.vault.keys.get none (2 * sa + b2n k), s.root.kekRepl with
  | some c, some kek =>
    some (aesWrap kek (toBE 32 c.key.toNat ++ toBE 12 c.salt.toNat ++ toBE 4 c.ssci.toNat))
  | _, _ => none

/-- Send a REPL message for key k of a MODE 1 SA; `full` sends the key itself (R518, R519). -/
def State.replSend (s : State) (sa : Nat) (k full resync : Bool) (pn : Nat) : State :=
  let w := s.rd (SA_KEY sa)
  let q := s.ring.seqOf.get 0 sa
  let m : ReplMsg := {
    sa := BitVec.ofNat 12 sa, seq := BitVec.ofNat 32 q, resync := resync, key := k,
    an := BitVec.ofNat 2 (w.fld (if k then SA_KEY_AN1 else SA_KEY_AN0)),
    kv := w.fld (if k then SA_KEY_KV1 else SA_KEY_KV0) == 1, active := w.fld SA_KEY_ACTIVE == b2n k,
    limit := BitVec.ofNat 64 (s.rd64 (SA_PN_LIMIT sa (b2n k))), pn := BitVec.ofNat 64 pn,
    wrapped := if full then s.wrapForRepl sa k else none }
  let s := { s with ring := { s.ring with seqOf := s.ring.seqOf.set 0 sa (q + 1) } }
  s.ringOwn (s.replDir sa) (s.replPeer sa) (.repl m)

/-- The lease limit of key k holds: MODE 1, encrypt, its protect device not suspended (R519, R520). -/
def State.leased (s : State) (sa : Nat) : Bool :=
  s.replMode sa == 1 && s.pfld (SA_CFG sa) SA_CFG_DIR == 0 && !s.ring.suspended.contains sa

/-- L_ACK of key k; 0 while no lease has been acknowledged. -/
def State.leaseAck (s : State) (i : Nat) : Nat := s.ring.lack.get 0 i - 1

/-- Send a new lease when NEXT_PN has come within half a lease of L_ACK and none is outstanding (R519).
[Marks: DEDUCED (log entry 68)] -/
def State.leaseCheck (s : State) (sa : Nat) (k : Bool) (np : Nat) : State :=
  let i := 2 * sa + b2n k
  let shift := s.fld RING_REPLR RING_REPLR_LEASE_SHIFT
  if !s.leased sa || s.ring.leaseOut.get 0 i != 0 || decide (np + 2 ^ (shift - 1) < s.leaseAck i) then s
  else
    let l := np + 2 ^ shift
    let q := s.ring.seqOf.get 0 sa
    let s := { s with ring := { s.ring with
      leaseOut := s.ring.leaseOut.set 0 i (l + 1), leaseSeq := s.ring.leaseSeq.set 0 i q } }
    s.replSend sa k false false l

/-- Replicate key k of a MODE 1 SA whole: with a new lease for an encrypt SA, with its next PN for a decrypt SA
(R518, R519). [Marks: DEDUCED (log entry 68)] -/
def State.replKey (s : State) (sa : Nat) (k resync : Bool) : State :=
  let i := 2 * sa + b2n k
  let np := s.rd64 (SA_NEXT_PN sa (b2n k))
  if s.fld (SA_CFG sa) SA_CFG_DIR = 0 then
    let l := np + 2 ^ s.fld RING_REPLR RING_REPLR_LEASE_SHIFT
    let q := s.ring.seqOf.get 0 sa
    let s := { s with ring := { s.ring with
      leaseOut := s.ring.leaseOut.set 0 i (l + 1), leaseSeq := s.ring.leaseSeq.set 0 i q } }
    s.replSend sa k true resync l
  else
    let s := { s with ring := { s.ring with pnSent := s.ring.pnSent.set 0 i np, pnAt := s.ring.pnAt.set 0 i 0 } }
    s.replSend sa k true resync np

/-- The next PN of key k of a MODE 1 decrypt SA is sent (R519). [Marks: DEDUCED (log entry 68)] -/
def State.replPn (s : State) (sa : Nat) (k : Bool) : State :=
  let i := 2 * sa + b2n k
  let np := s.rd64 (SA_NEXT_PN sa (b2n k))
  let s := { s with ring := { s.ring with pnSent := s.ring.pnSent.set 0 i np, pnAt := s.ring.pnAt.set 0 i 0 } }
  s.replSend sa k false false np

/-- The key of a decrypt SA has advanced (R519): its next PN goes out after 4,096, and falls due after a smaller advance. -/
def State.replAdvance (s : State) (sa : Nat) (k : Bool) : State :=
  let i := 2 * sa + b2n k
  if s.replMode sa ≠ 1 then s
  else if s.ring.pnSent.get 0 i + 4096 ≤ s.rd64 (SA_NEXT_PN sa (b2n k)) then s.replPn sa k
  else if s.ring.pnAt.get 0 i = 0 then { s with ring := { s.ring with pnAt := s.ring.pnAt.set 0 i (s.now + 1) } }
  else s

/-! Spill (R514) -/

/-- The tint of word w of a frame that its cluster writes (R262, R263, R503).
[Marks: DESIGN CHOICE (log entry 29)] -/
def Frame.inTint (x : Frame) (w : Nat) : Tint :=
  if x.taken.isSome then ⟨false, nth false x.rmask w⟩
  else if x.side = 0 && x.putty.isNone && x.taken.isNone && decide (x.clear < 8 * w + 8) then .onlyR else .clean

/-- A spilled frame that has ended leaves the Prism as a SPILL message. [Marks: DESIGN CHOICE (log entry 29)] -/
def State.spillSend (s : State) (f : Nat) : State :=
  let x := s.frame f
  match x.spill with
  | none => s
  | some d =>
    if !x.ended || x.discard || x.drop != 0 || x.pend.isEmpty then s
    else
      let h : SpillHdr := {
        dir := x.side == 1, sa := BitVec.ofNat 12 x.sa, key := x.key, an := BitVec.ofNat 2 x.an, cls := BitVec.ofNat 6 x.cls,
        result := 0, ftag := BitVec.ofNat 32 x.ftag, len := BitVec.ofNat 16 x.len, outLen := 0,
        pn := BitVec.ofNat 64 x.pn, origin := BitVec.ofNat 8 s.nodeId }
      let bytes := x.pend.flatten
      let rmask := (range 0 ((bytes.length + 7) / 8)).map (fun w => (x.inTint w).r)
      (s.setFrame f { x with pend := [] }).ringOwn d (s.fld (RING_SPILL_DIR d) RING_SPILL_DIR_TARGET) (.spill h bytes rmask)

/-! Port states (R507) -/

/-- A port begins to train, or is DOWN while RING_CFG.EN is 0. -/
def State.rpTrain (s : State) (d : Nat) : State :=
  let p := s.rp d
  let s := s.setRp d { RPortSt.reset with pcs := p.pcs, pcsAt := p.pcsAt }
  s.setRpState d (if s.flag RING_CFG RING_CFG_EN then 1 else 0)

/-- A change of SA_KEY_s: STOPPED clears, and a MODE 1 SA's keys that changed are replicated (R85, R518). -/
def State.saKeyWrite (s : State) (sa : Nat) (v : Word) : State :=
  let a := SA_KEY sa
  let old := s.rd a
  let s := (s.logWrite a).logWrite (SA_STAT sa)
  let s := (s.wr a (v &&& 0xEF0FFFFF)).setFlag (SA_STAT sa) SA_STAT_STOPPED false
  let new := s.rd a
  let diff (fs : List Fld) : Bool := fs.any (fun f => old.fld f != new.fld f)
  if s.replMode sa ≠ 1 then s
  else
    let s := if diff [SA_KEY_ACTIVE, SA_KEY_KV0, SA_KEY_AN0, SA_KEY_SKB0] then s.replKey sa false false else s
    if diff [SA_KEY_ACTIVE, SA_KEY_KV1, SA_KEY_AN1, SA_KEY_SKB1] then s.replKey sa true false else s

end Sys2Proof.Machine
end

