-- ==== Sys2Proof/Machine/Line.lean ====
section
/-! DEFINITION. The line ports: enabling and draining, links, reception, transmission, lane and quad fences. -/

namespace Sys2Proof.Machine

/-! Enabling a port (R45, R63, R112) -/

/-- The checks of an enable in the order of CFG_ERR; 0 when all pass. [Marks: DEDUCED (log entry 22)] -/
def State.cfgErr (s : State) (sd p : Nat) : Nat :=
  let type := s.portType sd p
  let width := s.fld (PORT_CFG sd p) PORT_CFG_WIDTH
  let rc := rateClass type width (s.portFec sd p)
  let w := s.portLanes sd p
  let lanes := range p w
  let others := (range 0 16).filter (fun q => q != p && s.portOn sd q)
  let rcOf (q : Nat) : Nat := rateClass (s.portType sd q) (s.fld (PORT_CFG sd q) PORT_CFG_WIDTH) (s.portFec sd q)
  let touch (q : Nat) : Bool := lanes.any (fun l => (range q (s.portLanes sd q)).any (fun m => m / 4 == l / 4))
  let max := s.portMax sd p
  let cells (q : Nat) : Nat := s.fld (PRM_BUF sd q) PRM_BUF_BUF_CELLS
  let slots (q : Nat) : Nat := s.fld (RSQ_PORT_CFG sd q) RSQ_PORT_CFG_DESC_SLOTS
  let sum (f : Nat → Nat) : Nat := ((range 0 16).map f).foldl (· + ·) 0
  if rc = 0 then 1
  else if p % w ≠ 0 then 2
  else if others.any (fun q => lanes.any (fun l => s.owns sd q l)) then 3
  else if others.any (fun q => touch q && rcOf q != rc) then 4
  else if max < 64 ∨ 10240 < max then 5
  else if 256 * cells p < 2 * max + 256 ∨ 4096 < sum cells ∨ 262144 < sum slots ∨ cells p = 0 ∨ slots p = 0 then 6
  else if lanes.any (fun l => s.flag (LANE_CFG sd l) LANE_CFG_FENCE || s.flag (QUAD_CTL sd (l / 4)) QUAD_CTL_FENCE) then 7
  else 0

/-- TX_IDLE of a port's lanes (R55, R67). -/
def State.txIdle (s : State) (sd p : Nat) (b : Bool) : State :=
  (range p (s.portLanes sd p)).foldl (fun (s : State) l => s.setFlag (LANE_STAT sd l) LANE_STAT_TX_IDLE b) s

/-- A write of PORT_CFG whose ENABLE is 1, to a port that is not enabled (R45): the configuration fields of the same write
are taken first, unless LINE_LOCK freezes them (R69). [Marks: DEDUCED (log entry 22)] -/
def State.enablePort (s : State) (sd p : Nat) (v : Word) : State :=
  let a := PORT_CFG sd p
  let m : Word := 0x0FFFCF33
  let s := if s.flag (LINE_LOCKR sd) LINE_LOCKR_LOCK then s else s.wr a ((s.rd a &&& ~~~ m) ||| (v &&& m))
  let err := s.cfgErr sd p
  let s := s.setFld (PORT_STAT sd p) PORT_STAT_CFG_ERR err
  if err ≠ 0 then s
  else
    let s := (s.setFlag a PORT_CFG_ENABLE true).setFlag (PORT_STAT sd p) PORT_STAT_DRAINED false
    { s.txIdle sd p false with cut := s.cut.set 0 (pkey sd p) 0 }

/-- ENABLE goes from 0 to 1 (R45). -/
def execPortEnable (sd : Side) (p : PortId) (v : Word) (s : State) : Host.Outcome State Fault Refusal :=
  if s.portOn (sideN sd) p || !v.getLsbD 31 then .next s else .next (s.enablePort (sideN sd) p v)

/-! Reception (R47 to R52) -/

/-- The partly received frame of a port is discarded and counted in RX_PCS_ERR; handed over, it is a late discard too. A
frame already discarded as oversize has been counted (R47 to R49, R51). [Marks: DEDUCED (log entry 21)] -/
def State.rxAbort (s : State) (sd p : Nat) : State :=
  let x := s.rxOf (pkey sd p)
  let s := s.setRx (pkey sd p) Rx.idle
  if x = Rx.idle then s
  else if x.oversize then
    match x.fid with
    | some f => s.prune f
    | none => s
  else
    let s := s.portCount sd p 2 1
    match x.fid with
    | some f => s.lateDiscard sd p f
    | none => s

/-- ENABLE goes from 1 to 0 (R47). -/
def State.disablePort (s : State) (sd p : Nat) : State :=
  (s.rxAbort sd p).setFlag (PORT_CFG sd p) PORT_CFG_ENABLE false

/-- ENABLE is cleared (R47). -/
def execPortDisable (sd : Side) (p : PortId) (s : State) : Host.Outcome State Fault Refusal :=
  if s.portOn (sideN sd) p then .next (s.disablePort (sideN sd) p) else .next s

/-- Admitted frames of an egress port that are neither out nor dropped. -/
def State.portFrames (s : State) (sd p : Nat) : List Nat :=
  s.framesWith (fun x => decide (x.side = 1 - sd ∧ x.eport = p ∧ x.drop = 0) && (x.stage == .admitted || x.stage == .released)
    && x.putty.isNone && x.taken.isNone)

/-- LINK_UP falls: counted, and the port's admitted frames are dropped with a reason (R57, R65). -/
def State.linkFall (s : State) (sd p code : Nat) : State :=
  let was := s.linkUp sd p
  let s := s.setFlag (PORT_STAT sd p) PORT_STAT_LINK_UP false
  let s := if was then (s.portCount sd p 15 1).portEvt sd p PORT_EVT_LINK_DOWN else s
  if was || code == 5 then (s.portFrames sd p).foldl (fun (s : State) f => s.drop f code) s else s

/-- The receiver of a port loses its locks (R63, R67). -/
def State.unlockRx (s : State) (sd p : Nat) : State :=
  ((s.setFlag (PORT_STAT sd p) PORT_STAT_PCS_LOCK false).setFlag (PORT_STAT sd p) PORT_STAT_FEC_LOCK false).setFld
    (PORT_STAT sd p) PORT_STAT_LANE_LOCK 0

/-- The last admitted frame has left a disabled port: DRAINED, electrical idle, and the slot stream ends (R47, R136).
[Marks: DEDUCED (log entry 22)] -/
def execPortDrained (sd : Side) (p : PortId) (s : State) : Host.Outcome State Fault Refusal :=
  let d := sideN sd
  if s.portOn d p || s.flag (PORT_STAT d p) PORT_STAT_DRAINED || !(s.portFrames d p).isEmpty then .next s
  else
    let s := (s.linkFall d p 6).unlockRx d p
    let s := (s.setFlag (PORT_STAT d p) PORT_STAT_DRAINED true).txIdle d p true
    let s := if d = 1 then s.setFlag (ZTF_STAT p) ZTF_STAT_RUNNING false else s
    .next (s.setEgr (pkey d p) { s.eg d p with streamAt := 0 })

/-- Every condition of R63 holds on an enabled port that no fence holds down: the link is up.
[Marks: DEDUCED (log entry 22)] -/
def execLinkUp (sd : Side) (p : PortId) (s : State) : Host.Outcome State Fault Refusal :=
  let d := sideN sd
  let a := PORT_STAT d p
  if !s.portOn d p || s.flag a PORT_STAT_FENCED || s.cut.get 0 (pkey d p) == 1 || s.linkUp d p then .next s
  else
    let w := s.portLanes d p
    let s := (((s.setFlag a PORT_STAT_LINK_UP true).setFlag a PORT_STAT_PCS_LOCK true).setFlag a PORT_STAT_FEC_LOCK true).setFld
      a PORT_STAT_LANE_LOCK (2 ^ w - 1)
    let s := (range p w).foldl (fun (s : State) l =>
      let b := LANE_STAT d l
      let s := ((s.setFlag b LANE_STAT_SIG_DET true).setFlag b LANE_STAT_CDR_LOCK true).setFlag b LANE_STAT_CAL_DONE true
      (s.setFlag (QUAD_CTL d (l / 4)) QUAD_CTL_PLL_LOCK true).setFlag (QUAD_CTL d (l / 4)) QUAD_CTL_CAL_DONE true) s
    .next (s.portEvt d p PORT_EVT_LINK_UP)

/-- A link falls: local fault by loss of lock or by hi_ber, or Remote Fault received (R55, R57, R63, R64). -/
def execLinkDown (sd : Side) (p : PortId) (cause : DownCause) (s : State) : Host.Outcome State Fault Refusal :=
  let d := sideN sd
  if !s.linkUp d p then .next s
  else match cause with
    | .remote => .next ((s.linkFall d p 6).portEvt d p PORT_EVT_REMOTE_FAULT)
    | .hiBer => .next (((s.linkFall d p 6).rxAbort d p).portEvt d p PORT_EVT_HI_BER)
    | .lock => .next (((s.linkFall d p 6).rxAbort d p).unlockRx d p)

/-- A port's receiver takes frames: enabled, aligned, and not fenced (R47, R55, R58). -/
def State.receives (s : State) (sd p : Nat) : Bool :=
  s.portOn sd p && s.flag (PORT_STAT sd p) PORT_STAT_PCS_LOCK && !s.flag (PORT_STAT sd p) PORT_STAT_FENCED

/-- A MAC control frame (R48). [Marks: DEDUCED (log entry 21)] -/
def isMacCtrl (bs : List Byte) : Bool := nth 0 bs 12 == 0x88 && nth 0 bs 13 == 0x08

/-- The first cell reaches the Prism: the frame enters the table and the ledger's IN (R51, R71, R109).
[Marks: DEDUCED (log entry 21)] -/
def State.handOver (s : State) (sd p : Nat) (cell : List Byte) (ended : Bool) : State × Nat :=
  let f := s.nextFid
  let x : Frame := { Frame.none with
    side := sd, port := p, at_ := s.now, len := cell.length, fc := cell.length, ended := ended, pend := [cell], stage := .wait }
  (({ s with nextFid := f + 1 }.setFrame f x).ledger sd p 0, f)

/-- A 256-byte cell has arrived: the first is handed to the Prism, a later one follows it; byte MAX_FRAME + 1 makes the
frame oversize and the rest of it is discarded (R49, R51). [Marks: DEDUCED (log entry 21)] -/
def execRxCell (sd : Side) (p : PortId) (cell : List Byte) (s : State) : Host.Outcome State Fault Refusal :=
  let d := sideN sd
  let k := pkey d p
  let x := s.rxOf k
  if !s.receives d p || cell.length != 256 || x.oversize then .next s
  else
    let bytes := x.bytes ++ cell
    if s.portMax d p < bytes.length then
      let s := s.setRx k { x with bytes := [], oversize := true }
      let s := s.portCount d p (if x.bad then 2 else 4) 1
      match x.fid with
      | some f => .next (s.lateDiscard d p f)
      | none => .next s
    else
      let x := { x with bytes := bytes }
      match x.fid with
      | some f =>
        let y := s.frame f
        .next (((s.setFrame f { y with len := bytes.length }).sendCell f cell false).setRx k x)
      | none =>
        if bytes.length ≠ 256 || x.bad || isMacCtrl bytes then .next (s.setRx k x)
        else
          let h := s.handOver d p cell false
          .next (h.1.setRx k { x with fid := some h.2 })

/-- The check of R48 that a whole frame fails, as the index of its counter; 0 when it passes.
[Marks: DEDUCED (log entry 21)] -/
def rxCheck (bytes : List Byte) (bad : Bool) (max : Nat) : Nat :=
  let n := bytes.length
  if bad then 2
  else if n < 64 then 3
  else if max < n then 4
  else if bytes.drop (n - 4) ≠ toLE 4 (crc32 (bytes.take (n - 4))) then 5
  else if isMacCtrl bytes then 6
  else 0

/-- A received frame ends: `tail` holds its bytes since the last full cell, `bad` an error control character or invalid
block (R48, R51, R92). [Marks: DEDUCED (log entries 21, 23)] -/
def execRxFrameEnd (sd : Side) (p : PortId) (tail : List Byte) (bad : Bool) (s : State) : Host.Outcome State Fault Refusal :=
  let d := sideN sd
  let k := pkey d p
  let x := s.rxOf k
  if !s.receives d p || decide (256 < tail.length) then .next s
  else if x.oversize then
    let s := s.setRx k Rx.idle
    match x.fid with
    | some f => .next (if (s.frame f).stage = .refused then s.setFrame f Frame.none else s)
    | none => .next s
  else
    let bytes := x.bytes ++ tail
    let s := s.setRx k Rx.idle
    if bytes.isEmpty && !bad && !x.bad then .next s
    else
      let check := rxCheck bytes (bad || x.bad) (s.portMax d p)
      let s := if check = 0 then (s.portCount d p 0 1).portCount d p 1 bytes.length else s.portCount d p check 1
      let s := if check = 6 then s.portEvt d p PORT_EVT_MAC_CTRL_RX else s
      match x.fid with
      | some f =>
        if check ≠ 0 then .next (s.lateDiscard d p f)
        else
          let y := s.frame f
          if y.stage = .refused then .next (s.setFrame f Frame.none)
          else
            let s := s.setFrame f { y with len := bytes.length, ended := true }
            let s := if tail.isEmpty then
                (if y.atCore && y.spill.isNone then s.linkPush (2 * (y.core / 8)) (.arrival f false) else s)
              else s.sendCell f tail true
            .next (if y.stage = .wait then s else (s.endCorrect f).spillSend f)
      | none => if check = 0 then .next (s.handOver d p bytes true).1 else .next s

/-- The RS-FEC decoder finishes a codeword: `symbols` corrected, or uncorrectable, within a frame or not (R48, R64, R65). -/
def execRxFecCodeword (sd : Side) (p : PortId) (symbols : BitVec 8) (bad inFrame : Bool) (s : State) :
    Host.Outcome State Fault Refusal :=
  let d := sideN sd
  if !s.portOn d p || s.portFec d p == 0 then .next s
  else if bad then
    let s := (s.portCount d p 13 1).portEvt d p PORT_EVT_FEC_UNCORR
    let x := s.rxOf (pkey d p)
    .next (if inFrame then s.setRx (pkey d p) { x with bad := true } else s)
  else if symbols = 0 then .next s
  else .next ((s.portCount d p 12 1).portCount d p 14 symbols.toNat)

/-! Lanes and quads (R58 to R60, R66 to R68) -/

/-- FENCED of every port of a side, from its lanes and quads (R63). -/
def State.refreshFenced (s : State) (sd : Nat) : State :=
  (range 0 16).foldl (fun (s : State) p =>
    let fenced := (range p (s.portLanes sd p)).any (fun l => decide (l < 16) &&
      (s.flag (LANE_CFG sd l) LANE_CFG_FENCE || s.flag (QUAD_CTL sd (l / 4)) QUAD_CTL_FENCE))
    s.setFlag (PORT_STAT sd p) PORT_STAT_FENCED fenced) s

/-- A port goes down behind a fence: electrical idle, its frames dropped with FENCED; it comes up only when enabled again
(R55, R58, R59). -/
def State.portFenced (s : State) (sd p : Nat) : State :=
  if !s.portOn sd p && s.flag (PORT_STAT sd p) PORT_STAT_DRAINED then s
  else
    let s := ((s.linkFall sd p 5).rxAbort sd p).unlockRx sd p
    let s := s.txIdle sd p true
    { s with cut := s.cut.set 0 (pkey sd p) 1 }

/-- Fence a lane (R58). [Marks: DEDUCED (log entry 22)] -/
def State.fenceLane (s : State) (sd l : Nat) : State :=
  if s.flag (LANE_CFG sd l) LANE_CFG_FENCE then s
  else
    let s := (s.setFlag (LANE_CFG sd l) LANE_CFG_FENCE true).refreshFenced sd
    let s := (range 0 16).foldl (fun (s : State) p => if s.owns sd p l then s.portFenced sd p else s) s
    (s.faultStat FAULT_STAT_PORT).record none 16 3 6 (16 * sd + l) 0 0

/-- A write of 1 to LANE_CFG.FENCE (R58). -/
def execLaneFence (sd : Side) (l : PortId) (s : State) : Host.Outcome State Fault Refusal := .next (s.fenceLane (sideN sd) l)

/-- A receive calibration of a lane fails; the third in succession fences the lane (R58).
[Marks: DEDUCED (log entry 22)] -/
def execLaneCalFail (sd : Side) (l : PortId) (s : State) : Host.Outcome State Fault Refusal :=
  let d := sideN sd
  let n := s.calFails.get 0 (16 * d + l) + 1
  let s := s.setFlag (LANE_STAT d l) LANE_STAT_CAL_DONE false
  if n < 3 then .next { s with calFails := s.calFails.set 0 (16 * d + l) n }
  else .next ({ s with calFails := s.calFails.set 0 (16 * d + l) 0 }.fenceLane d l)

/-- UNFENCE acts while no enabled port owns the lane (R58, R66). [Marks: DEDUCED (log entry 22)] -/
def State.unfenceLane (s : State) (sd l : Nat) : State :=
  if (range 0 16).any (fun p => s.portOn sd p && s.owns sd p l) then s
  else (s.setFlag (LANE_CFG sd l) LANE_CFG_FENCE false).refreshFenced sd

/-- A write of 1 to LANE_CFG.UNFENCE (R66). -/
def execUnfence (sd : Side) (l : PortId) (s : State) : Host.Outcome State Fault Refusal := .next (s.unfenceLane (sideN sd) l)

/-- Fence a quad with a fault code, power its domain off and record it (R59, R68, R447). -/
def State.fenceQuad (s : State) (sd q code : Nat) : State :=
  if s.flag (QUAD_CTL sd q) QUAD_CTL_FENCE then s
  else
    let s := (s.setFlag (QUAD_CTL sd q) QUAD_CTL_FENCE true).setFld (QUAD_CTL sd q) QUAD_CTL_FAULT_CODE code
    let s := s.refreshFenced sd
    let s := (range 0 16).foldl (fun (s : State) p =>
      if (range (4 * q) 4).any (fun l => s.owns sd p l) then s.portFenced sd p else s) s
    let s := s.faultStat FAULT_STAT_PORT
    s.sheetOff (108 + 4 * sd + q) (some (none, s.mkRec 17 3 7 (4 * sd + q) 0 (BitVec.ofNat 32 code)))

/-- A write of 1 to QUAD_CTL.FENCE (R59). -/
def execQuadFence (sd : Side) (q : QuadId) (s : State) : Host.Outcome State Fault Refusal := .next (s.fenceQuad (sideN sd) q 0)

/-- A fault of FAULT_CODE fences the quad (R59, R68). -/
def execQuadFault (sd : Side) (q : QuadId) (code : QuadCode) (s : State) : Host.Outcome State Fault Refusal :=
  let d := sideN sd
  let a := QUAD_CTL d q
  match code with
  | .pll => .next ((s.setFlag a QUAD_CTL_PLL_LOCK false).fenceQuad d q 1)
  | .cal => .next ((s.setFlag a QUAD_CTL_CAL_DONE false).fenceQuad d q 2)
  | .parity => .next (s.fenceQuad d q 3)

/-- LINE_LOCK.LOCK is set (R69). -/
def execLineLock (sd : Side) (s : State) : Host.Outcome State Fault Refusal :=
  .next (s.setFlag (LINE_LOCKR (sideN sd)) LINE_LOCKR_LOCK true)

/-- A lane's receiver gains or loses its locks; without block lock on every lane its port's alignment and link fall
(R57, R63, R67). [Marks: DEDUCED (log entry 22)] -/
def execLaneRxLock (sd : Side) (l : PortId) (sig cdr cal blk : Bool) (s : State) : Host.Outcome State Fault Refusal :=
  let d := sideN sd
  let a := LANE_STAT d l
  let s := ((s.setFlag a LANE_STAT_SIG_DET sig).setFlag a LANE_STAT_CDR_LOCK cdr).setFlag a LANE_STAT_CAL_DONE cal
  let s := if cal then { s with calFails := s.calFails.set 0 (16 * d + l) 0 } else s
  match (range 0 16).find? (fun p => s.portOn d p && s.owns d p l) with
  | none => .next s
  | some p =>
    let locks := s.fld (PORT_STAT d p) PORT_STAT_LANE_LOCK
    let i := l.val - p
    let locks' := if bitN locks i then locks - 2 ^ i else locks
    let s := s.setFld (PORT_STAT d p) PORT_STAT_LANE_LOCK (if blk then locks' + 2 ^ i else locks')
    if blk then .next s
    else
      let s := (s.linkFall d p 6).rxAbort d p
      .next ((s.setFlag (PORT_STAT d p) PORT_STAT_PCS_LOCK false).setFlag (PORT_STAT d p) PORT_STAT_FEC_LOCK false)

/-! Transmission (R53, R54, R105, R106, R258) -/

/-- Record an error of a Prism or Resequencer buffer: memory 4, at an address that the spec does not lay out (R343, R453).
[Marks: DEDUCED (log entry 28)] -/
def State.bufErr (s : State) (sd p : Nat) (egress ue : Bool) : State :=
  let a := (Config.freeDWord s.free).setWidth 32
  let s := { s with free := s.free + 1 }
  if ue then s.record none 2 2 8 (16 * sd + p) a 4
  else s.recordMs none 1 1 8 (16 * sd + p) (3000 + 2 * sd + b2n egress) a 4

/-- The egress MAC begins a frame and abandons it: the part sent, then an error block (R53).
[Marks: DEDUCED (log entry 28)] -/
def State.abandon (s : State) (sd p : Nat) (sent : List Byte) : State :=
  ((s.portCount sd p 10 1).portEvt sd p PORT_EVT_ABANDON).emit (.abandoned sd p sent)

/-- An underrun: the frame is abandoned and dropped, an event and a record follow (R106).
[Marks: DEDUCED (log entry 28)] -/
def State.underrun (s : State) (sd p f : Nat) (sent : List Byte) : State :=
  let x := s.frame f
  let s := (s.abandon sd p sent).drop f 9
  let s := s.evtSet (RSQ_EVT sd) (RSQ_EVT_EN sd) (32 + sd) RSQ_EVT_UNDERRUN
  s.record none 7 2 8 (16 * sd + p) (BitVec.ofNat 32 p) (BitVec.ofNat 32 x.ftag)

/-- A drop by R108: event and record. -/
def State.deadlineMiss (s : State) (f : Nat) : State :=
  let x := s.frame f
  let sd := 1 - x.side
  let s := s.drop f 10
  let s := s.evtSet (RSQ_EVT sd) (RSQ_EVT_EN sd) (32 + sd) RSQ_EVT_DEADLINE_MISS
  s.record none 8 2 8 (16 * sd + x.eport) (BitVec.ofNat 32 x.eport) (BitVec.ofNat 32 x.ftag)

/-- A frame leaves the device whole with the FCS that the MAC computes (R53, R65, R109, R113, R258).
[Marks: DEDUCED (log entry 28)] -/
def State.txFrame (s : State) (sd p f n : Nat) : State :=
  let x := s.frame f
  let body := x.out.flatten.take (n - 4)
  let bytes := body ++ toLE 4 (crc32 body)
  let s := (s.portCount sd p 8 1).portCount sd p 9 n
  let s := if x.handed then s else s.countOut x n
  let s := s.unrelease f
  ((s.setFrame f { x with stage := .gone, cells := if x.atCore then x.cells else 0 }).prune f).emit (.frame sd p bytes)

/-- The egress MAC takes the next released frame of a port whose link is up and transmits it (R53, R54, R106, R108). -/
def execEgressTxFrame (sd : Side) (p : PortId) (ecc : Ecc) (s : State) : Host.Outcome State Fault Refusal :=
  let d := sideN sd
  match (s.eg d p).released with
  | [] => .next s
  | f :: _ =>
    let x := s.frame f
    if !s.linkUp d p || (s.eg d p).tfc || x.out.isEmpty || ((s.eg d p).ztf && !x.handed) then .next s
    else if !wle s.timebase x.latest then .next (s.deadlineMiss f)
    else
      let s := match ecc with
        | .ce => s.bufErr d p true false
        | _ => s
      let max := s.portMax d p
      let have_ := x.out.flatten
      match x.done with
      | some (_, n) =>
        if max < n then .next ((s.portCount d p 11 1).drop f 7)
        else if ecc = .ue then .next ((s.bufErr d p true true).underrun d p f [])
        else if have_.length < n then .next (s.underrun d p f have_)
        else .next (s.txFrame d p f n)
      | none =>
        if ecc = .ue then .next ((s.bufErr d p true true).underrun d p f [])
        else if max < have_.length then .next (((s.portCount d p 11 1).abandon d p (have_.take max)).drop f 7)
        else .next (s.underrun d p f have_)

end Sys2Proof.Machine
end

