-- ==== Sys2Proof/Machine/Prism.lean ====
section
/-! DEFINITION. The Prism: header walk, lookup, SecTAG checks, packet numbers, core choice, admission test and decision. -/

namespace Sys2Proof.Machine

/-! The header walk (R72, R73) -/

/-- What the walk extracts. [Marks: PRESUMED (log entry 24)] -/
structure Hdr where
  cls : Nat
  key : List Byte
  pnLo : Nat
  pnHi : Nat
  sci : Bool
  tci : Nat
  sl : Nat
  /-- where the TCI/AN byte stands; none when no extraction gave it -/
  tciAt : Option Nat
  deriving DecidableEq, Repr

/-- Nothing extracted yet. -/
def Hdr.start (cls : Nat) : Hdr := ⟨cls, [], 0, 0, false, 0, 0, none⟩

/-- extract() of an extraction word at a cursor; none where it lies beyond the first cell (R73).
[Marks: DEDUCED (log entry 25)] -/
def Hdr.extract (h : Hdr) (x : Word) (cell : List Byte) (cursor : Nat) : Option Hdr :=
  let t := x.fld HXT_XA_XTYPE
  let n := match t with
    | 1 => x.fld HXT_XA_XLEN
    | 2 => 4
    | 3 => 4
    | 4 => 8
    | _ => 2
  let a := cursor + x.fld HXT_XA_XOFF
  let v := (cell.drop a).take n
  if t = 0 then some h
  else if cell.length < a + n then none
  else match t with
    | 1 => some { h with key := (h.key ++ v).take 8 }
    | 2 => some { h with pnLo := beNat v }
    | 3 => some { h with pnHi := beNat v }
    | 4 => some { h with sci := true }
    | _ => some { h with tci := (nth 0 v 0).toNat, sl := (nth 0 v 1).toNat, tciAt := some a }

/-- The walk of R72 from entry e with `n` steps left: none refuses with PARSE. `cell` holds the frame's bytes below
min(frame length, 256). [Marks: PRESUMED (log entry 24); DEDUCED (log entry 25)] -/
def State.walk (s : State) (sd : Nat) (cell : List Byte) : Nat → Nat → Nat → Hdr → Option Hdr
  | 0, _, _, _ => none
  | n + 1, e, cursor, h =>
    let m := s.prd (HXT_MATCH sd e)
    let c := s.prd (HXT_CTL sd e)
    let xa := s.prd (HXT_XA sd e)
    let xb := s.prd (HXT_XB sd e)
    if m.fld HXT_MATCH_VALID = 0 ∨ 6 ≤ xa.fld HXT_XA_XTYPE ∨ 6 ≤ xb.fld HXT_XA_XTYPE then none
    else
      let a := cursor + m.fld HXT_MATCH_OFFSET
      if cell.length ≤ a + 1 then none
      else
        let field := BitVec.ofNat 16 (beNat ((cell.drop a).take 2))
        let mask := BitVec.ofNat 16 (c.fld HXT_CTL_MASK)
        if field &&& mask = BitVec.ofNat 16 (m.fld HXT_MATCH_VALUE) &&& mask then
          match (h.extract xa cell cursor).bind (fun h => h.extract xb cell cursor) with
          | none => none
          | some h =>
            let h := if xb.fld HXT_XA_SET_CLASS = 1 then { h with cls := xb.fld HXT_XA_CLASS } else h
            if m.fld HXT_MATCH_TERM = 1 then some h
            else s.walk sd cell n (m.fld HXT_MATCH_NEXT) (cursor + c.fld HXT_CTL_ADVANCE) h
        else if c.fld HXT_CTL_MISS_REFUSE = 1 then none
        else s.walk sd cell n (c.fld HXT_CTL_MISS_NEXT) cursor h

/-! The cost tables (R89, R90, R95, R96) -/

/-- A committed slot's entry for a class: BASE_CYC and BLOCK_CYC, where the entry is VALID. -/
def State.slotEntry (s : State) (t cls : Nat) : Option (Nat × Nat) :=
  let st := s.prd (COST_STAT t)
  let w := s.prd (COST t (8 + 4 * cls))
  if st.fld COST_STAT_VALID = 1 ∧ cls < st.fld COST_STAT_COUNT ∧ bitN w.toNat 24 then
    some (w.toNat % 65536, w.toNat / 65536 % 256)
  else none

/-- The entry for a class in the committed table of an epoch. -/
def State.costEntry (s : State) (epoch cls : Nat) : Option (Nat × Nat) :=
  let ok (t : Nat) : Bool := s.pfld (COST_STAT t) COST_STAT_EPOCH == epoch
  match (if ok 0 then s.slotEntry 0 cls else none) with
  | some e => some e
  | none => if ok 1 then s.slotEntry 1 cls else none

/-! SA lookup (R79, R80) -/

/-- KEY under the port's KEY_TYPE (R79). -/
def lookupKey (keyType : Nat) (bytes : List Byte) : Nat :=
  match keyType with
  | 0 => beNat bytes % 2 ^ 12
  | 1 => beNat bytes
  | 2 => beNat bytes % 2 ^ 32
  | _ => 0

/-- The eight lookup positions of a key (R80). -/
def lookupPos (sd keyType port key : Nat) : List Nat :=
  let h := crc32c (BitVec.ofNat 8 (sd * 128 + keyType * 16 + port) :: toBE 8 key)
  let b1 := bits h 11 0
  let b2 := bits h 23 12
  range (4 * b1) 4 ++ range (4 * b2) 4

/-- A lookup entry holds the key. -/
def State.lookupHit (s : State) (sd keyType port key i : Nat) : Bool :=
  let w := s.prd (LKUP_CTL i)
  w.fld LKUP_CTL_VALID == 1 && w.fld LKUP_CTL_SIDE == sd && w.fld LKUP_CTL_KEY_TYPE == keyType
    && w.fld LKUP_CTL_PORT == port && s.prd64 (LKUP_KEY i) == key

/-- The SA of the lowest entry that hits (R80). [Marks: DEDUCED (log entry 25)] -/
def State.lookup (s : State) (sd keyType port key : Nat) : Option Nat :=
  let hits := (lookupPos sd keyType port key).filter (s.lookupHit sd keyType port key)
  match hits with
  | [] => none
  | i :: is => some (s.pfld (LKUP_CTL (is.foldl min i)) LKUP_CTL_SA_INDEX)

/-! SecTAG, ZTF header and packet number (R77, R78, R129) -/

/-- KV and AN of key k in SA_KEY_s. -/
def keyLive (w : Word) (k : Bool) : Bool := w.fld (if k then SA_KEY_KV1 else SA_KEY_KV0) == 1
/-- [Marks: PRESUMED (log entry 24)] -/
def keyAn (w : Word) (k : Bool) : Nat := w.fld (if k then SA_KEY_AN1 else SA_KEY_AN0)
def keySkb (w : Word) (k : Bool) : Nat := w.fld (if k then SA_KEY_SKB1 else SA_KEY_SKB0)
/-- The live key of an association number, key 0 first. [Marks: DEDUCED (log entry 25)] -/
def keyOfAn (w : Word) (an : Nat) : Option Bool :=
  if keyLive w false && keyAn w false == an then some false
  else if keyLive w true && keyAn w true == an then some true else none

/-- The SecTAG checks 1 to 4 of R77. `len` is the frame's length where it has ended by its first cell.
[Marks: PRESUMED (log entry 24)] -/
def secTagOk (h : Hdr) (integOnly : Bool) (len : Option Nat) : Bool :=
  let b (i : Nat) : Bool := bitN h.tci i
  let v := b 7
  let es := b 6
  let sc := b 5
  let scb := b 4
  let e := b 3
  let c := b 2
  let tag := (h.tciAt.getD 14) - 2
  let st := if sc then 16 else 8
  let want := match len with
    | some n => if n < 64 + st + 16 then n - (tag + st + 16 + 4) else 0
    | none => 0
  !v && (if sc then !es && !scb else !h.sci) && ((e && c) || (!e && !c && integOnly)) && h.sl == want

/-- The ZTF checks 1 and 2 of R129. -/
def ztfOk (h : Hdr) (cell : List Byte) (len : Option Nat) : Bool :=
  let tagged := (cell.drop 12).take 2 == [0x81, 0x00]
  h.tci / 16 == 1 && h.tci / 4 % 4 == 0 && h.sl == 0
    && (match len with
      | some n => decide ((if tagged then 118 else 114) ≤ n)
      | none => true)

/-- The 64-bit PN of a FORMAT 1 frame from its wire PN (R78). [Marks: PRESUMED (log entry 24)] -/
def State.xpnRecover (s : State) (sa : Nat) (k : Bool) (wire : Nat) : Nat :=
  let np := s.prd64 (SA_NEXT_PN sa (b2n k))
  let w := if s.pfld (SA_CFG sa) SA_CFG_REPLAY_MODE = 2 then 256 else (s.prd (SA_REPLAY_WIN sa)).toNat
  let low := np - w
  let hi := low / 2 ^ 32
  let hi := if bitN low 31 && !bitN wire 31 then hi + 1 else hi
  (hi * 2 ^ 32 + wire) % 2 ^ 64

/-! Core choice (R89, R91) -/

/-- The first condition of R89: in service, neither it nor its cluster link fenced. A core that a step has just taken out
stays eligible in that FCLK, and a promoted spare becomes eligible in the next (R437, R441).
[Marks: DESIGN CHOICE (log entry 26)] -/
def State.eligibleCore (s : State) (g : Nat) : Bool :=
  let r := s.rotOf g
  let st := s.rotState g
  ((st == 0 && decide (r.at_ ≤ s.now)) || (st == 1 && r.at_ / 2 == s.fclk))
    && !s.flag (CLINK_STAT (g / 8)) CLINK_STAT_FENCED

/-- The epoch of the image that a core runs: CORE_Q_g.EPOCH (R112, R439). -/
def State.coreEpoch (s : State) (g : Nat) : Nat := s.fld (CORE_Q 0 g) CORE_Q_EPOCH

/-- The home clusters of an SA (R84). -/
def State.homes (s : State) (sa : Nat) : List Nat :=
  let w := s.prd (SA_HOME sa)
  (([SA_HOME_HOME0, SA_HOME_HOME1, SA_HOME_HOME2, SA_HOME_HOME3].take (w.fld SA_HOME_HOME_COUNT + 1)).map
    (fun f => w.fld f)).filter (fun c => decide (c < 12))

/-- Core g is eligible for a frame of SA sa and a class (R89). -/
def State.eligibleFor (s : State) (sa cls g : Nat) : Bool :=
  s.eligibleCore g && (s.homes sa).contains (g / 8)
    && decide (s.pfld (SA_CFG sa) SA_CFG_EPOCH ≤ s.coreEpoch g)
    && (s.costEntry (s.coreEpoch g) cls).isSome && decide (s.qdepth g < 8)

/-- The core of the list with the least max(TFREE, T), the first in the list's order among equals.
[Marks: DESIGN CHOICE (log entry 26)] -/
def State.least (s : State) (t : Word) : List Nat → Option Nat
  | [] => none
  | g :: gs =>
    match s.least t gs with
    | none => some g
    | some b =>
      let a (x : Nat) : Word := wmax (s.tfreeOf x) t
      if wle (a g) (a b) then some g else some b

/-- The core that the Prism of a side chooses: ties go to the first after the one it chose last, cyclically (R91).
[Marks: DESIGN CHOICE (log entry 26)] -/
def State.chooseCore (s : State) (sd sa cls : Nat) (t : Word) : Option Nat :=
  let from_ := s.chosen.get 0 sd
  s.least t (((range from_ 96).map (fun i => i % 96)).filter (s.eligibleFor sa cls))

/-! Reservations (R92, R105) -/

/-- The lowest run of n free cells in the frame pool of cluster c. [Marks: DESIGN CHOICE (log entry 27)] -/
def State.allocCells (s : State) (c n : Nat) : Option Nat :=
  let base := s.fld (CLINK_POOL c) CLINK_POOL_POOL_BASE
  let size := s.fld (CLINK_POOL c) CLINK_POOL_POOL_CELLS
  let held := (s.frames.filter (fun e => decide (e.2.core / 8 = c ∧ 0 < e.2.cells))).map (fun e => (e.2.buf, e.2.cells))
  let free (b : Nat) : Bool := decide (base ≤ b ∧ b + n ≤ base + size)
    && held.all (fun h => decide (b + n ≤ h.1 ∨ h.1 + h.2 ≤ b))
  match ((base :: held.map (fun h => h.1 + h.2)).filter free) with
  | [] => none
  | b :: bs => some (bs.foldl min b)

/-- The first descriptor slot of a port's partition (R105). [Marks: DESIGN CHOICE (log entry 27)] -/
def State.partBase (s : State) (sd q : Nat) : Nat :=
  ((range 0 q).map (fun i => s.fld (RSQ_PORT_CFG sd i) RSQ_PORT_CFG_DESC_SLOTS)).foldl (· + ·) 0

/-! SA events (R87, R333) -/

/-- An event enters the SA event queue: KIND 1 PN_WARN, 2 STOPPED. -/
def State.saEvent (s : State) (kind sa : Nat) : State :=
  if 512 ≤ s.saEvt.length then s.inc64 SA_EVT_OVF
  else
    let was := s.saEvt.isEmpty
    let s := { s with saEvt := s.saEvt ++ [(kind, sa)] }
    if was then s.devRise 36 else s

/-- Set STOPPED, with its event when it was clear. [Marks: DEDUCED (log entry 25)] -/
def State.stopSa (s : State) (sa : Nat) : State :=
  let w := s.prd (SA_STAT sa)
  let s := s.pwr (SA_STAT sa) (w.setFld SA_STAT_STOPPED 1)
  if w.fld SA_STAT_STOPPED = 1 then s else s.saEvent 2 sa

/-- The key of an encrypt SA and its next PN, or the refusal code of R87 and R519; the flag says that STOPPED is set. -/
def State.pnCheck (s : State) (sa : Nat) : Sum (Nat × Bool) (Bool × Nat) :=
  let w := s.prd (SA_KEY sa)
  let k := w.fld SA_KEY_ACTIVE == 1
  let np := s.prd64 (SA_NEXT_PN sa (b2n k))
  if !keyLive w k then .inl (4, false)
  else if s.prd64 (SA_PN_LIMIT sa (b2n k)) < np then .inl (5, true)
  else if s.leased sa && decide (s.leaseAck (2 * sa + b2n k) ≤ np) then .inl (5, false)
  else .inr (k, np)

/-- The allocation of a PN, with PN_WARN and a new lease where they fall due (R87, R519). -/
def State.pnTake (s : State) (sa : Nat) (k : Bool) (np : Nat) : State :=
  let s := s.pwr64 (SA_NEXT_PN sa (b2n k)) (np + 1)
  let w := s.prd (SA_STAT sa)
  let s := if s.prd64 (SA_PN_LIMIT sa (b2n k)) - np ≤ (s.prd (SA_PN_WARN sa)).toNat ∧ w.fld SA_STAT_PN_WARNED = 0 then
      (s.pwr (SA_STAT sa) (w.setFld SA_STAT_PN_WARNED 1)).saEvent 1 sa
    else s
  s.leaseCheck sa k (np + 1)

/-! The decision (R91 to R93, R119, R120, R123, R124) -/

/-- A frame's SA, key, association number and PN, or its refusal code. -/
structure Found where
  sa : Nat
  key : Bool
  an : Nat
  pn : Nat
  deriving DecidableEq, Repr

/-- The checks up to PN_EXHAUSTED: the refusal code with the SA looked up and whether STOPPED is set, or what was found. -/
def State.find (s : State) (x : Frame) (cell : List Byte) (h : Hdr) : Sum (Nat × Option Nat × Bool) Found :=
  let sd := x.side
  let keyType := s.pfld (PRM_CFG sd x.port) PRM_CFG_KEY_TYPE
  let len := if x.ended && !x.discard && decide (x.len ≤ 256) then some x.len else none
  if (s.slotEntry 0 h.cls).isNone && (s.slotEntry 1 h.cls).isNone then .inl (1, none, false)
  else match s.lookup sd keyType x.port (lookupKey keyType h.key) with
  | none => .inl (3, none, false)
  | some sa =>
    let cfg := s.prd (SA_CFG sa)
    let fmt := cfg.fld SA_CFG_FORMAT
    if cfg.fld SA_CFG_VALID = 0 ∨ fmt = 3 ∨ cfg.fld SA_CFG_DIR ≠ sd
        ∨ (sd = 0 ∧ fmt = 2 ∧ (s.eg 1 (cfg.fld SA_CFG_EGRESS_PORT)).ztf = false) then .inl (3, none, false)
    else if sd = 0 then
      match s.pnCheck sa with
      | .inl (code, stop) => .inl (code, some sa, stop)
      | .inr (k, np) => .inr ⟨sa, k, keyAn (s.prd (SA_KEY sa)) k, np⟩
    else if (if fmt = 2 then !ztfOk h cell len else !secTagOk h (cfg.fld SA_CFG_INTEG_ONLY == 1) len) then
      .inl (2, some sa, false)
    else
      let an := h.tci % 4
      match keyOfAn (s.prd (SA_KEY sa)) an with
      | none => .inl (4, some sa, false)
      | some k =>
        let pn := match fmt with
          | 0 => h.pnLo
          | 1 => s.xpnRecover sa k h.pnLo
          | _ => h.pnHi * 2 ^ 32 + h.pnLo
        .inr ⟨sa, k, an, pn⟩

/-- Refuse a frame (R91, R109, R113, R123): its later cells are discarded as they arrive.
[Marks: DEDUCED (log entry 25)] -/
def State.refuse (s : State) (f code : Nat) (sa : Option Nat) : State :=
  let x := s.frame f
  let s := (s.ledger x.side x.port 2).inc64 (LEDGER_REFUSED x.side x.port code)
  let s := match sa with
    | some a => s.saCount a 5
    | none => s
  s.setFrame f (if x.ended then Frame.none else { Frame.none with side := x.side, port := x.port, stage := .refused })

/-- The test of R119 for a predicted completion C: EGR_FREE after admission, where it passes. -/
def State.admits (s : State) (x : Frame) (t c : Word) (q outL : Nat) (cand : List Nat) : Option (Word × Word) :=
  let out := 1 - x.side
  let rp := s.portRate x.side x.port
  let arr := t - 48 - tw (ser x.fc rp) - tw (s.rxLat x.side x.port)
  let dl := arr + tw (200 * s.pfld (PRM_CFG x.side x.port) PRM_CFG_BUDGET)
  let ready := c + 96
  let m := tw (416 * s.fld DLV_CTL DLV_CTL_RETRY_ALLOW)
  let e := s.eg out q
  let r := s.portRate out q
  let free := s.rd (EGR_FREE out q)
  let start := wmax ready free
  let txEnd := if out = 1 && e.tfc then
      cand.foldl (fun a b => wmax a (tw (e.nextSlot r b (s.absTime start) + e.slotCyc r b))) start
    else start + tw (ser (outL + 20) r)
  if wle (txEnd + m + tw (s.txLat out q)) dl then some (txEnd, dl) else none

/-- The spill candidate of R124: the direction and C, while R513 permits one.
[Marks: DESIGN CHOICE (log entry 29)] -/
def State.spillTry (s : State) (x : Frame) (sa : Nat) (t : Word) : Option (Nat × Word × Word) :=
  let cfg := s.rd (DLV_PORT_CFG x.side x.port)
  let d := cfg.fld DLV_PORT_CFG_SPILL_DIR
  let dir := s.rd (RING_SPILL_DIR d)
  let hops := max (dir.fld RING_SPILL_DIR_HOPS) 1
  let path := s.rpState d == 3 || (s.wrapped d && s.rpState (1 - d) == 3)
  if cfg.fld DLV_PORT_CFG_SPILL_EN = 1 ∧ dir.fld RING_SPILL_DIR_VALID = 1 ∧ s.replMode sa = 1 ∧ s.replDir sa = d
      ∧ s.flag (REPL_STAT sa) REPL_STAT_FRESH ∧ path then
    let s0 := wmax (t + 32) (s.spillFree.get 0 d)
    some (d, s0, s0 + tw (1400 * hops + dir.fld RING_SPILL_DIR_NB_LAT))
  else none

/-- How a frame would be placed: the core, or the spill's direction with SPILL_FREE after it; C, the per-block charge,
EGR_FREE after it, and DL. -/
structure Place where
  core : Nat
  spill : Option (Nat × Word)
  c : Word
  pb : Nat
  egr : Word
  dl : Word
  deriving DecidableEq, Repr

/-- The NO_HOME and BUDGET positions of R91, with the spill of R124: the refusal code, or the placement.
[Marks: DESIGN CHOICE (log entry 29)] -/
def State.place (s : State) (x : Frame) (sa cls : Nat) (t : Word) (l : Nat) (whole : Bool) (q outL : Nat) (cand : List Nat) :
    Sum Nat Place :=
  let spillOr (code : Nat) : Sum Nat Place :=
    match s.spillTry x sa t with
    | none => .inl code
    | some (d, s0, c) =>
      match s.admits x t c q outL cand with
      | none => .inl code
      | some (egr, dl) =>
        .inr ⟨8 * s.fld RING_SPILL_CFG RING_SPILL_CFG_POOL_CLUSTER, some (d, s0 + tw (ser (l + 64) 400)), c, 0, egr, dl⟩
  match s.chooseCore x.side sa cls t with
  | none => spillOr 7
  | some g =>
    match s.costEntry (s.coreEpoch g) cls with
    | none => spillOr 7
    | some (base, block) =>
      let pb := if whole then block else max block (rateCyc (s.portRate x.side x.port))
      let c := wmax (s.tfreeOf g) (t + 32) + tw (base + pb * ((l + 15) / 16))
      match s.admits x t c q outL cand with
      | none => spillOr 8
      | some (egr, dl) => .inr ⟨g, none, c, pb, egr, dl⟩

/-- The side effects of an admission (R87, R92, R120, R124). [Marks: DEDUCED (log entry 23)] -/
def State.admitFrame (s : State) (f : Nat) (h : Hdr) (k : Found) (pl : Place) (l : Nat) (whole : Bool) (q outL : Nat)
    (cand : List Nat) (buf cells : Nat) : State :=
  let x := s.frame f
  let sd := x.side
  let out := 1 - sd
  let e := s.eg out q
  let slots := s.fld (RSQ_PORT_CFG out q) RSQ_PORT_CFG_DESC_SLOTS
  let w := s.prd (SA_KEY k.sa)
  let x' := { x with
    stage := .admitted, sa := k.sa, fmt := s.pfld (SA_CFG k.sa) SA_CFG_FORMAT, key := k.key, skb := keySkb w k.key,
    cls := h.cls, an := k.an, pn := k.pn, core := pl.core, c := pl.c, pb := pl.pb, prov := if whole then 0 else l,
    dl := pl.dl, latest := pl.dl - tw (s.txLat out q) - tw (s.lastCyc out q outL cand), eport := q, outL := outL,
    buf := buf, cells := cells, clear := if sd = 0 then s.pfld (PRM_BUF 0 x.port) PRM_BUF_CLEAR_HDR else 0,
    ftag := s.partBase out q + e.next, atCore := pl.spill.isNone, spill := pl.spill.map (fun p => p.1),
    pend := if pl.spill.isSome then x.pend else [] }
  let s := s.setFrame f x'
  let s := s.setEgr (pkey out q) { e with order := e.order ++ [f], next := if slots = 0 then 0 else (e.next + 1) % slots }
  let s := (s.wr (EGR_FREE out q) pl.egr).inflight sd x.port true
  let s := if sd = 0 then s.pnTake k.sa k.key k.pn else s
  match pl.spill with
  | some (d, free) => ({ s with spillFree := s.spillFree.set 0 d free }).inc64 (SPILL_SENT d)
  | none =>
    let s := { s.setTfree pl.core pl.c with chosen := s.chosen.set 0 sd (pl.core + 1) }
    let s := s.linkPush (2 * (pl.core / 8)) (.desc f)
    let last (i : Nat) : Bool := decide (i + 1 = x.pend.length) && x.ended && !x.discard
    let s := ((range 0 x.pend.length).foldl (fun (s : State) i => s.sendCell f (nth [] x.pend i) (last i)) s)
    s.prismWake pl.core

/-- A decision of the Prism (R91): the frame is admitted, spilled or refused. [Marks: DEDUCED (log entry 25)] -/
def State.judge (s : State) (f : Nat) (ue : Bool) : State :=
  let x := s.frame f
  let sd := x.side
  let out := 1 - sd
  let t := tw (2 * s.fclk)
  let cell := nth [] x.pend 0
  let cfg := s.prd (PRM_CFG sd x.port)
  let walk := if ue then none
    else s.walk sd cell 8 (cfg.fld PRM_CFG_HXT_START) 12 (Hdr.start (cfg.fld PRM_CFG_DEF_CLASS))
  match walk with
  | none => s.refuse f 1 none
  | some h =>
    match s.find x cell h with
    | .inl (code, sa, stop) =>
      (match sa, stop with
        | some a, true => s.stopSa a
        | _, _ => s).refuse f code sa
    | .inr k =>
      let scfg := s.prd (SA_CFG k.sa)
      let q := scfg.fld SA_CFG_EGRESS_PORT
      let whole := x.ended && !x.discard && decide (x.len ≤ 256)
      let l := if whole then x.len else s.portMax sd x.port
      let e := s.eg out q
      let cand := if out = 1 && e.tfc then e.cand l (!whole) else []
      let outL := s.outLen out q (scfg.fld SA_CFG_FORMAT) l
      let down := !s.linkUp out q || !s.portOn out q || (out == 1 && e.tfc && !s.flag (ZTF_STAT q) ZTF_STAT_RUNNING)
      if down then s.refuse f 6 (some k.sa)
      else match s.place x k.sa h.cls t l whole q outL cand with
        | .inl code => s.refuse f code (some k.sa)
        | .inr pl =>
          let cells := (l + 64 + 255) / 256
          if s.fld (RSQ_PORT_CFG out q) RSQ_PORT_CFG_DESC_SLOTS ≤ e.order.length then s.refuse f 9 (some k.sa)
          else match s.allocCells (pl.core / 8) cells with
            | none => s.refuse f 10 (some k.sa)
            | some buf =>
              let s := s.admitFrame f h k pl l whole q outL cand buf cells
              if x.discard then
                (if pl.spill.isNone then s.linkPush (2 * (pl.core / 8)) (.arrival f true) else s).drop f 1
              else if whole then
                (if out = 1 && e.tfc && cand.isEmpty then s.drop f 7 else s).spillSend f
              else if x.ended then (s.endCorrect f).spillSend f else s

/-- The Prism decides the oldest undecided frame of a port, 24 FCLK after its first cell; a fifth decision of one FCLK waits
for the next (R71, R91). `ecc` is what the corrector finds in the ingress buffer (R342, R343).
[Marks: DESIGN CHOICE (log entry 26)] -/
def execPrismDecision (sd : Side) (p : PortId) (ecc : Ecc) (s : State) : Host.Outcome State Fault Refusal :=
  let d := sideN sd
  match s.framesWith (fun x => x.stage == .wait && x.side == d && x.port == p.val) with
  | [] => .next s
  | f :: _ =>
    let s := s.upTo (2 * ((s.frame f).at_ / 2 + 24))
    let full := s.decAt.get 0 d == s.fclk + 1 && decide (4 ≤ s.decN.get 0 d)
    let s := if full then s.upTo (2 * (s.fclk + 1)) else s
    let n := if s.decAt.get 0 d = s.fclk + 1 then s.decN.get 0 d else 0
    let s := { s with decAt := s.decAt.set 0 d (s.fclk + 1), decN := s.decN.set 0 d (n + 1) }
    let s := match ecc with
      | .ok => s
      | .ce => s.bufErr d p false false
      | .ue => s.bufErr d p false true
    .next (s.judge f (ecc == .ue))

end Sys2Proof.Machine
end

