-- ==== Sys2Proof/Machine/Clink.lean ====
section
/-! DEFINITION. The cluster links: cells, retries, credits, the frame registers of a core, and the exit check. -/

namespace Sys2Proof.Machine

/-! The frame's words in CMEM (R262, R263) -/

/-- Byte 0 of a frame's buffer: its output starts there, its input 64 bytes on (R99).
[Marks: DEDUCED (log entry 33)] -/
def Frame.base (x : Frame) : Nat := 256 * x.buf

/-- Frame bytes from byte `from_` enter CMEM, each word with its tint. [Marks: DEDUCED (log entry 33)] -/
def Mem.putFrame (m : Mem) (x : Frame) (from_ : Nat) (bs : List Byte) : Mem :=
  let a := x.base + 64
  let m := { m with b := m.b.setRange 0 (a + from_) bs }
  (range (from_ / 8) ((from_ + bs.length + 7) / 8 - from_ / 8)).foldl (fun (m : Mem) w => m.setTint (a + 8 * w) (x.inTint w)) m

/-! Descriptors (R99) -/

/-- Words 0 to 3 of a frame's descriptor. -/
def Frame.desc (x : Frame) (fid : Nat) : Desc where
  w0 := BitVec.ofNat 32 (x.buf * 2 ^ 18 + x.ftag % 2 ^ 18)
  w1 := BitVec.ofNat 32 (x.sa % 4096 * 2 ^ 20 + x.skb % 1024 * 2 ^ 10 + x.cls % 64 * 2 ^ 4 + x.an % 4 * 4 + x.side % 2 * 2 + 1)
  w2 := BitVec.ofNat 32 x.pn
  w3 := BitVec.ofNat 32 (x.pn / 2 ^ 32)
  arrived := 0
  initDone := false
  cells := 0
  fid := fid

/-- The descriptor of a frame at its core, changed by `f`. -/
def Core.onDesc (c : Core) (fid : Nat) (f : Desc → Desc) : Core :=
  let g (d : Desc) : Desc := if d.fid = fid then f d else d
  { c with fnext := c.fnext.map g, popped := c.popped.map g }

/-- The arrival word: LAST, DISCARD and LEN. -/
def arrivedWord (last discard : Bool) (len : Nat) : Word :=
  BitVec.ofNat 32 (b2n last * 2 ^ 31 + b2n discard * 2 ^ 30 + len % 2 ^ 14)

/-- A descriptor enters its core's queue; the head room below frame byte 0 is written, untinted, with bytes that the spec
does not give (R99, R262). -/
def State.takeDesc (s : State) (f : Nat) : State :=
  let x := s.frame f
  if !x.atCore then s
  else
    let cl := x.core / 8
    let y := s.clu cl
    let s := s.setClu cl { y with cmem := y.cmem.storeAll x.base (fitTo 0 64 (Config.freeBytes s.free 64)) .clean }
    let s := { s with free := s.free + 1 }
    let c := s.core x.core
    s.setCore x.core { c with fnext := c.fnext ++ [x.desc f] }

/-- An input cell is written; `ue` marks an uncorrectable error of the Prism buffer, which drops the frame (R343).
[Marks: DEDUCED (log entry 33)] -/
def State.takeCell (s : State) (f idx : Nat) (bytes : List Byte) (last ue : Bool) : State :=
  let x := s.frame f
  if !x.atCore then s
  else
    let cl := x.core / 8
    let y := s.clu cl
    let s := s.setClu cl { y with cmem := y.cmem.putFrame x (256 * idx) bytes }
    let c := s.core x.core
    let s := s.setCore x.core (c.onDesc f (fun d =>
      if bitN d.arrived.toNat 31 then d else { d with arrived := arrivedWord last false (256 * idx + bytes.length) }))
    if ue then s.drop f 11 else s

/-- An arrival message: no further cell comes (R51, R100). -/
def State.takeArrival (s : State) (f : Nat) (discard : Bool) : State :=
  let x := s.frame f
  if !x.atCore then s
  else
    let c := s.core x.core
    s.setCore x.core (c.onDesc f (fun d => { d with arrived := arrivedWord true discard (d.arrived.toNat % 2 ^ 14) }))

/-! Output (R105, R276) -/

/-- The bytes of output cell idx. [Marks: DEDUCED (log entry 33)] -/
def Frame.cellLen (x : Frame) (idx : Nat) : Nat :=
  match x.done with
  | some (_, n) => min 256 (n - 256 * idx)
  | .none => 256

/-- Ask the outbound link for every output cell that is complete and not asked for yet. -/
def State.pullAll (s : State) (f : Nat) : State :=
  let x := s.frame f
  let have_ := match x.done with
    | some _ => outCells x
    | none => x.prog
  let s := s.setFrame f { x with pulled := max x.pulled have_ }
  (range x.pulled (have_ - x.pulled)).foldl (fun (s : State) i =>
    s.linkPush (2 * (x.core / 8) + 1) (.pull f i (x.done.isSome && decide (i + 1 = outCells x)))) s

/-- The tint of the words of a cell that the exit check reads: those that hold one of bytes 0 to OUT_LEN − 5 (R276).
[Marks: DEDUCED (log entry 33)] -/
def State.exitTint (s : State) (x : Frame) (idx n : Nat) : Tint :=
  let len := match x.done with
    | some (_, l) => l - 4
    | none => 256 * idx + 256
  (s.clu (x.core / 8)).cmem.tintOf (x.base + 256 * idx) (min n (len - 256 * idx))

/-- A tint failure at an exit: 0 black egress, 1 red egress (R276, R284). -/
def State.exitRefused (s : State) (f : Nat) (red : Bool) : State :=
  let s := (s.drop f 8).inc64 (TINT_CNT (b2n red))
  s.evtSet TINT_EVT TINT_EVT_EN 35 (if red then TINT_EVT_RED_EGRESS else TINT_EVT_BLK_EGRESS)

/-- A frame that leaves its port's MAC and shaper alone holds all its output in the release buffer. -/
def Frame.whole (x : Frame) : Bool :=
  match x.done with
  | some (_, n) => n != 0 && x.out.flatten.length == n
  | .none => false

/-- The MAC side of an egress frame: 0 red, 1 black. -/
def Frame.out_ (x : Frame) : Nat := 1 - x.side

/-- A released frame of a ZTF port is whole: the Putty shaper has it, and it counts in OUT (R105, R109). -/
def State.handToShaper (s : State) (f : Nat) : State :=
  let x := s.frame f
  if x.whole && x.stage == .released && x.putty.isNone && !x.handed && x.out_ == 1 && (s.eg 1 x.eport).ztf then
    let n := (x.done.map (fun d => d.2)).getD 0
    (s.countOut x n).setFrame f { x with handed := true }
  else s

/-- An output cell is read in CMEM, checked and put into the release buffer (R105, R276, R343). -/
def State.takePull (s : State) (f idx : Nat) (ecc : Ecc) : State :=
  let x := s.frame f
  if x.drop ≠ 0 ∨ x.stage = .gone then s
  else
    let cl := x.core / 8
    let s := if ecc = .ok then s else s.cmemErr cl (ecc == .ue) (x.base + 256 * idx)
    let n := x.cellLen idx
    let t := if ecc = .ue then Tint.both else s.exitTint x idx n
    let red := x.out_ == 0
    if t.k || (t.r && !red) then s.exitRefused f red
    else
      let bytes := (s.clu cl).cmem.bytes (x.base + 256 * idx) n
      (s.setFrame f { x with out := x.out ++ [bytes] }).handToShaper f

/-! Reports of the cores (R100, R105, R132, R134) -/

/-- A frame's progress reaches the Resequencer. [Marks: DEDUCED (log entry 32)] -/
def State.takeProgress (s : State) (f n : Nat) : State :=
  let x := s.frame f
  if x.drop ≠ 0 ∨ x.stage = .gone then s
  else
    let s := s.setFrame f { x with prog := max x.prog n }
    if x.stage = .released && !(s.eg x.out_ x.eport).ztf then s.pullAll f else s

/-- The shaper pulls the head of a reserve into its copy (R134). -/
def State.reservePull (s : State) (q b : Nat) : State :=
  match (s.eg 1 q).reserve.get [] b with
  | [] => s
  | f :: _ => s.pullAll f

/-- A Putty job that ends without its frame: its PN is skipped (R134). -/
def State.puttyDrop (s : State) (f : Nat) : State :=
  let x := s.frame f
  (s.saCount x.sa 2).setFrame f (if x.atCore then { x with stage := .gone, drop := 11 } else Frame.none)

/-- The ring port sends the result of a taken frame; an output word with K stops it (R277, R514, R515).
[Marks: DEDUCED (log entry 35)] -/
def State.ringResult (s : State) (f result len : Nat) : State :=
  let x := s.frame f
  let cm := (s.clu (x.core / 8)).cmem
  let n := if result = 0 then len else 0
  let org := x.taken.getD (0, 0)
  let words := range 0 ((n + 7) / 8)
  let bad := words.any (fun w => (cm.tint (x.base + 8 * w)).k)
  let h : SpillHdr := {
    dir := x.side == 1, sa := BitVec.ofNat 12 x.sa, key := x.key, an := BitVec.ofNat 2 x.an, cls := BitVec.ofNat 6 x.cls,
    result := BitVec.ofNat 8 result, ftag := BitVec.ofNat 32 org.2, len := BitVec.ofNat 16 x.len,
    outLen := BitVec.ofNat 16 n, pn := BitVec.ofNat 64 x.pn, origin := BitVec.ofNat 8 org.1 }
  let s := s.setFrame f Frame.none
  if bad then s.ringRefused
  else s.ringOwn x.port org.1 (.result h (cm.bytes x.base n) (words.map (fun w => (cm.tint (x.base + 8 * w)).r)))

/-- A completion reaches the Resequencer or the shaper (R105, R132, R134). [Marks: DEDUCED (log entries 32, 35)] -/
def State.takeDone (s : State) (f result len : Nat) : State :=
  let x := s.frame f
  if x.drop ≠ 0 ∨ x.stage = .gone then s
  else if x.taken.isSome then s.ringResult f result len
  else match x.putty with
    | some b =>
      let q := x.eport
      let e := s.eg 1 q
      if result = 0 ∧ len = e.bucket b then
        let r := e.reserve.get [] b
        let s := (s.setFrame f { x with done := some (0, len) }).setEgr (pkey 1 q) { e with reserve := e.reserve.set [] b (r ++ [f]) }
        if r.isEmpty then s.reservePull q b else s
      else
        (s.puttyDrop f).record (some (x.core / 8)) 6 0 1 x.core (BitVec.ofNat 32 x.ftag) 0
    | none =>
      let e := s.eg x.out_ x.eport
      let tfc := x.out_ == 1 && e.tfc
      let miss := tfc && result == 0 && ((e.bucketFor x.len).map (fun b => e.bucket b) != some len)
      let s := if miss then
          (s.evtSet DLV_EVT DLV_EVT_EN 34 DLV_EVT_BUCKET_MISMATCH).record none 6 2 8 (16 + x.eport)
            (BitVec.ofNat 32 x.ftag) 0
        else s
      if result = 1 then s.drop f 2
      else if result ≠ 0 || miss then s.drop f 11
      else
        let s := s.setFrame f { x with done := some (0, len) }
        if x.stage = .released then s.pullAll f else s

/-! A core's frame registers (R93, R99, R100) -/

/-- A read of FRM_NEXT word 0 pops the oldest descriptor and captures words 1 to 3; its value (R99). -/
def State.frmNext (s : State) (g : Nat) : State × Word :=
  let c := s.core g
  match c.fnext with
  | [] => (s.setCore g { c with nextCap := [0, 0, 0] }, 0)
  | d :: ds => (s.setCore g { c with fnext := ds, popped := c.popped ++ [d], nextCap := [d.w1, d.w2, d.w3] }, d.w0)

/-- FRM_ARRIVED of a core. -/
def Core.frmArrived (c : Core) : Word :=
  match c.popped with
  | [] => 0
  | d :: _ => d.arrived

/-- A report whose FTAG is not the oldest popped frame's (R100). [Marks: DEDUCED (log entry 35)] -/
def State.frmStray (s : State) (g tag : Nat) : State := s.record (some (g / 8)) 6 0 1 g (BitVec.ofNat 32 tag) 0

/-- A write of FRM_PROGRESS (R99, R100). [Marks: DEDUCED (log entry 32)] -/
def State.frmProgress (s : State) (g : Nat) (v : Word) : State :=
  let c := s.core g
  let tag := v.toNat % 2 ^ 18
  let n := v.toNat / 2 ^ 26
  match c.popped with
  | d :: ds =>
    if d.w0.toNat % 2 ^ 18 ≠ tag then s.frmStray g tag
    else if n < d.cells then s
    else (s.setCore g { c with popped := { d with cells := n } :: ds }).linkPush (2 * (g / 8) + 1) (.progress d.fid n)
  | [] => s.frmStray g tag

/-- The completion of a frame at its core: QDEPTH, TFREE and an overrun (R93). [Marks: DEDUCED (log entry 32)] -/
def State.completeAt (s : State) (g f : Nat) : State :=
  let x := s.frame f
  let now := s.timebase
  let s := s.setFrame f { x with atCore := false, cells := if x.drop ≠ 0 then 0 else x.cells }
  let s := if s.qdepth g = 0 then s.setTfree g now else s
  if wle now x.c then s
  else
    let s := ((s.inc32 (CORE_OVR 0 g)).inc32 (CORE_OVR 1 g)).setTfree g (wmax (s.tfreeOf g) now)
    s.recordMs (some (g / 8)) 5 0 1 g g (BitVec.ofNat 32 x.ftag) (now - x.c)

/-- A commit of FRM_DONE: the oldest popped frame is complete (R93, R99, R100).
[Marks: DEDUCED (log entries 32, 35)] -/
def State.frmDone (s : State) (g : Nat) (lo hi : Word) : State :=
  let c := s.core g
  let tag := lo.toNat % 2 ^ 18
  let result := min (hi.toNat / 2 ^ 28) 2
  let len := hi.toNat / 2 ^ 14 % 2 ^ 14
  match c.popped with
  | d :: ds =>
    if d.w0.toNat % 2 ^ 18 ≠ tag then s.frmStray g tag
    else
      let s := (s.setCore g { c with popped := ds }).completeAt g d.fid
      let x := s.frame d.fid
      if x.drop ≠ 0 then (if x.stage = .gone then s.prune d.fid else s)
      else s.linkPush (2 * (g / 8) + 1) (.done d.fid result len)
  | [] => s.frmStray g tag

/-- A core read of FRM_NEXT word 0 (R99). -/
def execFrmNextPop (g : CoreId) (s : State) : Host.Outcome State Fault Refusal := .next (s.frmNext g).1
/-- A core's progress report (R99, R100). -/
def execFrmProgress (g : CoreId) (v : Word) (s : State) : Host.Outcome State Fault Refusal := .next (s.frmProgress g v)
/-- A core's completion report, both words in one access (R99, R100). -/
def execFrmDone (g : CoreId) (lo hi : Word) (s : State) : Host.Outcome State Fault Refusal := .next (s.frmDone g lo hi)

/-! Link events (R101 to R104, R115) -/

/-- The number of a direction. -/
def linkKey (c : ClId) (d : LinkDir) : Nat :=
  match d with
  | .inb => 2 * c.val
  | .outb => 2 * c.val + 1

/-- The link carries cells. -/
def State.linkLive (s : State) (c : Nat) : Bool :=
  s.flag (CLINK_STAT c) CLINK_STAT_UP && !s.flag (CLINK_STAT c) CLINK_STAT_FENCED

/-- A replay starts 40 FCLK after a NACK or a timeout; the eighth in succession fences the link (R102, R103, R115).
[Marks: DEDUCED (log entry 31)] -/
def State.linkRetry (s : State) (k : Nat) : State :=
  let a := CLINK_STAT (k / 2)
  let l := s.link k
  let n := s.fld a (runFld k) + 1
  let at_ := s.now + 80
  let s := (s.setLink k { l with replayAt := at_, sentAt := at_ }).inc64 (CLINK_CNT (k / 2) (k % 2))
  let s := s.setFld a (runFld k) n
  if 8 ≤ n then s.fenceLink (k / 2) 1 else s

/-- A message is performed at the far end. [Marks: DEDUCED (log entry 31)] -/
def State.linkTake (s : State) (ecc : Ecc) : LMsg → State
  | .desc f => s.takeDesc f
  | .cell f i bs last => s.takeCell f i bs last (ecc == .ue)
  | .arrival f d => s.takeArrival f d
  | .pull f i _ => s.takePull f i ecc
  | .progress f n => s.takeProgress f n
  | .done f r n => s.takeDone f r n

/-- The oldest unacknowledged cell of a direction arrives; `err` is the change that the line made to its CRC, so a cell
whose CRC is wrong is answered with a NACK, and one that is right is accepted, acknowledged and performed (R101, R102).
[Marks: DEDUCED (log entry 31)] -/
def execClinkCellRx (c : ClId) (d : LinkDir) (err : Word) (ecc : Ecc) (s : State) : Host.Outcome State Fault Refusal :=
  let k := linkKey c d
  let l := s.link k
  match l.sent with
  | [] => .next s
  | m :: ms =>
    if !s.linkLive c then .next s
    else
      let s := s.upTo l.replayAt
      if err ≠ 0 then .next ((s.inc64 (CLINK_CNT c (2 + k % 2))).linkRetry k)
      else
        let a := CLINK_STAT c
        let s := s.setLink k { l with sent := ms, seq := (l.seq + 1) % 256, sentAt := s.now }
        let s := (s.setFld a (runFld k) 0).setFld a (creditFld k) (s.fld a (creditFld k) + 1)
        .next ((s.linkFill k 1).linkTake ecc m)

/-- The oldest cell has been unacknowledged for 64 FCLK (R102). [Marks: DEDUCED (log entry 31)] -/
def execClinkCellTimeout (c : ClId) (d : LinkDir) (s : State) : Host.Outcome State Fault Refusal :=
  let k := linkKey c d
  let l := s.link k
  if l.sent.isEmpty || !s.linkLive c then .next s else .next ((s.upTo (l.sentAt + 128)).linkRetry k)

/-- The audit at an idle point: the sender's credits and the cells in flight make 64 (R104).
[Marks: DEDUCED (log entry 31)] -/
def State.linkAudit (s : State) (k : Nat) : State :=
  let l := s.link k
  let s := s.setLink k { l with idleAt := s.now }
  if s.fld (CLINK_STAT (k / 2)) (creditFld k) + l.sent.length = 64 then s else s.fenceLink (k / 2) 2

/-- An idle point of a direction (R104). -/
def execClinkCreditAudit (c : ClId) (d : LinkDir) (s : State) : Host.Outcome State Fault Refusal :=
  if s.linkLive c then .next (s.linkAudit (linkKey c d)) else .next s

/-- A direction with no idle point for 1 ms inserts one idle FCLK (R104). -/
def execClinkIdleInsert (c : ClId) (d : LinkDir) (s : State) : Host.Outcome State Fault Refusal :=
  let k := linkKey c d
  if s.linkLive c then .next ((s.upTo ((s.link k).idleAt + 2000000)).linkAudit k) else .next s

/-- A write of 1 to CLINK_CTL_c.FENCE (R115). -/
def execClinkFence (c : ClId) (s : State) : Host.Outcome State Fault Refusal :=
  .next ((s.setFlag (CLINK_CTL c) ⟨31, 31⟩ true).fenceLink c 3)

/-- A write of CLINK_POOL_c: applied, or ignored as a whole (R115). -/
def State.poolWrite (s : State) (c : Nat) (v : Word) : State :=
  let base := v.fld CLINK_POOL_POOL_BASE
  let cells := v.fld CLINK_POOL_POOL_CELLS
  if s.flag CLINK_LOCKR ⟨0, 0⟩ || decide (cells = 0 ∨ 16384 < base + cells) then s
  else s.wr (CLINK_POOL c) (v &&& 0x3FFF7FFF)

/-- A write of CLINK_POOL_c by a principal (R115). -/
def execClinkPoolWrite (who : Prin) (c : ClId) (v : Word) (s : State) : Host.Outcome State Fault Refusal :=
  .next (s.guarded who (CLINK_POOL c) (fun s => s.poolWrite c v))

/-- Training completes: the link is UP and no longer fenced (R103, R115). -/
def execClinkTrained (c : ClId) (s : State) : Host.Outcome State Fault Refusal :=
  let a := CLINK_STAT c
  if s.domain (96 + c) ≠ 2 ∨ s.domain 120 ≠ 2 ∨ s.domain 121 ≠ 2 then .next s
  else if s.linkLive c then .next s
  else
    let s := s.clearLink c
    let s := ((s.setFlag a CLINK_STAT_UP true).setFlag a CLINK_STAT_FENCED false).setFld a CLINK_STAT_FENCE_CAUSE 0
    let s := (s.setFld a CLINK_STAT_IN_RUN 0).setFld a CLINK_STAT_OUT_RUN 0
    let s := s.setFlag (CLINK_CTL c) ⟨31, 31⟩ false
    .next (s.raiseShared c 65)

/-- CLINK_LOCK bit 0 is set (R115). -/
def execClinkLock (who : Prin) (s : State) : Host.Outcome State Fault Refusal :=
  .next (s.guarded who CLINK_LOCKR (fun s => s.setFlag CLINK_LOCKR ⟨0, 0⟩ true))

end Sys2Proof.Machine
end

