-- ==== Sys2Proof/Machine/Reseq.lean ====
section
/-! DEFINITION. The Resequencers, the replay check, deadlines and the frame ledger's audit. -/

namespace Sys2Proof.Machine

/-! The replay check (R107) -/

/-- The bitmap of key k of an SA. -/
def State.bitmapOf (s : State) (sa : Nat) (k : Bool) : BitVec 256 := s.bitmap.get 0 (2 * sa + b2n k)
def State.setBitmap (s : State) (sa : Nat) (k : Bool) (b : BitVec 256) : State :=
  { s with bitmap := s.bitmap.set 0 (2 * sa + b2n k) b }

/-- The check of R107 for next PN np: REPLAY_MODE 3 acts as 1 (R83). -/
def replayOk (mode win np pn : Nat) (bm : BitVec 256) : Bool :=
  match mode with
  | 0 => true
  | 2 => !(decide (pn + 256 < np) || (decide (pn < np) && bm.getLsbD (np - 1 - pn)))
  | _ => !(decide (win < np) && decide (pn < np - win))

/-- The bitmap after PN pn is accepted and the next PN has become np'. -/
def bitmapNext (mode np np' pn : Nat) (bm : BitVec 256) : BitVec 256 :=
  let bm := bm <<< (np' - np)
  if mode = 2 then bm ||| (BitVec.ofNat 256 (2 ^ (np' - 1 - pn))) else bm

/-- An accepted decrypt frame advances its key (R107), and a replicated SA's next PN goes, or becomes due, to its partner (R519). -/
def State.replayTake (s : State) (sa : Nat) (k : Bool) (pn : Nat) : State :=
  let np := s.rd64 (SA_NEXT_PN sa (b2n k))
  let np' := max np (pn + 1)
  let s := s.setBitmap sa k (bitmapNext (s.fld (SA_CFG sa) SA_CFG_REPLAY_MODE) np np' pn (s.bitmapOf sa k))
  let s := s.wr64 (SA_NEXT_PN sa (b2n k)) np'
  if np < np' then s.replAdvance sa k else s

/-! Release (R105, R108) -/

/-- CT_THRESH of a port as it acts: 0 acts as 1 (R114). -/
def State.ctThresh (s : State) (sd p : Nat) : Nat := max 1 (s.fld (RSQ_PORT_CFG sd p) RSQ_PORT_CFG_CT_THRESH)

/-- The release condition of a head frame (R105). -/
def State.mayRelease (s : State) (sd p : Nat) (x : Frame) : Bool :=
  x.done.isSome || (sd == 1 && !(s.eg 1 p).ztf && x.spill.isNone && decide (s.ctThresh 1 p ≤ x.prog))

/-- A frame leaves the order of its partition, which frees its descriptor slot.
[Marks: DESIGN CHOICE (log entry 37)] -/
def State.leaveOrder (s : State) (sd p f : Nat) : State :=
  let e := s.eg sd p
  s.setEgr (pkey sd p) { e with order := e.order.filter (fun i => i != f) }

/-- A released frame: its complete cells are pulled over the outbound link; a spilled frame's output stands in the pool of
its cluster (R105, R516). -/
def State.release (s : State) (sd p f : Nat) : State :=
  let s := s.leaveOrder sd p f
  let e := s.eg sd p
  let s := s.setEgr (pkey sd p) { e with released := e.released ++ [f] }
  (s.setFrame f { s.frame f with stage := .released }).pullAll f

/-- The head of an egress partition is skipped, dropped, checked for replay, or released (R105, R107, R108).
[Marks: DESIGN CHOICE (log entry 37)] -/
def execReseqRelease (sd : Side) (p : PortId) (s : State) : Host.Outcome State Fault Refusal :=
  let d := sideN sd
  match (s.eg d p).order with
  | [] => .next s
  | f :: _ =>
    let x := s.frame f
    if x.drop ≠ 0 then
      let s := s.leaveOrder d p f
      .next ((s.setFrame f { x with stage := .gone }).prune f)
    else if !wle s.timebase x.latest then .next (s.deadlineMiss f)
    else if !s.mayRelease d p x then .next s
    else if d = 0 then
      let mode := s.fld (SA_CFG x.sa) SA_CFG_REPLAY_MODE
      let np := s.rd64 (SA_NEXT_PN x.sa (b2n x.key))
      if replayOk mode (s.rd (SA_REPLAY_WIN x.sa)).toNat np x.pn (s.bitmapOf x.sa x.key) then
        .next ((s.replayTake x.sa x.key x.pn).release d p f)
      else .next ((s.drop f 3).evtSet (RSQ_EVT d) (RSQ_EVT_EN d) (32 + d) RSQ_EVT_REPLAY)
    else .next (s.release d p f)

/-- The frame of an egress port whose latest start passes first: among its released frames and its head. -/
def State.firstDue (s : State) (sd p : Nat) : Option Nat :=
  let e := s.eg sd p
  let l := (e.released ++ e.order.take 1).filter (fun f => (s.frame f).drop == 0)
  l.foldl (fun (b : Option Nat) f =>
    match b with
    | none => some f
    | some g => if wle (s.frame g).latest (s.frame f).latest then some g else some f) none

/-- A frame that has not begun transmission by its latest start is dropped where it waits (R108). -/
def execDeadlineMiss (sd : Side) (p : PortId) (s : State) : Host.Outcome State Fault Refusal :=
  match s.firstDue (sideN sd) p with
  | none => .next s
  | some f => .next ((s.upTo (s.absTime (s.frame f).latest + 1)).deadlineMiss f)

/-- RSQ_LOCK bit 0 is set (R114). -/
def execRsqLock (who : Prin) (sd : Side) (s : State) : Host.Outcome State Fault Refusal :=
  .next (s.guarded who (RSQ_LOCKR (sideN sd)) (fun s => s.setFlag (RSQ_LOCKR (sideN sd)) ⟨0, 0⟩ true))

/-- PRISM_LOCK bit 0 is set (R112). -/
def execPrismLock (who : Prin) (sd : Side) (s : State) : Host.Outcome State Fault Refusal :=
  .next (s.guarded who (PRISM_LOCKR (sideN sd)) (fun s => s.setFlag (PRISM_LOCKR (sideN sd)) ⟨0, 0⟩ true))

/-! The ledger (R109, R110, R116) -/

/-- The sum of the 32 reason counters from an address. [Marks: DEDUCED (log entry 34)] -/
def State.sumCodes (s : State) (a : Nat → Nat) : Nat := ((range 0 32).map (fun k => s.rd64 (a k))).foldl (· + ·) 0

/-- Frames of an ingress port that the Prism has not decided yet. [Marks: DEDUCED (log entry 34)] -/
def State.undecided (s : State) (sd p : Nat) : Nat :=
  (s.framesWith (fun x => x.stage == .wait && x.side == sd && x.port == p)).length

/-- The identities of R110 hold in the ledger of a port, modulo 2^64. [Marks: DEDUCED (log entry 34)] -/
def State.ledgerOk (s : State) (sd p : Nat) : Bool :=
  let l (k : Nat) : Nat := s.rd64 (LEDGER sd p k)
  l 0 % 2 ^ 64 == (l 1 + l 2 + l 3 + (s.rd (LEDGER_INFLIGHT sd p)).toNat + s.undecided sd p) % 2 ^ 64
    && l 2 == s.sumCodes (LEDGER_REFUSED sd p) % 2 ^ 64 && l 3 == s.sumCodes (LEDGER_DROPPED sd p) % 2 ^ 64

/-- The audit of one ledger: a failure is counted, signalled and, where the audit before it passed, recorded
(R110, R116, R453, R454). [Marks: DEDUCED (log entry 34)] -/
def State.auditPort (s : State) (sd p : Nat) : State :=
  let k := 18 * 65536 + 16 * sd + p
  if s.ledgerOk sd p then { s with lastRec := s.lastRec.set 0 k 0 }
  else
    let s := s.incSat LEDGER_STAT LEDGER_STAT_FAIL_COUNT
    let s := (s.setFld LEDGER_STAT LEDGER_STAT_LAST_SIDE sd).setFld LEDGER_STAT LEDGER_STAT_LAST_PORT p
    let s := s.raiseDev 37
    if s.lastRec.get 0 k ≠ 0 then s
    else { s with lastRec := s.lastRec.set 0 k (s.now + 1) }.record none 18 0 8 (16 * sd + p)
      (BitVec.ofNat 32 (16 * sd + p)) (BitVec.ofNat 32 (s.fld LEDGER_STAT LEDGER_STAT_FAIL_COUNT))

/-- The ledger checker runs (R110). -/
def execLedgerAudit (s : State) : Host.Outcome State Fault Refusal :=
  if !s.flag LEDGER_CTL LEDGER_CTL_ENABLE then .next s
  else .next ((range 0 32).foldl (fun (s : State) i => s.auditPort (i / 16) (i % 16)) s)

/-- LEDGER_CTL.LOCK is set (R116). -/
def execLedgerLock (who : Prin) (s : State) : Host.Outcome State Fault Refusal :=
  .next (s.guarded who LEDGER_CTL (fun s => s.setFlag LEDGER_CTL LEDGER_CTL_LOCK true))

end Sys2Proof.Machine
end

