-- ==== Sys2Proof/Machine/Delivery.lean ====
section
/-! DEFINITION. ZTF and Putty shaping, the cost tables' commit, and the SA registers that act when written. -/

namespace Sys2Proof.Machine

/-! Committing the ZTF values (R131, R133, R140) -/

/-- The staged schedule's words. [Marks: DEDUCED (log entry 36)] -/
def State.stagedSched (s : State) (q : Nat) : SMap Word :=
  (range 0 4).foldl (fun (m : SMap Word) i => m.set 0 i (s.rd (ZTF_SCHED q i))) []

/-- The checks of a commit in the order of ERR; 0 when all pass. The bucket, schedule, cover and depth checks are those of a
TFC port. [Marks: DEDUCED (log entry 36)] -/
def State.ztfErr (s : State) (q : Nat) : Nat :=
  let cfg := s.rd (ZTF_CFG q)
  let n := s.fld (ZTF_SCHED_LEN q) ⟨6, 0⟩
  let m := s.stagedSched q
  let size (b : Nat) : Nat := bucketOf (s.rd (ZTF_BUCKET q 0)) (s.rd (ZTF_BUCKET q 1)) b
  let used := usedOf m (min n 64)
  let rising : List Nat → Bool := fun l => (l.zip l.tail).all (fun p => decide (p.1 < p.2))
  let sizes := used.map size
  let sa := cfg.fld ZTF_CFG_COVER_SA
  let sc := s.rd (SA_CFG sa)
  if cfg.fld ZTF_CFG_TFC = 0 then 0
  else if cfg.fld ZTF_CFG_ZTF = 0 then 1
  else if sizes.any (fun z => decide (z % 16 ≠ 0 ∨ z < 128 ∨ s.portMax 1 q < z)) || !rising sizes then 2
  else if n = 0 ∨ 64 < n then 3
  else if sc.fld SA_CFG_VALID = 0 ∨ sc.fld SA_CFG_DIR ≠ 0 ∨ sc.fld SA_CFG_FORMAT ≠ 2 ∨ sc.fld SA_CFG_EGRESS_PORT ≠ q then 4
  else if cfg.fld ZTF_CFG_RESERVE_DEPTH = 0 then 5
  else 0

/-- A write of 1 to ZTF_CTL_q.COMMIT (R140). [Marks: DEDUCED (log entry 36)] -/
def State.ztfCommit (s : State) (q : Nat) : State :=
  let st := ZTF_STAT q
  if s.portOn 1 q then s.setFld st ZTF_STAT_ERR 6
  else
    let err := s.ztfErr q
    let s := s.setFld st ZTF_STAT_ERR err
    if err ≠ 0 then s
    else
      let cfg := s.rd (ZTF_CFG q)
      let e := s.eg 1 q
      let s := s.setEgr (pkey 1 q) { e with
        cfg := cfg, etype := s.rd (ZTF_ETYPE q), b01 := s.rd (ZTF_BUCKET q 0), b23 := s.rd (ZTF_BUCKET q 1),
        sched := s.stagedSched q, schedLen := s.fld (ZTF_SCHED_LEN q) ⟨6, 0⟩ }
      let s := s.setFld st ZTF_STAT_ZTF_ON (cfg.fld ZTF_CFG_ZTF)
      let s := s.setFld st ZTF_STAT_TFC_ON (cfg.fld ZTF_CFG_TFC)
      s.setFld st ZTF_STAT_TAGGED_ON (cfg.fld ZTF_CFG_TAGGED)

/-- A commit of the staged values of a black port (R140). -/
def execZtfCommit (who : Prin) (p : PortId) (s : State) : Host.Outcome State Fault Refusal :=
  .next (s.guarded who (ZTF_CTL p) (fun s => s.ztfCommit p))

/-- DLV_LOCK bit 0 is set (R137). -/
def execDlvLock (who : Prin) (s : State) : Host.Outcome State Fault Refusal :=
  .next (s.guarded who DLV_LOCKR (fun s => s.setFlag DLV_LOCKR ⟨0, 0⟩ true))

/-! Putty (R133 to R136) -/

/-- Putty frames of bucket b of a port: in its reserve, and those that its jobs have still to build.
[Marks: DESIGN CHOICE (log entry 37)] -/
def State.puttyCount (s : State) (q b : Nat) : Nat :=
  (s.framesWith (fun x => x.putty == some b && x.eport == q && x.drop == 0)).length

/-- The job frame: the bucket size in its first two bytes (R133). [Marks: DESIGN CHOICE (log entry 37)] -/
def jobFrame (size : Nat) : List Byte := toBE 2 size ++ List.replicate 62 0

/-- A Putty job is admitted: its core, charge and pool cells as a frame's, no descriptor slot (R133, R134).
[Marks: DESIGN CHOICE (log entry 37)] -/
def State.puttyAdmit (s : State) (q b sa : Nat) (k : Bool) (np cls core : Nat) (c : Word) (pb buf cells : Nat) : State :=
  let e := s.eg 1 q
  let w := s.prd (SA_KEY sa)
  let size := e.bucket b
  let f := s.nextFid
  let tag := (Config.freeDWord s.free).toNat % 2 ^ 18
  let x : Frame := { Frame.none with
    at_ := s.now, len := 64, fc := 64, ended := true, stage := .admitted, sa := sa, fmt := 2, key := k, skb := keySkb w k,
    cls := cls, an := keyAn w k, pn := np, core := core, c := c, pb := pb, eport := q, outL := size, buf := buf,
    cells := cells, ftag := tag, atCore := true, putty := some b, sent := 1 }
  let s := { s with nextFid := f + 1, free := s.free + 1 }
  let s := (s.setFrame f x).pnTake sa k np
  let s := { s.setTfree core c with chosen := s.chosen.set 0 0 (core + 1) }
  let s := (s.linkPush (2 * (core / 8)) (.desc f)).linkPush (2 * (core / 8)) (.cell f 0 (jobFrame size) true)
  s.prismWake core

/-- A Putty job refused (R133). -/
def State.puttyRefuse (s : State) (q : Nat) : State := s.inc64 (ZTF_CNT q 3)

/-- The red Prism's decision on a Putty job of bucket b (R133): NO_KEY, PN_EXHAUSTED, NO_HOME and POOL_FULL refuse it.
[Marks: DESIGN CHOICE (log entry 37)] -/
def State.puttyJob (s : State) (q b : Nat) : State :=
  let e := s.eg 1 q
  let sa := e.cfg.fld ZTF_CFG_COVER_SA
  let cls := e.cfg.fld ZTF_CFG_PUTTY_CLASS
  let l := e.bucket b
  let t := tw (2 * s.fclk)
  match s.pnCheck sa with
  | .inl (_, stop) => (if stop then s.stopSa sa else s).puttyRefuse q
  | .inr (k, np) =>
    match s.chooseCore 0 sa cls t with
    | none => s.puttyRefuse q
    | some g =>
      match s.costEntry (s.coreEpoch g) cls with
      | none => s.puttyRefuse q
      | some (base, block) =>
        let cells := (l + 64 + 255) / 256
        match s.allocCells (g / 8) cells with
        | none => s.puttyRefuse q
        | some buf =>
          let c := wmax (s.tfreeOf g) (t + 32) + tw (base + block * ((l + 15) / 16))
          s.puttyAdmit q b sa k np cls g c block buf cells

/-- The red Prism issues a Putty job for a reserve below its depth, at most two in one FCLK (R133). -/
def execPuttyJob (p : PortId) (b : R3) (s : State) : Host.Outcome State Fault Refusal :=
  let e := s.eg 1 p
  let b := b.toNat
  if !s.portOn 1 p || !e.tfc || !e.used.contains b
      || decide (e.cfg.fld ZTF_CFG_RESERVE_DEPTH ≤ s.puttyCount p b) then .next s
  else
    let full := s.decAt.get 0 2 == s.fclk + 1 && decide (2 ≤ s.decN.get 0 2)
    let s := if full then s.upTo (2 * (s.fclk + 1)) else s
    let count (s : State) (k : Nat) : State :=
      let n := if s.decAt.get 0 k = s.fclk + 1 then s.decN.get 0 k else 0
      { s with decAt := s.decAt.set 0 k (s.fclk + 1), decN := s.decN.set 0 k (n + 1) }
    .next ((count (count s 2) 0).puttyJob p b)

/-- Every used reserve of an enabled TFC port is full: the slot stream starts at slot 0 (R136). -/
def execTfcStreamStart (p : PortId) (s : State) : Host.Outcome State Fault Refusal :=
  let e := s.eg 1 p
  let full := e.used.all (fun b => decide (e.cfg.fld ZTF_CFG_RESERVE_DEPTH ≤ (e.reserve.get [] b).length))
  if !s.portOn 1 p || !e.tfc || !full || s.flag (ZTF_STAT p) ZTF_STAT_RUNNING then .next s
  else
    let s := s.setFlag (ZTF_STAT p) ZTF_STAT_RUNNING true
    .next (s.setEgr (pkey 1 p) { e with streamAt := s.now + 1, slot := 0, slotAt := s.now })

/-- The Putty copy of bucket b is emitted and the next head pulled (R134). -/
def State.sendPutty (s : State) (q b f : Nat) (n : Nat) : State :=
  let x := s.frame f
  let e := s.eg 1 q
  let body := x.out.flatten.take (n - 4)
  let s := (s.portCount 1 q 8 1).portCount 1 q 9 n
  let s := s.inc64 (ZTF_CNT q 1)
  let s := (s.setFrame f Frame.none).emit (.frame 1 q (body ++ toLE 4 (crc32 body)))
  (s.setEgr (pkey 1 q) { e with reserve := e.reserve.set [] b ((e.reserve.get [] b).filter (fun i => i != f)) }).reservePull q b

/-- A slot with neither a real frame nor Putty: idle, counted and recorded (R135). -/
def State.starve (s : State) (q b : Nat) : State :=
  let s := (s.inc64 (ZTF_CNT q 2)).evtSet DLV_EVT DLV_EVT_EN 34 DLV_EVT_PUTTY_STARVE
  s.record none 9 0 8 (16 + q) (BitVec.ofNat 32 q) (BitVec.ofNat 32 b)

/-- What a slot of bucket b carries: the next released frame if it is the slot's, else Putty, else idle (R132, R135).
[Marks: DEDUCED (log entry 30)] -/
def State.fillSlot (s : State) (q b : Nat) : State :=
  let e := s.eg 1 q
  let real := match e.released with
    | [] => none
    | f :: _ => if (s.frame f).handed && (s.frame f).outL == e.bucket b then some f else none
  match real with
  | some f => s.txFrame 1 q f (e.bucket b)
  | none =>
    match e.reserve.get [] b with
    | [] => s.starve q b
    | f :: _ => if (s.frame f).whole then s.sendPutty q b f (e.bucket b) else s.starve q b

/-- A slot of a running stream starts (R131, R132, R134, R135); a frame past its latest start is dropped first (R108).
[Marks: DEDUCED (log entry 30)] -/
def execSlotStart (p : PortId) (s : State) : Host.Outcome State Fault Refusal :=
  let e := s.eg 1 p
  if e.streamAt = 0 ∨ e.schedLen = 0 then .next s
  else
    let s := s.upTo e.slotAt
    let late := e.released.filter (fun f => !wle s.timebase (s.frame f).latest)
    let s := late.foldl (fun (s : State) f => s.deadlineMiss f) s
    let b := e.slotBucket e.slot
    let e := s.eg 1 p
    let s := s.setEgr (pkey 1 p) { e with slot := (e.slot + 1) % e.schedLen, slotAt := e.slotAt + e.slotCyc (s.portRate 1 p) b }
    let s := s.inc64 (ZTF_CNT p 0)
    .next (if s.linkUp 1 p then s.fillSlot p b else s)

/-! The cost tables (R95 to R98) -/

/-- The bytes of a slot's window. -/
def State.costBytes (s : State) (t n : Nat) : List Byte :=
  ((range 0 (n / 4)).map (fun i => toLE 4 (s.rd (COST t i)).toNat)).flatten

/-- The checks of R98 on a table's bytes, ERR 1 to 5; 0 when all pass. [Marks: DEDUCED (log entry 60)] -/
def costErr (bs : List Byte) : Nat :=
  let w (o n : Nat) : Nat := leNat ((bs.drop o).take n)
  let count := w 6 2
  let n := 32 + 16 * count
  let zero := (bs.take 0x1C) ++ [0, 0, 0, 0] ++ ((bs.take n).drop 0x20)
  let bad (i : Nat) : Bool :=
    let o := 0x20 + 16 * i
    let valid := bitN (w (o + 3) 1) 0
    decide (2 ≤ w (o + 3) 1 ∨ w (o + 6) 10 ≠ 0)
      || (valid && decide (w o 2 = 0 ∨ w o 2 + 4 * w (o + 2) 1 < w (o + 4) 2))
  if w 0 4 ≠ 0x4254435A then 1
  else if w 4 2 ≠ 1 ∨ count = 0 ∨ 64 < count then 2
  else if w 0xC 2 ≠ 2000 then 3
  else if crc32c zero ≠ w 0x1C 4 then 4
  else if 256 ≤ w 8 4 ∨ w 0xE 14 ≠ 0 then 5
  else if (range 0 count).any bad then 5
  else 0

/-- COMMIT_t (R97, R98). [Marks: DEDUCED (log entry 60)] -/
def State.costCommit (s : State) (t : Nat) : State :=
  let a := COST_STAT t
  if s.flag a COST_STAT_VALID then s
  else
    let bs := s.costBytes t 2048
    let e := costErr bs
    let epoch := leNat ((bs.drop 8).take 4)
    let o := COST_STAT (1 - t)
    let e := if e = 0 ∧ s.flag o COST_STAT_VALID ∧ s.fld o COST_STAT_EPOCH = epoch then 7 else e
    let s := s.logWrite a
    if e ≠ 0 then s.setFld a COST_STAT_ERR e
    else
      let s := (s.setFld a COST_STAT_ERR 0).setFld a COST_STAT_EPOCH epoch
      (s.setFld a COST_STAT_COUNT (leNat ((bs.drop 6).take 2))).setFlag a COST_STAT_VALID true

/-- INVAL_t: refused while a core in service runs the slot's epoch (R98). [Marks: DEDUCED (log entry 60)] -/
def State.costInval (s : State) (t : Nat) : State :=
  let a := COST_STAT t
  let epoch := s.fld a COST_STAT_EPOCH
  let s := s.logWrite a
  if s.flag a COST_STAT_VALID && (range 0 96).any (fun g => s.rotState g == 0 && s.coreEpoch g == epoch) then
    s.setFld a COST_STAT_ERR 6
  else (s.setFlag a COST_STAT_VALID false).setFld a COST_STAT_ERR 0

/-- COMMIT_t by a principal: only the Warden may (R97, R395). -/
def execCostCommit (who : Prin) (t : Bool) (s : State) : Host.Outcome State Fault Refusal :=
  .next (s.guarded who COST_CTL (fun s => s.costCommit (b2n t)))

/-- INVAL_t by a principal. -/
def execCostInval (who : Prin) (t : Bool) (s : State) : Host.Outcome State Fault Refusal :=
  .next (s.guarded who COST_CTL (fun s => s.costInval (b2n t)))

/-! SA registers (R85, R107, R333) -/

/-- A Warden write of SA_KEY_s (R85). -/
def execSaKeyWrite (i : BitVec 12) (v : Word) (s : State) : Host.Outcome State Fault Refusal := .next (s.saKeyWrite i.toNat v)

/-- A write of a key's next PN clears its replay bitmap (R107). -/
def State.nextPnWrite (s : State) (sa : Nat) (k : Bool) (v : Nat) : State :=
  let a := SA_NEXT_PN sa (b2n k)
  (((s.logWrite a).logWrite (a + 4)).wr64 a v).setBitmap sa k 0

/-- A Warden write of SA_NEXT_PNk_s (R107). -/
def execSaNextPnWrite (i : BitVec 12) (k : Bool) (v : DWord) (s : State) : Host.Outcome State Fault Refusal :=
  .next (s.nextPnWrite i.toNat k v.toNat)

/-- A Warden read of SA_EVT_POP: the word read, and the queue without its oldest entry (R333). -/
def State.saEvtPop (s : State) : State × Word :=
  match s.saEvt with
  | [] => (s, 0)
  | (k, sa) :: es => ({ s with saEvt := es }, BitVec.ofNat 32 (2 ^ 31 + k % 4 * 2 ^ 29 + sa % 4096))

/-- A Warden read of SA_EVT_POP (R333). -/
def execSaEvtPop (s : State) : Host.Outcome State Fault Refusal := .next s.saEvtPop.1

end Sys2Proof.Machine
end

