-- ==== Sys2Proof/Machine/Memory.lean ====
section
/-! DEFINITION. The cluster's memories: CMEM arbitration, quota windows, Skim, the spare bank, column repair, DMEM bank
handovers, and the vault's restoring of key contexts. -/

namespace Sys2Proof.Machine

/-! Arbitration (R349 to R357) -/

/-- A beat presented in a phase: requester, bank, read-merge-write, and for a core's beat its place in the core's far list.
[Marks: DESIGN CHOICE (log entry 40)] -/
structure Pres where
  r : Nat
  bank : Nat
  part : Bool
  /-- it is the requester's oldest beat -/
  first : Bool
  idx : Nat
  deriving DecidableEq, Repr

/-- The CMEM accesses of a core that are not granted and were presented by the start of FCLK k, oldest first, with their
places in the far list. -/
def waiting (k : Nat) : Nat → List Far → List (Nat × Far)
  | _, [] => []
  | i, f :: fs =>
    if region f.addr.toNat == .cmem && f.granted.isNone && decide (f.at_ + 2 ≤ 2 * k) then (i, f) :: waiting k (i + 1) fs
    else waiting k (i + 1) fs

/-- What core n of a cluster presents: its two oldest beats (R350). -/
def corePres (k n : Nat) (far : List Far) : List Pres :=
  let w := (waiting k 0 far).take 2
  let mk (first : Bool) (e : Nat × Far) : Pres := ⟨n, cmemBank e.2.addr.toNat, e.2.wr && decide (e.2.size < 8), first, e.1⟩
  match w with
  | [] => []
  | [a] => [mk true a]
  | a :: b :: _ => [mk true a, mk false b]

/-- What the other requesters present: up to 2, 4, 4 and 1 beats (R350). -/
def devPres (beats : List Beat) : List Pres :=
  let one (r cap : Nat) : List Pres :=
    match (beats.filter (fun b => b.r.val + 8 == r)).take cap with
    | [] => []
    | b :: bs => ⟨r, b.bank.toNat, b.partWr, true, 0⟩ :: bs.map (fun b => ⟨r, b.bank.toNat, b.partWr, false, 0⟩)
  one 8 2 ++ one 9 4 ++ one 10 4 ++ one 11 1

/-- BASE and QUOTA of a requester as this phase sees them (R353). -/
def State.arbBase (s : State) (c r : Nat) : Nat := s.pfld (ARB_PRI c r) ARB_PRI_BASE
def State.arbQuota (s : State) (c r : Nat) : Nat := max 1 (s.pfld (ARB_PRI c r) ARB_PRI_QUOTA)

/-- Effective priority (R352). -/
def State.arbEff (s : State) (c r : Nat) : Nat := min (s.arbBase c r + (s.clu c).steps.get 0 r) 15

/-- The requester with the highest effective priority, scanning from `ptr` (R352).
[Marks: DESIGN CHOICE (log entry 40)] -/
def State.arbPick (s : State) (c ptr : Nat) (cand : List Nat) : Option Nat :=
  let e := (cand.map (s.arbEff c)).foldl max 0
  ((Sys2Proof.range 0 12).map (fun i => (ptr + i) % 12)).find? (fun r => cand.contains r && s.arbEff c r == e)

/-- The grant of bank b in phase k among the beats presented; masks as they stand (R352).
[Marks: DESIGN CHOICE (log entry 40)] -/
def State.arbBank (s : State) (c k b : Nat) (ps : List Pres) : Option Pres :=
  let x := s.clu c
  if s.vault.zeroAt ≠ 0 ∨ x.dead.get 0 b = k + 1 ∨ x.rmw.get 0 b = k + 1 then none
  else
    let cand := ps.filter (fun p => p.bank == b && !x.masked.contains p.r)
    let h := x.holder.get 0 b
    let cand := if h = 0 then cand else cand.filter (fun p => p.r + 8 * c + 1 == h && decide (p.r < 8))
    match s.arbPick c (x.ptr.get 0 b) (cand.map (fun p => p.r)) with
    | none => none
    | some r => cand.find? (fun p => p.r == r)

/-- A grant: the bank's pointer, the quota, the second cycle of a read-merge-write, and a core's access with its lock
(R352, R355, R358). [Marks: DESIGN CHOICE (log entry 40)] -/
def State.arbGrant (s : State) (c k : Nat) (p : Pres) : State :=
  let x := s.clu c
  let used := x.used.get 0 p.r + 1
  let x := { x with
    ptr := x.ptr.set 0 p.bank ((p.r + 1) % 12), used := x.used.set 0 p.r used,
    masked := if 12 ≤ s.arbBase c p.r ∧ s.arbQuota c p.r ≤ used then x.masked ++ [p.r] else x.masked,
    rmw := if p.part then x.rmw.set 0 p.bank (k + 2) else x.rmw }
  let s := (s.setClu c x).inc64 (ARB_CNT c p.r 0)
  if 8 ≤ p.r then s
  else
    let g := 8 * c + p.r
    let y := s.core g
    match y.far[p.idx]? with
    | none => s
    | some f =>
      let y := { y with far := setNth y.far p.idx { f with granted := some k } }
      if f.locked then
        let l := y.lock
        let y := { y with lock := { l with
          held := if l.held.contains p.bank then l.held else p.bank :: l.held, high := max l.high p.bank,
          first := if l.first = 0 then k + 1 else l.first } }
        let x := s.clu c
        (s.setCore g y).setClu c { x with holder := x.holder.set 0 p.bank (g + 1) }
      else s.setCore g y

/-- Every bank arbitrates on its own: the grants (R352). [Marks: DESIGN CHOICE (log entry 40)] -/
def State.arbBanks (s : State) (c k : Nat) (ps : List Pres) : State × List Pres :=
  (Sys2Proof.range 0 32).foldl (fun (a : State × List Pres) b =>
    match a.1.arbBank c k b ps with
    | none => a
    | some p => (a.1.arbGrant c k p, p :: a.2)) (s, [])

/-- A core's second beat is granted only with its first (R350): those that would not be are not presented.
[Marks: DESIGN CHOICE (log entry 40)] -/
def cutSeconds (ps won : List Pres) : List Pres :=
  ps.filter (fun p => !(decide (p.r < 8) && !p.first && !won.any (fun q => q.r == p.r && q.first)))

/-- Aging, waits and quota counts of a requester at the end of a phase (R352, R355).
[Marks: DESIGN CHOICE (log entry 40)] -/
def State.arbAge (s : State) (c r : Nat) (ps won : List Pres) (masked : Bool) : State :=
  if !ps.any (fun p => p.r == r) then s
  else
    let x := s.clu c
    let s := if masked then s.inc64 (ARB_CNT c r 3) else s
    if won.any (fun p => p.r == r && p.first) then
      s.setClu c { x with steps := x.steps.set 0 r 0, waits := x.waits.set 0 r 0 }
    else
      let w := x.waits.get 0 r + 1
      let steps := if masked then x.steps else x.steps.set 0 r (min (x.steps.get 0 r + 1) 15)
      let s := (s.setClu c { x with steps := steps, waits := x.waits.set 0 r w }).inc64 (ARB_CNT c r 1)
      if (s.rd (MAX_WAIT c r)).toNat < w then s.wr (MAX_WAIT c r) (BitVec.ofNat 32 (min w 0xFFFFFFFF)) else s

/-- One arbitration phase of a cluster's CMEM: the cores' beats are those of their far accesses, the others' are given
(R349 to R358). A cluster has one phase in each FCLK. [Marks: DESIGN CHOICE (log entry 40)] -/
def execCmemBeatGrant (c : ClId) (beats : List Beat) (s : State) : Host.Outcome State Fault Refusal :=
  if !s.blockOn (ARB_CTL c) then .next s
  else
    let s := (s.upTo (2 * (s.clu c).phase)).performBeats c
    let k := s.fclk
    let was := (s.clu c).masked
    let ps := (Sys2Proof.range 0 8).flatMap (fun n => corePres k n (s.core (8 * c + n)).far) ++ devPres beats
    let ps := cutSeconds ps (s.arbBanks c k ps).2
    let r := s.arbBanks c k ps
    let s := (Sys2Proof.range 0 12).foldl (fun (s : State) q => s.arbAge c q ps r.2 (was.contains q)) r.1
    .next (s.setClu c { s.clu c with phase := k + 1 })

/-- A quota window ends: its counts start again and masked requesters are unmasked (R355). -/
def execQuotaWindowEnd (c : ClId) (s : State) : Host.Outcome State Fault Refusal :=
  let w := max 1 (s.fld (ARB_CTL c) ARB_CTL_WINDOW)
  let s := s.upTo (2 * ((s.fclk + w - 1) / w * w))
  .next (s.setClu c { s.clu c with used := [], masked := [] })

/-- ARB_PRI_r takes a value: the phases from the next FCLK on see it (R353, R371). -/
def State.arbPri (s : State) (c r : Nat) (v : Word) : State :=
  let a := ARB_PRI c r
  (s.logWrite a).wr a (v &&& 0x0F00FFFF)

/-- A Warden write of ARB_PRI_r (R371). -/
def execArbPriWrite (c : ClId) (r : Fin 12) (v : Word) (s : State) : Host.Outcome State Fault Refusal :=
  .next (if s.blockOn (ARB_PRI c r) then s.arbPri c r v else s)

/-! The spare bank (R365) -/

/-- A copy of bank f to the spare starts; ignored once the spare is committed (R365, R373).
[Marks: DEDUCED (log entry 41)] -/
def State.remapStart (s : State) (c f : Nat) : State :=
  if s.flag (REMAP_STAT c) REMAP_STAT_SPARE_USED then s
  else
    let s := (s.wr (REMAP_STAT c) 0).setFlag (REMAP_STAT c) REMAP_STAT_ACTIVE true
    let s := (s.setFlag (REMAP_STAT c) REMAP_STAT_SPARE_USED true).setFld (REMAP_STAT c) REMAP_STAT_BANK f
    s.setClu c { s.clu c with remap := f + 1 }

/-- REMAP_CTL.START is written with BANK (R365, R373). -/
def execRemapStart (c : ClId) (bank : R5) (s : State) : Host.Outcome State Fault Refusal :=
  if !s.blockOn (REMAP_CTL c) then .next s
  else .next ((s.setFld (REMAP_CTL c) REMAP_CTL_BANK bank.toNat).remapStart c bank.toNat)

/-- The copy ends and the spare serves every address of the bank (R365). [Marks: DEDUCED (log entry 41)] -/
def execRemapDone (c : ClId) (s : State) : Host.Outcome State Fault Refusal :=
  let x := s.clu c
  if x.remap = 0 then .next s
  else
    let a := REMAP_STAT c
    let s := ((s.setFlag a REMAP_STAT_ACTIVE false).setFlag a REMAP_STAT_DONE true).setFld a REMAP_STAT_ROW 4095
    let s := s.setFlag (MEM_EVT c) MEM_EVT_REMAP_DONE true
    .next (s.setClu c { x with remap := 0, spareBank := x.remap })

/-! Skim (R361 to R364, R448) -/

/-- An uncorrectable word in the copy of region j: its place and its value are open, its tint is both (R364).
[Marks: DEDUCED (log entry 41)] -/
def State.skimUe (s : State) (c j : Nat) : State :=
  let w := s.draw
  let v := w.2.draw
  let off := 256 * j + 8 * (w.1.toNat % 32)
  let s := v.2.cmemErr c true off
  let x := s.clu c
  s.setClu c { x with cmem := x.cmem.store off (toLE 8 v.1.toNat) .both }

/-- A row of bank b in region j has failed its test: remapped, or with the spare in use the cluster is lost (R364, R448,
R453). [Marks: DEDUCED (log entry 41)] -/
def State.skimFail (s : State) (c j b : Nat) : State :=
  let used := s.flag (REMAP_STAT c) REMAP_STAT_SPARE_USED
  let auto := s.flag (REMAP_CTL c) REMAP_CTL_AUTO
  let x := s.clu c
  let row := 32 * (j / 4) + b
  let s := s.setClu c { x with rowFails := x.rowFails.set 0 row (x.rowFails.get 0 row + 1) }
  let s := (s.inc64 (MEM_CNT c 2)).setFlag (MEM_EVT c) MEM_EVT_SKIM_FAIL true
  let s := (s.setFlag (SKIM_STAT c) SKIM_STAT_FAILED true).setFld (SKIM_STAT c) SKIM_STAT_FAIL_BANK b
  let info0 := BitVec.ofNat 32 j
  let info1 := BitVec.ofNat 32 b
  if used then s.fenceCluster c 2 (some (s.mkRec 4 3 4 (32 * c + b) info0 info1))
  else
    let s := s.record (some c) 3 (if auto then 5 else 0) 4 (32 * c + b) info0 info1
    if auto then s.remapStart c b else s

/-- Skim takes its next region: copied through the corrector, tested and restored. `failBank` is the bank of a row that
fails its test. A region with a bank that is held or being remapped is deferred; while the zeroise engine runs nothing is
tested (R360 to R364). [Marks: DEDUCED (log entry 41)] -/
def execSkimRegion (c : ClId) (failBank : Option R5) (ecc : Ecc) (s : State) : Host.Outcome State Fault Refusal :=
  let x := s.clu c
  let j := x.region
  let banks := Sys2Proof.range (8 * (j % 4)) 8
  let held := banks.any (fun b => x.holder.get 0 b != 0 || x.remap == b + 1)
  if !s.blockOn (SKIM_CTL c) || !s.flag (SKIM_CTL c) SKIM_CTL_EN || held || s.vault.zeroAt != 0 then .next s
  else
    let next := (j + 1) % 16384
    let dead := banks.foldl (fun (m : SMap Nat) b => m.set 0 b (s.fclk + 1)) x.dead
    let s := s.setClu c { x with region := next, dead := dead }
    let s := (s.inc64 (MEM_CNT c 0)).setFld (SKIM_STAT c) SKIM_STAT_REGION next
    let s := match ecc with
      | .ok => s
      | .ce => s.cmemErr c false (256 * j)
      | .ue => s.skimUe c j
    match failBank with
    | some b => .next (if banks.contains b.toNat then s.skimFail c j b.toNat else s)
    | none => .next s

/-! Column repair (R344, R345, R374) -/

/-- Spare columns of an array that are in use: by fuses and by soft repairs (R344).
[Marks: DEDUCED (log entry 42)] -/
def Cluster.sparesUsed (x : Cluster) (c n a : Nat) : Nat :=
  min (Config.fuseRepairs (8 * c + n) a) 2 + ((x.repairs.get [] n).filter (fun e => decide (e / 256 = a))).length

/-- The counts of MREP_n follow the repairs in place. [Marks: DEDUCED (log entry 42)] -/
def State.mrepCount (s : State) (c n : Nat) : State :=
  let x := s.clu c
  let used := ((Sys2Proof.range 0 24).map (x.sparesUsed c n)).foldl (· + ·) 0
  (s.setFld (MREP c n) MREP_SOFT_USED (x.repairs.get [] n).length).setFld (MREP c n) MREP_FREE (48 - used)

/-- A soft repair of column `col` of array `a` of core n: a column already mapped needs no spare; without a free spare
FAIL is set (R345). [Marks: DEDUCED (log entry 42)] -/
def State.softRepair (s : State) (c n a col : Nat) : State :=
  let x := s.clu c
  let e := 256 * a + col
  if (x.repairs.get [] n).contains e then s
  else if x.sparesUsed c n a < 2 then
    (s.setClu c { x with repairs := x.repairs.set [] n (x.repairs.get [] n ++ [e]) }).mrepCount c n
  else s.setFlag (MREP c n) MREP_FAIL true

/-- MREP_n takes a value; APPLY repairs, except in an array whose core carries or may carry work (R345, R374).
[Marks: DEDUCED (log entry 42)] -/
def State.mrepWrite (s : State) (c n : Nat) (v : Word) : State :=
  let a := MREP c n
  let arr := v.fld MREP_ARRAY
  let col := v.fld MREP_COL
  let s := (s.setFld a MREP_ARRAY arr).setFld a MREP_COL col
  let st := s.rotState (8 * c + n)
  if v.fld MREP_APPLY = 1 ∧ arr < 24 ∧ st ≠ 0 ∧ st ≠ 1 ∧ st ≠ 4 then s.softRepair c n arr col else s

/-- A Warden write of MREP_n (R374). [Marks: DEDUCED (log entry 42)] -/
def execMrepApply (c : ClId) (n : R3) (v : Word) (s : State) : Host.Outcome State Fault Refusal :=
  .next (if s.blockOn (MREP c n.toNat) then s.mrepWrite c n.toNat v else s)

/-! DMEM bank handovers (R346, R348, R368) -/

/-- One bank of a DBANK_REQ write: `full` for the Warden, who alone may name or change LOADER (R348).
[Marks: DEDUCED (log entry 43)] -/
def Core.bankReq (c : Core) (full : Bool) (b new : Nat) : Core :=
  let q := c.dbBusy.get [] b
  let now := q.getLast?.getD (c.owner b)
  if new = 3 ∨ now = new ∨ (!full ∧ (new = 2 ∨ now = 2)) then c
  else { c with dbBusy := c.dbBusy.set [] b (q ++ [new]) }

/-- A write of DBANK_REQ starts the handovers that it names (R348, R368). [Marks: DEDUCED (log entry 43)] -/
def Core.dbankReq (c : Core) (full : Bool) (v : Word) : Core :=
  (Sys2Proof.range 0 8).foldl (fun (c : Core) b =>
    if bitN v.toNat (16 + b) then c.bankReq full b (bits v.toNat (2 * b + 1) (2 * b)) else c) c

/-- A principal writes DBANK_REQ of core g: the core itself at Supervisor level or above, the Warden, or a principal that may
write through its aperture (R290, R348, R395, R553). [Marks: DEDUCED (log entry 43)] -/
def execDbankReq (who : Prin) (g : CoreId) (v : Word) (s : State) : Host.Outcome State Fault Refusal :=
  let c := s.core g
  match who with
  | .warden => .next (s.setCore g (c.dbankReq true v))
  | .core h =>
    if h ≠ g ∨ !c.run then .next s
    else if c.pl = 0 then .next (s.except g 6 0 (some 0x9000384))
    else .next (s.setCore g (c.dbankReq false v))
  | who =>
    let r := s.denied who .memwin 0x10 true
    if r = 0 then .next (s.setCore g (c.dbankReq false v)) else .next (s.accRefused who 0x10 true r)

/-- The old owner's accesses to bank b have ended: OWNER takes the new value and DBANK_HO is raised (R348, R366). -/
def execDbankHandoverDone (g : CoreId) (b : R3) (s : State) : Host.Outcome State Fault Refusal :=
  let c := s.core g
  match c.dbBusy.get [] b.toNat with
  | [] => .next s
  | o :: os =>
    let s := s.setCore g { c with dbOwn := c.dbOwn.set 0 b.toNat o, dbBusy := c.dbBusy.set [] b.toNat os }
    .next (s.raisePriv g 11)

/-! Key contexts (R343) -/

/-- The vault has expanded a retired context again from its own copy; an error in the read back leaves it retired and
under repair (R343). -/
def execSkbContextRestore (c : ClId) (i : BitVec 10) (ecc : Ecc) (s : State) : Host.Outcome State Fault Refusal :=
  let x := s.clu c
  if !x.restore.contains i.toNat then .next s
  else
    let k := x.ctx i.toNat
    let has := (s.vault.keys.get none (2 * k.sa + b2n k.k)).isSome
    let done := { x with restore := x.restore.filter (fun j => j != i.toNat) }
    match ecc with
    | .ue => .next (s.skbErr c true i.toNat)
    | e =>
      let s := if e = .ce then s.skbErr c false i.toNat else s
      .next (s.setClu c { { done with errq := (s.clu c).errq } with
        skb := if has then done.skb.set SkbCtx.empty i.toNat { k with live := true } else done.skb })

end Sys2Proof.Machine
end

