-- ==== Sys2Proof/Machine/Rotation.lean ====
section
/-! DEFINITION. Rotation of the cores, loading and release, the Mirror update, and the error-record pops
(R436 to R446, R456, R462 to R466). -/

namespace Sys2Proof.Machine

/-! Draining and testing (R437, R438) -/

/-- Core g enters TEST: held in per-core reset, every DMEM bank with LOADER; pending sources that target it use FALLBACK.
`sub` is the CAUSE.SUB of its next start (R328, R438, R439). [Marks: DEDUCED (log entry 43)] -/
def State.enterTest (s : State) (g sub : Nat) : State :=
  let s := s.resetCore g sub
  let c := s.core g
  let s := s.setCore g { c with run := false, dbOwn := Core.reset.dbOwn, dbBusy := [] }
  (s.toRot g 2).fallbackAll (g / 8)

/-- The first IN_SERVICE core of cluster c after OUT_CORE, counting cyclically. -/
def State.nextOut (s : State) (c : Nat) : Option Nat :=
  let o := s.fld (ROT_STAT c) ROT_STAT_OUT_CORE
  ((Sys2Proof.range 1 8).map (fun i => 8 * c + (o + i) % 8)).find? (fun g => s.rotState g == 0)

/-- The end of a step: core d leaves service (R437). -/
def State.stepTake (s : State) (c : Nat) (spare : Option Nat) : State :=
  let s := s.setFlag (ROT_STAT c) ROT_STAT_STALLED false
  let lost := !(s.coresIn c 5).isEmpty || !(s.coresIn c 6).isEmpty
  if (!s.flag (ROT_CTL c) ROT_CTL_KEEP_SPARE && lost) || decide ((s.coresIn c 0).length < 2) then s
  else
    let x := s.clu c
    let f := 8 * c + s.fld (ROT_CTL c) ROT_CTL_FORCE_CORE
    let ok := x.forcePend && s.rotState f == 0 && spare != some f
    match (if ok then some f else s.nextOut c) with
    | none => s
    | some d =>
      let s := s.setClu c { x with forcePend := false }
      (s.toRot d 1).setFld (ROT_STAT c) ROT_STAT_OUT_CORE (d % 8)

/-- A rotation step of cluster c (R437). -/
def State.rotStep (s : State) (c : Nat) : State :=
  let s := s.setFld (ROT_STAT c) ROT_STAT_STEPS (s.fld (ROT_STAT c) ROT_STAT_STEPS + 1)
  match s.coresIn c 4 with
  | g :: _ =>
    if (s.vault.boundTo g).isSome then s.setFlag (ROT_STAT c) ROT_STAT_STALLED true
    else (s.toRot g 0).stepTake c (some g)
  | [] =>
    if (s.coresIn c 1).isEmpty && (s.coresIn c 2).isEmpty && (s.coresIn c 3).isEmpty then s.stepTake c none
    else s.setFlag (ROT_STAT c) ROT_STAT_STALLED true

/-- The step timer of a cluster (R437, R440). -/
def execRotStep (c : ClId) (s : State) : Host.Outcome State Fault Refusal :=
  if !s.blockOn (ROT_CTL c) || !s.flag (ROT_CTL c) ROT_CTL_EN then .next s
  else
    let s := s.upTo ((s.clu c).stepAt + 20 * max 150000 (s.rd (ROT_STEPR c)).toNat)
    .next ((s.setClu c { s.clu c with stepAt := s.now }).rotStep c)

/-- STEP_NOW (R462). -/
def execStepNow (c : ClId) (s : State) : Host.Outcome State Fault Refusal :=
  .next (if s.blockOn (ROT_CTL c) then s.rotStep c else s)

/-- FORCE of core n (R437, R462). -/
def State.forceCore (s : State) (c n : Nat) : State :=
  (s.setFld (ROT_CTL c) ROT_CTL_FORCE_CORE n).setClu c { s.clu c with forcePend := true }

/-- FORCE (R462). -/
def execForce (c : ClId) (n : R3) (s : State) : Host.Outcome State Fault Refusal :=
  .next (if s.blockOn (ROT_CTL c) then s.forceCore c n.toNat else s)

/-- QDEPTH of a draining core has reached 0 (R438). -/
def execRotDrainDone (g : CoreId) (s : State) : Host.Outcome State Fault Refusal :=
  if s.rotState g = 1 ∧ s.qdepth g = 0 then .next (s.enterTest g 2) else .next s

/-- DRAIN_LIMIT has passed first: the core is fenced at once (R438, R453). -/
def execRotDrainTimeout (g : CoreId) (s : State) : Host.Outcome State Fault Refusal :=
  if s.rotState g ≠ 1 ∨ s.qdepth g = 0 then .next s
  else
    let lim := max 1 (s.fld (ROT_CTL (g / 8)) ROT_CTL_DRAIN_LIMIT)
    .next ((s.upTo ((s.rotOf g).at_ + 2000 * lim)).fenceCore g 5 15 1 0)

/-- RELOAD: source 54 rises with the first core that waits for the loader (R438, R460).
[Marks: DEDUCED (log entry 45)] -/
def State.toReload (s : State) (g : Nat) : State :=
  let was := s.anyReload
  let s := s.toRot g 3
  if was then s else s.devRise 54

/-- BIST ends 1.2 ms after TEST began: the core waits for the loader, or is fenced (R345, R438, R453). A failing memory has
no spare left; which array it is, is open. [Marks: DEDUCED (log entry 45)] -/
def execBistDone (g : CoreId) (logicOk memOk : Bool) (s : State) : Host.Outcome State Fault Refusal :=
  if s.rotState g ≠ 2 then .next s
  else
    let c := g.val / 8
    let n := g.val % 8
    let s := (s.upTo ((s.rotOf g).at_ + 2400000)).inc64 (BIST_CNT c 0)
    let s := if memOk then s else s.setFlag (MREP c n) MREP_FAIL true
    let memOk := !s.flag (MREP c n) MREP_FAIL
    let ok := logicOk && memOk
    let s := s.setFlag (ROT_CORE c n) ROT_CORE_BIST_PASS ok
    if ok then .next (s.toReload g)
    else
      let s := s.inc64 (BIST_CNT c 1)
      if logicOk then
        let d := s.draw
        .next (d.2.fenceCore g 5 15 3 (BitVec.ofNat 32 (d.1.toNat % 24)))
      else .next (s.fenceCore g 5 15 2 0)

/-! Keeper registers (R210, R291, R314) -/

/-- Two regions of lines overlap. -/
def overlaps (b1 n1 b2 n2 : Nat) : Bool := decide (b1 < b2 + n2 ∧ b2 < b1 + n1)

/-- A write of KRGN_s_n: EN stays 0 where the region breaks R291. -/
def Core.krgnWrite (c : Core) (sl n : Nat) (v : Word) : Core :=
  let base := bits v.toNat 30 21
  let lines := bits v.toNat 20 11 + 1
  let gates := bits v.toNat 10 5
  let clash := (Sys2Proof.range 0 4).any (fun m =>
    let w := (c.krgn.get 0 (4 * sl + m)).toNat
    decide (m ≠ n) && bitN w 31 && overlaps base lines (bits w 30 21) (bits w 20 11 + 1))
  let ok := decide (32 ≤ base) && decide (base + lines ≤ 1024) && decide (gates ≤ lines) && !clash
  let v := (if ok then v else v &&& 0x7FFFFFFF) &&& 0xFFFFFFE0
  { c with krgn := c.krgn.set 0 (4 * sl + n) v }

/-- A write of BTB_KEY_x: the entries of context x are no longer valid (R200, R210). -/
def Core.btbKeyWrite (c : Core) (x : Nat) (v : Word) : Core :=
  { c with btbKey := c.btbKey.set 0 x (v.truncate 8), btb := c.btb.filter (fun e => e.2.ctx != x) }

/-- A Warden write of BTB_KEY_x (R210). -/
def execBtbKeyWrite (g : CoreId) (x : R4) (v : Word) (s : State) : Host.Outcome State Fault Refusal :=
  .next (s.setCore g ((s.core g).btbKeyWrite x.toNat v))

/-- A Warden write of KRGN_s_n (R291, R314). -/
def execKrgnWrite (g : CoreId) (slot : Bool) (n : BitVec 2) (v : Word) (s : State) : Host.Outcome State Fault Refusal :=
  .next (s.setCore g ((s.core g).krgnWrite (b2n slot) n.toNat v))

/-! Loading and release (R439, R443) -/

/-- The loader writes one IMEM slot: the body of an image, or zero, and its Keeper regions (R439). -/
def Core.loadSlot (c : Core) (sl : Nat) (im : Option CoreImage) : Core :=
  let keep := c.imem.filter (fun e => decide (e.1 / 0x10000 ≠ sl))
  let clear := (Sys2Proof.range 0 4).foldl (fun (c : Core) n => c.krgnWrite sl n 0) { c with imem := keep }
  match im with
  | none => clear
  | some im =>
    let c := { clear with imem := clear.imem.setRange 0 (0x10000 * sl) (im.body.take 0x10000) }
    (Sys2Proof.range 0 4).foldl (fun (c : Core) n => c.krgnWrite sl n (nth 0 im.krgn n)) c

/-- The loader's steps before RELEASE: both IMEM slots, DMEM zero, Keeper regions, and BTB keys from free bytes (R439). With
two images in service the active slot takes the older one. -/
def Core.load (c : Core) (images : List CoreImage) (keys : List Byte) : Core :=
  let act := b2n c.slotB
  let c := (c.loadSlot act images.head?).loadSlot (1 - act) (images.drop 1).head?
  let c := { c with dmem := Mem.zero }
  (Sys2Proof.range 0 16).foldl (fun (c : Core) x => c.btbKeyWrite x ((nth 0 keys x).zeroExtend 32)) c

/-- Draw free bytes. [Marks: DESIGN CHOICE (log entries 6, 7)] -/
def State.drawBytes (s : State) (n : Nat) : List Byte × State :=
  (fitTo 0 n (Config.freeBytes s.free n), { s with free := s.free + 1 })

/-- RELEASE: the core starts at vector 0 of its slot, with CAUSE.SUB as R439 has it.
[Marks: DEDUCED (log entry 45)] -/
def State.releaseCore (s : State) (g : Nat) : State :=
  let a := ROT_CORE (g / 8) (g % 8)
  let swap := s.flag a ROT_CORE_MIRROR_SWAP || decide (2 ≤ s.warden.images.length)
  let k := s.drawBytes 16
  let s := k.2
  let c := (s.core g).load s.warden.images k.1
  let slotB := c.slotB != swap
  let sub := c.resetSub
  let c := { c.perCoreReset s.now sub with
    btbKey := c.btbKey, slotB := slotB, dbOwn := [], dbBusy := [], run := true, pc := BitVec.ofNat 32 (0x10000 * b2n slotB),
    ready := s.now }
  let im := if swap ∧ 2 ≤ s.warden.images.length then (s.warden.images.drop 1).head? else s.warden.images.head?
  let s := s.setCore g (c.wrCr0 1 (BitVec.ofNat 32 (sub * 2 ^ 8)))
  let s := (s.setFlag a ROT_CORE_MIRROR_SWAP false).setFlag a ROT_CORE_SLOT slotB
  let s := s.setFld a ROT_CORE_EPOCH ((im.map CoreImage.epoch).getD 0)
  s.setRot g { s.rotOf g with at_ := s.now, starting := true }

/-- The Warden ends RELOAD; ignored in other states (R439, R464). -/
def execRelease (g : CoreId) (s : State) : Host.Outcome State Fault Refusal :=
  if s.rotState g = 3 ∧ !(s.rotOf g).starting then .next (s.releaseCore g) else .next s

/-- Cores that run the new epoch of a Mirror update (R469). -/
def State.coresNew (s : State) : Nat :=
  ((Sys2Proof.range 0 96).filter (fun g =>
    let st := s.rotState g
    (st == 0 || st == 1 || st == 4) && s.coreEpoch g == s.fld MIRROR_STAT MIRROR_STAT_NEW_EPOCH)).length

/-- A core's start-up code ends start-up (R439, R466). -/
def State.rotReady (s : State) (g : Nat) : State :=
  let r := s.rotOf g
  let c := g / 8
  if s.rotState g ≠ 3 ∨ !r.starting then s
  else
    let out := s.fld (ROT_STAT c) ROT_STAT_OUT_CORE
    let s := s.toRot g (if r.first ∧ g % 8 ≠ out then 0 else 4)
    let s := s.setRot g { s.rotOf g with first := false }
    let c' := s.core g
    let s := s.setCore g { c' with resetSub := 2 }
    let e := s.fld (ROT_CORE c (g % 8)) ROT_CORE_EPOCH
    let s := (s.setFld (CORE_Q 0 g) CORE_Q_EPOCH e).setFld (CORE_Q 1 g) CORE_Q_EPOCH e
    if s.flag MIRROR_STAT MIRROR_STAT_ACTIVE then s.setFld MIRROR_STAT MIRROR_STAT_CORES_NEW s.coresNew else s

/-- The core's own write of ROT_RDY with READY (R290, R466). -/
def execRotRdy (g : CoreId) (v : Word) (s : State) : Host.Outcome State Fault Refusal :=
  let c := s.core g
  if !c.run then .next s
  else if c.pl = 0 then .next (s.except g 6 0 (some 0x9000388))
  else if v &&& 1 = 1 then .next (s.rotReady g) else .next s

/-- No ROT_RDY within 50 µs of RELEASE (R439, R453). -/
def execStartupTimeout (g : CoreId) (s : State) : Host.Outcome State Fault Refusal :=
  let r := s.rotOf g
  if s.rotState g = 3 ∧ r.starting then .next ((s.upTo (r.at_ + 100000)).fenceCore g 5 15 4 0) else .next s

/-- MIRROR_SWAP is set (R443, R464). [Marks: DEDUCED (log entry 45)] -/
def execMirrorSwap (g : CoreId) (s : State) : Host.Outcome State Fault Refusal :=
  .next (s.setFlag (ROT_CORE (g / 8) (g % 8)) ROT_CORE_MIRROR_SWAP true)

/-- A Warden write of STATE 5: the core is fenced, unless it is already fenced or in reset (R448, R464). -/
def execCoreFence (g : CoreId) (s : State) : Host.Outcome State Fault Refusal :=
  let st := s.rotState g
  if st = 5 ∨ st = 6 then .next s else .next (s.fenceCore g 5 25 (BitVec.ofNat 32 st) 0)

/-- Every core that is neither fenced nor in reset runs the new epoch: the update ends (R444). -/
def execMirrorDone (s : State) : Host.Outcome State Fault Refusal :=
  let new := s.fld MIRROR_STAT MIRROR_STAT_NEW_EPOCH
  let all := (Sys2Proof.range 0 96).all (fun g =>
    let st := s.rotState g
    st == 5 || st == 6 || ((st == 0 || st == 1 || st == 4) && s.coreEpoch g == new))
  if !s.flag MIRROR_STAT MIRROR_STAT_ACTIVE || !all then .next s
  else
    let old := s.fld MIRROR_STAT MIRROR_STAT_OLD_EPOCH
    let s := (s.setFlag MIRROR_STAT MIRROR_STAT_ACTIVE false).setFlag MIRROR_STAT MIRROR_STAT_DONE true
    let s := s.raiseDev 55
    let s := (Sys2Proof.range 0 12).foldl (fun (s : State) c => s.wr (ROT_STEPR c) (s.warden.oldStep.get 12500000 c)) s
    let s := (Sys2Proof.range 0 2).foldl (fun (s : State) t =>
      if s.flag (COST_STAT t) COST_STAT_VALID && s.fld (COST_STAT t) COST_STAT_EPOCH == old then s.costInval t else s) s
    let w := s.warden
    .next { s with warden := { w with images := w.images.filter (fun i => i.epoch != old), oldStep := [] } }

/-! Error-record queues (R451, R456) -/

/-- The number under which a principal's captures are held. [Marks: DEDUCED (log entry 69)] -/
def prinKey : Prin → Nat
  | .core g => g.val
  | .warden => 96
  | .host => 97
  | .lens => 98
  | .smbus => 99

/-- A read of word 0 of a record pop by a principal: it captures words 1 to 3, and gives word 0 (R456).
[Marks: DEDUCED (log entry 46)] -/
def State.recRead (s : State) (who : Prin) (off : Nat) (r : Option ErrRec) : Word × State :=
  let w (i : Nat) : Word := match r with
    | some r => r.word i
    | none => 0
  (w 0, { s with recCap := s.recCap.set none (prinKey who) (some (off, [w 1, w 2, w 3])) })

/-- A principal reads word 0 of ERRQ_POP of cluster c: the cluster's cores and the Warden pop, the others only read.
[Marks: DEDUCED (log entry 46)] -/
def State.errqRead (s : State) (who : Prin) (c : Nat) : Word × State :=
  let x := s.clu c
  let pops := match who with
    | .warden => true
    | .core g => g.val / 8 == c
    | _ => false
  match popRec x.errq with
  | none => s.recRead who (ERRQ_POPR c 0) none
  | some (r, q) => (if pops then s.setClu c { x with errq := q } else s).recRead who (ERRQ_POPR c 0) (some r)

/-- A principal reads word 0 of DERRQ_POP: only the Warden pops. [Marks: DEDUCED (log entry 46)] -/
def State.derrqRead (s : State) (who : Prin) : Word × State :=
  match popRec s.derrq with
  | none => s.recRead who (DERRQ_POPR 0) none
  | some (r, q) => (if who = .warden then { s with derrq := q } else s).recRead who (DERRQ_POPR 0) (some r)

/-- A read at an offset, guarded by the access table; what it returns leaves the block for a principal outside it.
[Marks: DEDUCED (log entry 46)] -/
def State.popGuard (s : State) (who : Prin) (off : Nat) (act : State → Word × State) : State :=
  if !s.blockOn off then s.accUnavail who
  else if who = .smbus then s.accRefused who off false 1
  else match who with
    | .core g => if (s.core g).pl = 0 then s.accRefused who off false 1 else (act s).2
    | _ => ((act s).2).emit (.word who off (act s).1)

/-- A read of ERRQ_POP (R456). -/
def execErrqPop (who : Prin) (c : ClId) (s : State) : Host.Outcome State Fault Refusal :=
  .next (s.popGuard who (ERRQ_POPR c 0) (fun s => s.errqRead who c))

/-- A read of DERRQ_POP (R456). -/
def execDerrqPop (who : Prin) (s : State) : Host.Outcome State Fault Refusal :=
  .next (s.popGuard who (DERRQ_POPR 0) (fun s => s.derrqRead who))

/-! ALIVE (R459) -/

/-- ALIVE_KICK.KICK. -/
def State.aliveKick (s : State) : State :=
  if s.warden.up && !s.warden.halted then { s with warden := { s.warden with kickAt := s.now + 1, late := false } } else s

/-- The Warden writes ALIVE_KICK. -/
def execAliveKick (s : State) : Host.Outcome State Fault Refusal := .next s.aliveKick

/-- 2 ms have passed without a kick: ALIVE is driven low. -/
def execAliveTimeout (s : State) : Host.Outcome State Fault Refusal :=
  let w := s.warden
  if !w.up || w.halted || w.kickAt == 0 then .next s
  else
    let s := s.upTo (w.kickAt - 1 + 4000000)
    .next { s with warden := { s.warden with late := true } }

end Sys2Proof.Machine
end

