-- ==== Sys2Proof/Machine/Power.lean ====
section
/-! DEFINITION. The power controller's commands and the release of fenced units (R447 to R449, R471 to R474). -/

namespace Sys2Proof.Machine

/-! Commands (R471, R472, R474, R492) -/

/-- Port p of a side is disabled and drained. -/
def State.portQuiet (s : State) (sd p : Nat) : Bool := !s.portOn sd p && s.flag (PORT_STAT sd p) PORT_STAT_DRAINED

/-- Port p of a side has a lane in quad q. -/
def State.portInQuad (s : State) (sd p q : Nat) : Bool := (Sys2Proof.range (4 * q) 4).any (fun l => s.owns sd p l)

/-- The condition of R471 under which a command may switch domain d. [Marks: DEDUCED (log entry 47)] -/
def State.pwrCond (s : State) (d : Nat) : Bool :=
  let ports := Sys2Proof.range 0 16
  if d < 96 then s.rotState d == 5
  else if d < 108 then (Sys2Proof.range (8 * (d - 96)) 8).all (fun g => s.domain g == 0)
  else if d < 116 then
    let sd := (d - 108) / 4
    let q := (d - 108) % 4
    s.flag (QUAD_CTL sd q) QUAD_CTL_FENCE || ports.all (fun p => !s.portInQuad sd p q || s.portQuiet sd p)
  else if d < 120 then s.rpState ((d - 116) / 2) == 5
  else ports.all (fun p => s.portQuiet (d - 120) p)

/-- A Warden write of PWR_CMD (R471, R474, R492). [Marks: DEDUCED (log entry 47)] -/
def State.pwrCmd (s : State) (v : Word) : State :=
  if s.flag PWR_CMD_STAT PWR_CMD_STAT_BUSY then s.inc64 PWR_CMD_IGNORED
  else
    let s := s.wr PWR_CMD (v &&& 0x4000007F)
    if v.fld PWR_CMD_GO = 0 then s
    else
      let d := v.fld PWR_CMD_DOMAIN
      let c : PwrCmd := ⟨v.fld PWR_CMD_OP == 1, d, none⟩
      if 122 ≤ d then s.pwrResult c 3
      else if s.domain d = (if c.up then 2 else 0) then s.pwrResult c 0
      else if s.pwrCond d then s.pwrAdd c
      else s.pwrResult c 2

/-- A power-off command: PWR_CMD with GO 1 and OP 0 (R472). [Marks: DEDUCED (log entry 47)] -/
def execPowerOff (who : Prin) (v : Word) (s : State) : Host.Outcome State Fault Refusal :=
  .next (s.guarded who PWR_CMD (fun s => s.pwrCmd ((v.setFld PWR_CMD_GO 1).setFld PWR_CMD_OP 0)))

/-- A power-up command: PWR_CMD with GO 1 and OP 1 (R473). [Marks: DEDUCED (log entry 47)] -/
def execPowerUp (who : Prin) (v : Word) (s : State) : Host.Outcome State Fault Refusal :=
  .next (s.guarded who PWR_CMD (fun s => s.pwrCmd ((v.setFld PWR_CMD_GO 1).setFld PWR_CMD_OP 1)))

/-! The end of a command (R472, R473) -/

/-- What a quiescing domain must be rid of before it reports drained (R472). -/
def State.drained (s : State) (d : Nat) : Bool :=
  let cores := if d < 96 then [d] else if d < 108 then Sys2Proof.range (8 * (d - 96)) 8 else []
  cores.all (fun g =>
      let c := s.core g
      s.qdepth g == 0 && c.fnext.isEmpty && c.popped.isEmpty && c.far.isEmpty)
    && s.dma.all (fun e => match e.2 with
      | some r => !(r.touches (e.1 / 16) d && r.bad == 0)
      | none => true)

/-- A domain's supply opens: what it does not keep is lost (R345, R472). [Marks: DEDUCED (log entry 48)] -/
def State.loseDomain (s : State) (d : Nat) : State :=
  if d < 96 then
    let c := s.core d
    let x := s.clu (d / 8)
    let s := s.setCore d { Core.reset with
      krgn := c.krgn, keeperLimit := c.keeperLimit, slotB := c.slotB, resetSub := c.resetSub, rstAt := s.now }
    (s.setClu (d / 8) { x with repairs := x.repairs.set [] (d % 8) [] }).mrepCount (d / 8) (d % 8)
  else if d < 108 then
    let c := d - 96
    let x := s.clu c
    let s := s.setClu c { x with
      cmem := Mem.zero, skb := [], ptr := [], steps := [], used := [], waits := [], masked := [], rmw := [], dead := [],
      holder := [], restore := [], remap := 0 }
    { s with dma := s.dma.filter (fun e => decide (e.1 / 16 ≠ c)) }
  else if d < 116 then
    let a := QUAD_CTL ((d - 108) / 4) ((d - 108) % 4)
    (s.setFlag a QUAD_CTL_PLL_LOCK false).setFlag a QUAD_CTL_CAL_DONE false
  else s

/-- The quiescing domain reports drained in time, is powered down and is OFF (R472). -/
def execDomainDrained (s : State) : Host.Outcome State Fault Refusal :=
  match s.pwrq with
  | [] => .next s
  | c :: _ =>
    if c.up || !s.drained c.d || decide (s.pwrAt + 20000 < s.now) then .next s
    else .next ((s.loseDomain c.d).pwrEnd 0 0)

/-- 10 µs have passed without the drained report: the domain is ON again, its fence in place (R472). -/
def execQuiesceTimeout (s : State) : Host.Outcome State Fault Refusal :=
  match s.pwrq with
  | [] => .next s
  | c :: _ =>
    if c.up || s.drained c.d then .next s else .next ((s.upTo (s.pwrAt + 20000)).pwrEnd 1 2)

/-- A domain leaves its reset and is ON: a core enters TEST, a line quad is calibrated, memories hold zero (R473).
[Marks: DEDUCED (log entry 48)] -/
def State.poweredUp (s : State) (d : Nat) : State :=
  if d < 96 then s.enterTest d (if s.rotState d = 6 then 3 else 2)
  else if d < 108 then
    let x := s.clu (d - 96)
    s.setClu (d - 96) { x with cmem := Mem.zero, skb := [] }
  else if d < 116 then
    let a := QUAD_CTL ((d - 108) / 4) ((d - 108) % 4)
    (s.setFlag a QUAD_CTL_PLL_LOCK true).setFlag a QUAD_CTL_CAL_DONE true
  else s

/-- The domain that powers up is ON (R473). -/
def execPowerUpDone (s : State) : Host.Outcome State Fault Refusal :=
  match s.pwrq with
  | [] => .next s
  | c :: _ => if c.up then .next ((s.poweredUp c.d).pwrEnd 0 2) else .next s

/-! The release of a fenced unit (R449, R470) -/

/-- The unit of KIND k and INDEX i is fenced in a way that a release ends (R448, R449).
[Marks: DEDUCED (log entry 49)] -/
def State.unitFenced (s : State) (k i : Nat) : Bool :=
  match k with
  | 1 => decide (i < 96) && (s.rotState i == 5 || s.rotState i == 6)
  | 2 => decide (i < 12) && (s.clu i).sheet == 1
  | 7 => decide (i < 8) && s.flag (QUAD_CTL (i / 4) (i % 4)) QUAD_CTL_FENCE
  | 9 => decide (i < 2) && s.rpState i == 5
  | _ => false

/-- The domains that the release of a unit powers up, in order. -/
def unitDomains (k i : Nat) : List Nat :=
  match k with
  | 1 => [i]
  | 2 => (96 + i) :: Sys2Proof.range (8 * i) 8
  | 7 => [108 + i]
  | _ => [116 + 2 * i, 117 + 2 * i]

/-- A domain of a unit under release is powered up; a core whose domain stayed ON is tested at once.
[Marks: DEDUCED (log entry 49)] -/
def State.releaseDomain (s : State) (d : Nat) : State :=
  if s.domain d = 2 ∧ !s.pwrq.any (fun c => c.d == d) then (if d < 96 then s.enterTest d (if s.rotState d = 6 then 3 else 2) else s)
  else s.pwrAdd ⟨true, d, none⟩

/-- A Warden write of DUST_CTL (R449, R470). [Marks: DEDUCED (log entry 49)] -/
def State.dustCtl (s : State) (v : Word) : State :=
  if v.fld DUST_CTL_RELEASE = 0 then s.wr DUST_CTL (v &&& 0xFFFF)
  else if s.flag DUST_STAT DUST_STAT_BUSY then s
  else
    let s := s.wr DUST_CTL (v &&& 0xFFFF)
    let k := v.fld DUST_CTL_KIND
    let i := v.fld DUST_CTL_INDEX
    let s := s.wr DUST_STAT (BitVec.ofNat 32 (k * 2 ^ 12 + i))
    if s.unitFenced k i then (unitDomains k i).foldl State.releaseDomain (s.setFlag DUST_STAT DUST_STAT_BUSY true)
    else s.setFlag DUST_STAT DUST_STAT_FAILED true

/-- The Warden starts a release (R449). -/
def execDustRelease (v : Word) (s : State) : Host.Outcome State Fault Refusal := .next (s.dustCtl v)

/-- The unit under release is on, and its test is over: no core of it is in TEST. [Marks: DEDUCED (log entry 49)] -/
def State.unitReady (s : State) (k i : Nat) : Bool :=
  (unitDomains k i).all (fun d => s.domain d == 2 || (k == 2 && d < 96)) && !(unitDomains k i).any (fun d => decide (d < 96) && s.rotState d == 2)
    && (k != 1 || (s.rotState i != 5 && s.rotState i != 6))

/-- The fence of a released unit is cleared; cores leave theirs as they enter TEST.
[Marks: DEDUCED (log entry 49)] -/
def State.unfenceUnit (s : State) (k i : Nat) : State :=
  match k with
  | 2 => s.setClu i { s.clu i with sheet := 0 }
  | 7 =>
    let a := QUAD_CTL (i / 4) (i % 4)
    ((s.setFlag a QUAD_CTL_FENCE false).setFld a QUAD_CTL_FAULT_CODE 0).refreshFenced (i / 4)
  | 9 => ((s.rpTrain i).setFld (RPORT_STAT i) RPORT_STAT_FENCE_CAUSE 0).setFlag (RPORT_CTL i) RPORT_CTL_FENCE false
  | _ => s

/-- A unit fails its test: it stays fenced, and a record is queued, unless the core's own failing BIST has queued one.
[Marks: DEDUCED (log entry 49)] -/
def State.releaseFail (s : State) (k i : Nat) : State :=
  match k with
  | 1 => if s.rotState i = 5 ∨ s.rotState i = 6 then s else s.fenceCore i 5 15 2 0
  | 2 => s.record (some i) 10 3 2 i 0 0
  | 7 => s.record none 17 3 7 i 0 (BitVec.ofNat 32 (s.fld (QUAD_CTL (i / 4) (i % 4)) QUAD_CTL_FAULT_CODE))
  | _ => s.record none 24 3 9 i (BitVec.ofNat 32 (s.fld (RPORT_STAT i) RPORT_STAT_PEER_NODE))
      (BitVec.ofNat 32 (s.fld (RPORT_STAT i) RPORT_STAT_FENCE_CAUSE))

/-- A release finishes, with its test passed or failed (R449). [Marks: DEDUCED (log entry 49)] -/
def execDustReleaseDone (ok : Bool) (s : State) : Host.Outcome State Fault Refusal :=
  let k := s.fld DUST_STAT DUST_STAT_KIND
  let i := s.fld DUST_STAT DUST_STAT_INDEX
  if !s.flag DUST_STAT DUST_STAT_BUSY then .next s
  else if ok then
    (if s.unitReady k i then .next ((s.unfenceUnit k i).setFlag DUST_STAT DUST_STAT_BUSY false) else .next s)
  else .next (((s.releaseFail k i).setFlag DUST_STAT DUST_STAT_BUSY false).setFlag DUST_STAT DUST_STAT_FAILED true)

end Sys2Proof.Machine
end

