-- ==== Sys2Proof/Machine/Clocks.lean ====
section
/-! DEFINITION. Clocks, supply and thermal monitors, and the device's resets (R285, R481 to R496). -/

namespace Sys2Proof.Machine

/-! Resets (R436, R487, R534) -/

/-- The offsets whose values a warm reset keeps: SEC, CLK but CLK_EVT, and FAULT_STAT (R429, R467, R487, R494).
[Marks: DEDUCED (log entry 50)] -/
def warmKept (off : Nat) : Bool :=
  decide (0x420000 ≤ off ∧ off < 0x430000) || (decide (0x450000 ≤ off ∧ off < 0x460000) && off != CLK_EVT) || off == FAULT_STAT

/-- A cluster that a second bank has put behind a Dust sheet stays there until a power-on reset (R448). -/
def State.keepSheet (s : State) (c : Nat) : State :=
  let s := s.setClu c { s.clu c with sheet := 2 }
  let s := s.setDomain (96 + c) 0
  (Sys2Proof.range (8 * c) 8).foldl (fun (s : State) g => (s.setDomain g 0).toRot g 5) s

/-- A warm reset with a cause of RST_STAT: everything but what R487 keeps is as after power-on, and every core waits in
RELOAD for a start with SUB 1 (R297, R436). [Marks: DEDUCED (log entry 50)] -/
def State.warmReset (s : State) (cause : Nat) : State :=
  let v := s.vault
  let lost := (Sys2Proof.range 0 12).filter (fun c => (s.clu c).sheet == 2)
  let t : State := { State.reset with
    now := s.now, free := s.free, regs := s.regs.filter (fun e => warmKept e.1), root := s.root, fuses := s.fuses,
    flash := s.flash, out := s.out, pending := s.pending, clk := { s.clk with deferred := 0 },
    vault := { Vault.reset with
      scan := v.scan, nextHandle := v.nextHandle, zeroBefore := v.zeroBefore, zeroKeys := v.zeroKeys } }
  let t := (Sys2Proof.range 0 96).foldl (fun (t : State) g =>
    t.setCore g { Core.reset with resetSub := 1, rstAt := s.now }) t
  let t := lost.foldl State.keepSheet t
  (t.incSat RST_STAT RST_STAT_WARM_COUNT).setFld RST_STAT RST_STAT_CAUSE cause

/-- A power-on reset; `kept` is the cause that RST_STAT records where VDD_AON has stayed up.
[Marks: DEDUCED (log entry 50)] -/
def State.powerReset (s : State) (kept : Option Nat) : State :=
  let t : State := { State.reset with
    free := s.free, root := s.root, fuses := s.fuses, flash := s.flash, out := s.out, pending := s.pending }
  match kept with
  | none => t
  | some c => (t.wr RST_STAT (s.rd RST_STAT)).setFld RST_STAT RST_STAT_CAUSE c

/-- A thermal trip: a power-on reset in which the device holds itself, with every switched domain off (R486).
[Marks: DEDUCED (log entry 50)] -/
def State.thermalReset (s : State) : State :=
  let t := s.powerReset (some 3)
  let t := (Sys2Proof.range 0 122).foldl (fun (t : State) d => t.setDomain d 0) t
  { t with clk := { t.clk with hold := true } }

/-- A reset by its CAUSE. [Marks: DEDUCED (log entry 50)] -/
def State.resetBy (s : State) (cause : Nat) : State :=
  if cause = 1 then s.powerReset none
  else if cause = 3 then s.thermalReset
  else if 4 ≤ cause then s.warmReset cause
  else s

/-- A reset request: it waits for DONE while zeroisation runs, a power-on reset before a warm one (R487).
[Marks: DEDUCED (log entry 50)] -/
def State.requestReset (s : State) (cause : Nat) : State :=
  if s.flag ZEROISE_STAT ZEROISE_STAT_RUNNING then
    let d := s.clk.deferred
    { s with clk := { s.clk with deferred := if d = 0 then cause else min d cause } }
  else s.resetBy cause

/-- POR_N (R487). -/
def execPowerOnReset (s : State) : Host.Outcome State Fault Refusal := .next (s.requestReset 1)
/-- WARM_N (R487). -/
def execWarmReset (s : State) : Host.Outcome State Fault Refusal := .next (s.requestReset 4)
/-- CLK_CTL.WARM_REQ (R495). -/
def execWarmReq (s : State) : Host.Outcome State Fault Refusal := .next (s.requestReset 5)

/-- FAULT_N is driven low (R458). [Marks: DESIGN CHOICE (log entry 73)] -/
def State.faultN (s : State) : Bool :=
  s.clk.hold || s.warden.kickAt == 0 || s.flag LC_STAT LC_STAT_RECOVERY || s.warden.halted
    || s.flag ZEROISE_STAT ZEROISE_STAT_RUNNING || (s.rd FAULT_STAT &&& s.rd FAULT_CTL) != 0

/-- ALIVE toggles (R459). [Marks: DESIGN CHOICE (log entry 73)] -/
def State.alive (s : State) : Bool :=
  let w := s.warden
  w.up && !w.halted && !w.restarting && !w.late && w.kickAt != 0 && decide (s.now + 1 ≤ w.kickAt + 4000000)

/-! Reference clocks (R482, R483) -/

/-- Set an event of CLK_EVT, with the rise of source 56. -/
def State.clkEvt (s : State) (f : Fld) : State := s.evtSet CLK_EVT CLK_EVT_EN 56 f

/-- REF_A_OK or REF_B_OK. [Marks: DEDUCED (log entry 51)] -/
def refOk (b : Bool) : Fld := if b then CLK_STAT_REF_B_OK else CLK_STAT_REF_A_OK
/-- PLL_A_LOCK or PLL_B_LOCK. [Marks: DEDUCED (log entry 51)] -/
def pllLock (b : Bool) : Fld := if b then CLK_STAT_PLL_B_LOCK else CLK_STAT_PLL_A_LOCK

/-- Steps 2 to 4 of a switchover to a reference: holdover, the multiplexers move, and the PLLs relock, or stay in holdover
when that reference is bad too (R483). [Marks: DEDUCED (log entry 51)] -/
def State.refSwitch (s : State) (b : Bool) : State :=
  let s := s.setFlag CLK_CTL CLK_CTL_REF_SEL b
  let s := (s.setFlag CLK_STAT CLK_STAT_PLL_A_LOCK false).setFlag CLK_STAT CLK_STAT_PLL_B_LOCK false
  if s.flag CLK_STAT (refOk b) then
    { s.setFlag CLK_STAT CLK_STAT_HOLDOVER false with clk := { s.clk with switching := true } }
  else
    let was := s.flag CLK_STAT CLK_STAT_HOLDOVER
    let s := { s.setFlag CLK_STAT CLK_STAT_HOLDOVER true with clk := { s.clk with switching := false } }
    if was then s else s.clkEvt CLK_EVT_HOLDOVER

/-- A reference is lost or out of range; of the active one, with AUTO, a switchover starts.
[Marks: DEDUCED (log entry 51)] -/
def State.refFault (s : State) (b : Bool) : State :=
  let s := s.setFlag CLK_STAT (refOk b) false
  if s.flag CLK_CTL CLK_CTL_REF_SEL = b && s.flag CLK_CTL CLK_CTL_AUTO && !s.flag CLK_STAT CLK_STAT_HOLDOVER then s.refSwitch (!b) else s

/-- The monitor finds a reference lost (R482). -/
def execRefclkFault (refA : Bool) (s : State) : Host.Outcome State Fault Refusal := .next (s.refFault (!refA))

/-- A lost reference returns; PLLs in holdover relock to it (R483). [Marks: DEDUCED (log entry 51)] -/
def execRefclkRecover (refA : Bool) (s : State) : Host.Outcome State Fault Refusal :=
  let s := s.setFlag CLK_STAT (refOk (!refA)) true
  .next (if s.flag CLK_STAT CLK_STAT_HOLDOVER then s.refSwitch (!refA) else s)

/-- A write of CLK_CTL.REF_SEL; a change starts the switchover at step 2 (R483, R495).
[Marks: DEDUCED (log entry 51)] -/
def State.refSel (s : State) (b : Bool) : State := if s.flag CLK_CTL CLK_CTL_REF_SEL = b then s else s.refSwitch b

/-- A write of REF_SEL. -/
def execRefSel (who : Prin) (b : Bool) (s : State) : Host.Outcome State Fault Refusal :=
  .next (s.guarded who CLK_CTL (fun s => s.refSel b))

/-- Both PLLs report lock on the new reference, unless it has failed meanwhile (R483). -/
def execRefSwitchDone (s : State) : Host.Outcome State Fault Refusal :=
  let sel := s.flag CLK_CTL CLK_CTL_REF_SEL
  if !s.clk.switching then .next s
  else if !s.flag CLK_STAT (refOk sel) then .next (s.refSwitch sel)
  else
    let s := { s with clk := { s.clk with switching := false } }
    let s := (s.setFlag CLK_STAT CLK_STAT_PLL_A_LOCK true).setFlag CLK_STAT CLK_STAT_PLL_B_LOCK true
    .next (((s.clkEvt CLK_EVT_REF_SWITCH).inc64 REF_SWITCHES).record none 20 0 0 0 0 0)

/-- The size of a signed deviation in units of 0.1 ppm. -/
def ppmAbs (x : BitVec 16) : Nat := x.toInt.natAbs

/-- A 10 ms window ends (R482): a reference off by more than 200 ppm beside a good one is out of range; both off but in
agreement make SDREF_0 suspect. [Marks: DEDUCED (log entry 51)] -/
def execRefFreqWindow (ppmA ppmB : BitVec 16) (s : State) : Host.Outcome State Fault Refusal :=
  let s := (s.setFld (REF_PPM 0) ⟨15, 0⟩ ppmA.toNat).setFld (REF_PPM 1) ⟨15, 0⟩ ppmB.toNat
  let a := decide (2000 < ppmAbs ppmA)
  let b := decide (2000 < ppmAbs ppmB)
  let dis := a && b && decide ((ppmA.toInt - ppmB.toInt).natAbs ≤ 2000)
  let was := s.flag CLK_STAT CLK_STAT_REF_DISAGREE
  let s := s.setFlag CLK_STAT CLK_STAT_REF_DISAGREE dis
  let s := if dis && !was then s.clkEvt CLK_EVT_DISAGREE else s
  if a && !b && s.flag CLK_STAT CLK_STAT_REF_A_OK then .next (s.refFault false)
  else if b && !a && s.flag CLK_STAT CLK_STAT_REF_B_OK then .next (s.refFault true)
  else .next s

/-! Root PLLs (R484) -/

/-- The root moves to the standby: steps 2 and 3. [Marks: DEDUCED (log entry 51)] -/
def State.pllSwitch (s : State) (fault : Bool) : State :=
  let run := s.flag CLK_CTL CLK_CTL_PLL_SEL
  let s := s.setFlag CLK_CTL CLK_CTL_PLL_SEL (!run)
  let s := if fault then s.setFlag CLK_STAT (pllLock run) false else s
  let s := s.setFlag CLK_STAT CLK_STAT_STBY_OK false
  let s := ((s.clkEvt CLK_EVT_PLL_SWITCH).inc64 PLL_SWITCHES).record none 21 0 0 0 0 0
  { s with clk := { s.clk with pllAt := s.now + 1 } }

/-- The running PLL fails; without a standby that is locked and aligned there is none to move to.
[Marks: DEDUCED (log entry 51)] -/
def execPllFault (s : State) : Host.Outcome State Fault Refusal :=
  if s.flag CLK_STAT CLK_STAT_STBY_OK then .next (s.pllSwitch true)
  else .next (s.setFlag CLK_STAT (pllLock (s.flag CLK_CTL CLK_CTL_PLL_SEL)) false)

/-- A write of CLK_CTL.PLL_SEL: a change acts while STBY_OK is 1, and is ignored otherwise. -/
def State.pllSel (s : State) (b : Bool) : State :=
  if s.flag CLK_CTL CLK_CTL_PLL_SEL = b || !s.flag CLK_STAT CLK_STAT_STBY_OK then s else s.pllSwitch false

/-- A write of PLL_SEL. -/
def execPllSel (who : Prin) (b : Bool) (s : State) : Host.Outcome State Fault Refusal :=
  .next (s.guarded who CLK_CTL (fun s => s.pllSel b))

/-- The other PLL locks and aligns: after a switch, only within 1 ms. [Marks: DEDUCED (log entry 51)] -/
def execStandbyRelock (s : State) : Host.Outcome State Fault Refusal :=
  let t := s.clk.pllAt
  if s.flag CLK_STAT CLK_STAT_STBY_OK || (t != 0 && decide (t + 2000000 < s.now + 1)) then .next s
  else
    let s := s.setFlag CLK_STAT (pllLock (!s.flag CLK_CTL CLK_CTL_PLL_SEL)) true
    .next { s.setFlag CLK_STAT CLK_STAT_STBY_OK true with clk := { s.clk with pllAt := 0 } }

/-- The standby is lost without a switch (R496). [Marks: DEDUCED (log entry 51)] -/
def execStandbyLost (s : State) : Host.Outcome State Fault Refusal :=
  if s.flag CLK_STAT CLK_STAT_STBY_OK then .next ((s.setFlag CLK_STAT CLK_STAT_STBY_OK false).clkEvt CLK_EVT_STBY_LOST)
  else .next s

/-! Supplies and temperature (R485, R486) -/

/-- Set a bit of MON_EVT, with the rise of source 57. -/
def State.monEvt (s : State) (f : Fld) : State := s.evtSet MON_EVT MON_EVT_EN 57 f

/-- A supply stays below WARN for 100 ns (R485). -/
def execSupplyDroop (i : BitVec 4) (s : State) : Host.Outcome State Fault Refusal :=
  let v := i.toNat
  if v = 6 then .next (s.monEvt MON_EVT_VBAT_LOW)
  else if 6 < v then .next s
  else .next (((s.monEvt ⟨v, v⟩).inc64 (DROOP_WARN v)).recordMs none 22 0 0 0 v (BitVec.ofNat 32 v) 0)

/-- A supply stays below FAIL for 500 ns: a power-on reset, through which RST_STAT lives while VDD_AON does; the VBAT domain
completes a root-store clear in scope (R485, R487). -/
def execBrownOut (i : BitVec 4) (s : State) : Host.Outcome State Fault Refusal :=
  let v := i.toNat
  if 6 ≤ v then .next s
  else
    let s := if s.flag ZEROISE_STAT ZEROISE_STAT_RUNNING && s.flag ZEROISE_STAT ZEROISE_STAT_ROOT then
      { s with root := s.root.clear } else s
    .next (s.powerReset (if v = 5 then none else some 2))

/-- The sensors of a sample list above a threshold in °C. -/
def hotter (l : List (BitVec 16)) (limit : Nat) : List Nat :=
  (Sys2Proof.range 0 24).filter (fun k => decide ((16 * limit : Int) < (nth 0 l k).toInt))

/-- The mask of a list of sensors. -/
def sensorMask (l : List Nat) : Nat := (Sys2Proof.range 0 24).foldl (fun m k => if l.contains k then m + 2 ^ k else m) 0

/-- The 24 sensors are sampled (R486). [Marks: DEDUCED (log entry 50)] -/
def execThermalSample (samples : List (BitVec 16)) (s : State) : Host.Outcome State Fault Refusal :=
  if samples.length ≠ 24 then .next s
  else
    let s := (Sys2Proof.range 0 24).foldl (fun (s : State) k => s.wr (THERM k) ((nth 0 samples k).setWidth 32)) s
    if s.clk.hold then
      if samples.all (fun x => decide (x.toInt < 1600)) then
        let s := (Sys2Proof.range 0 122).foldl (fun (s : State) d => s.setDomain d 2) s
        .next { s with clk := { s.clk with hold := false } }
      else .next s
    else
      let hot := hotter samples (s.fld THERM_CFG THERM_CFG_HOT)
      let trip := hotter samples (s.fld THERM_CFG THERM_CFG_TRIP)
      let s := if (hotter samples (s.fld THERM_CFG THERM_CFG_WARN)).isEmpty then s else s.monEvt MON_EVT_THERM_WARN
      let s := match hot with
        | [] => s
        | k :: _ => (s.monEvt MON_EVT_THERM_HOT).recordMs none 23 0 0 0 0 (BitVec.ofNat 32 k) 0
      if trip.any (fun k => bitN s.clk.overTemp k) then .next (s.requestReset 3)
      else .next { s with clk := { s.clk with overTemp := sensorMask trip } }

/-! RCLR_EN (R285) -/

/-- TINT_CTL takes a value: a change holds for the bundles that issue from two CCLK later. -/
def State.tintCtl (s : State) (v : Word) : State :=
  let old := s.flag TINT_CTL TINT_CTL_RCLR_EN
  if v.fld TINT_CTL_RCLR_EN == b2n old then s
  else
    let s := s.setFlag TINT_CTL TINT_CTL_RCLR_EN (!old)
    (Sys2Proof.range 0 96).foldl (fun (s : State) g =>
      s.setCore g { s.core g with rclrOld := old, rclrFrom := s.now + 2 }) s

/-- A Warden write of TINT_CTL. -/
def execTintRclrEnWrite (v : Word) (s : State) : Host.Outcome State Fault Refusal := .next (s.tintCtl v)

end Sys2Proof.Machine
end

