-- ==== Sys2Proof/Machine/Dma.lean ====
section
/-! DEFINITION. The cluster DMA engine: channels, descriptors, bursts, errors and stopping (R375 to R393). -/

namespace Sys2Proof.Machine

def State.dmaRun (s : State) (c n : Nat) : Option DmaRun := s.dma.get none (16 * c + n)
def State.setDmaRun (s : State) (c n : Nat) (r : Option DmaRun) : State := { s with dma := s.dma.set none (16 * c + n) r }

/-- QLEN and the CMEM offset of position i of a channel's ring (R377). -/
def State.dmaQlen (s : State) (c n : Nat) : Nat := s.fld (DMA_QCFG c n) DMA_QCFG_QLEN_M1 + 1
def State.dmaPos (s : State) (c n i : Nat) : Nat := 32 * s.fld (DMA_QCFG c n) DMA_QCFG_QBASE + 32 * i

/-! Memories (R376) -/

/-- The bank of a DMEM address, as core and bank; none for CMEM. -/
def dmaBank (c : Nat) (a : Nat) : Option (Nat × Nat) :=
  if 0x2000000 ≤ a then some (8 * c + (a - 0x2000000) / 0x20000, (a - 0x2000000) / 0x4000 % 8) else none

/-- A range lies within one region of the map (R376, R379). -/
def dmaRangeOk (a n : Nat) : Bool :=
  decide (0x1000000 ≤ a ∧ a + n ≤ 0x1400000)
    || (decide (0x2000000 ≤ a ∧ a + n ≤ 0x2100000) && decide (n = 0 ∨ (a - 0x2000000) / 0x20000 = (a + n - 1 - 0x2000000) / 0x20000))

/-- DMA owns the bank that holds an address, and no handover has begun (R346, R348, R383). -/
def State.dmaOwns (s : State) (c a : Nat) : Bool :=
  match dmaBank c a with
  | none => true
  | some (g, b) => (s.core g).owner b == 1 && !(s.core g).bankBusy b

/-- The word at a DMA address. -/
def State.dmaRead (s : State) (c a : Nat) : TD :=
  if 0x2000000 ≤ a then (s.core (8 * c + (a - 0x2000000) / 0x20000)).dmem.word ((a - 0x2000000) % 0x20000)
  else (s.clu c).cmem.word (a - 0x1000000)

/-- Write a whole word with its tint (R267, R382). -/
def State.dmaWrite (s : State) (c a : Nat) (w : TD) : State :=
  if 0x2000000 ≤ a then
    let g := 8 * c + (a - 0x2000000) / 0x20000
    let x := s.core g
    s.setCore g { x with dmem := x.dmem.store ((a - 0x2000000) % 0x20000) (toLE 8 w.v.toNat) w.t }
  else
    let x := s.clu c
    s.setClu c { x with cmem := x.cmem.store (a - 0x1000000) (toLE 8 w.v.toNat) w.t }

/-- Write consecutive words. -/
def State.dmaWrites (s : State) (c : Nat) : Nat → List TD → State
  | _, [] => s
  | a, w :: ws => (s.dmaWrite c a w).dmaWrites c (a + 8) ws

/-- An error in a read at a DMA address is counted and recorded as its memory has it (R343).
[Marks: DEDUCED (log entry 44)] -/
def State.dmaReadErr (s : State) (c a : Nat) (ue : Bool) : State :=
  match dmaBank c a with
  | some (g, _) => s.coreMemErr g 1 ue (BitVec.ofNat 32 (dmemBase + (a - 0x2000000) % 0x20000))
  | none => s.cmemErr c ue (a - 0x1000000)

/-! Channels (R385, R387, R391, R393) -/

/-- The request line of a channel; true for a free-running one (R387). -/
def State.dmaLine (s : State) (c n : Nat) : Bool :=
  let p := s.fld (DMA_CTL c n) DMA_CTL_PACE
  if p = 0 then true
  else if p = 1 then s.rd (DMA_DREQ c n) &&& 1 == 1
  else s.flag (DEVC_PIN_FLT (p - 2)) PIN_FLT_LEVEL

/-- The request line of a channel falls: a burst of this FCLK or the one before is still in progress and counts as an
orphan (R387). -/
def State.dmaFall (s : State) (c n : Nat) : State :=
  match s.dmaRun c n with
  | some r => if r.burst ≠ 0 ∧ s.fclk ≤ r.burst then (s.setDmaRun c n (some { r with burst := 0 })).inc64 (DMA_CNTR c n 3) else s
  | none => s

/-- ABORT: the current descriptor is marked bad and EN is cleared (R385). -/
def State.dmaAbort (s : State) (c n cause : Nat) : State :=
  let s := s.setFlag (DMA_CTL c n) DMA_CTL_EN false
  match s.dmaRun c n with
  | some r => if r.bad = 0 then s.setDmaRun c n (some { r with bad := cause }) else s
  | none => s

/-- A write of DMA_CTL_n (R391). -/
def State.dmaCtl (s : State) (c n : Nat) (v : Word) : State :=
  let a := DMA_CTL c n
  let was := s.flag a DMA_CTL_EN
  let want := v.fld DMA_CTL_EN == 1
  let s := s.setFld a DMA_CTL_HIGH (v.fld DMA_CTL_HIGH)
  let s := if !was && decide (v.fld DMA_CTL_PACE < 10) then s.setFld a DMA_CTL_PACE (v.fld DMA_CTL_PACE) else s
  let fits := decide (s.dmaPos c n (s.dmaQlen c n) ≤ 0x400000)
  let s := if want && !was then
      (s.setFlag (DMA_STAT c n) DMA_STAT_CFG_ERR (!fits)).setFlag a DMA_CTL_EN fits
    else s.setFlag a DMA_CTL_EN want
  if v.fld DMA_CTL_ABORT = 1 then s.dmaAbort c n 4 else s

/-- A write of DMA_QPTR_n: a TAIL of QLEN or more is ignored (R393). -/
def State.dmaTail (s : State) (c n : Nat) (v : Word) : State :=
  let t := v.fld DMA_QPTR_TAIL
  if t < s.dmaQlen c n then s.setFld (DMA_QPTR c n) DMA_QPTR_TAIL t else s

/-- A write of DMA_QCFG_n is ignored while the channel is enabled (R393). -/
def State.dmaQcfg (s : State) (c n : Nat) (v : Word) : State :=
  if s.flag (DMA_CTL c n) DMA_CTL_EN then s else s.wr (DMA_QCFG c n) (v &&& 0xFFF1FFFF)

/-- EN is set (R391, R395). -/
def execDmaEnable (who : Prin) (c : ClId) (ch : R4) (s : State) : Host.Outcome State Fault Refusal :=
  let a := DMA_CTL c ch.toNat
  .next (s.guarded who a (fun s => s.dmaCtl c ch.toNat (((s.rd a).setFld DMA_CTL_EN 1).setFld DMA_CTL_ABORT 0)))

/-- TAIL is written (R377, R393, R395). -/
def execDmaTailWrite (who : Prin) (c : ClId) (ch : R4) (v : Word) (s : State) : Host.Outcome State Fault Refusal :=
  .next (s.guarded who (DMA_QPTR c ch.toNat) (fun s => s.dmaTail c ch.toNat v))

/-- ABORT is written (R385, R395). -/
def execDmaAbort (who : Prin) (c : ClId) (ch : R4) (s : State) : Host.Outcome State Fault Refusal :=
  .next (s.guarded who (DMA_CTL c ch.toNat) (fun s => s.dmaAbort c ch.toNat 4))

/-! Descriptors (R377 to R384) -/

/-- The descriptor at a CMEM offset, with no check made. -/
def Mem.dmaDesc (m : Mem) (pos : Nat) : DmaRun × Word :=
  let ctl := BitVec.ofNat 32 (m.val (pos + 12) 4)
  ({ src := BitVec.ofNat 32 (m.val pos 4), dst := BitVec.ofNat 32 (m.val (pos + 4) 4), count := m.val (pos + 8) 4,
     mode := bits ctl.toNat 31 30, irq := bitN ctl.toNat 29, stop := bitN ctl.toNat 28, pat := m.word (pos + 16), done := 0,
     diff := none, tint := .clean, bad := 0, pos := pos, burst := 0 }, ctl)

/-- The cause of the first check of R379 that fails, 0 for none; a domain that is off or quiescing gives ABORT_PWR (R386).
[Marks: DEDUCED (log entry 44)] -/
def State.dmaCheck (s : State) (c : Nat) (r : DmaRun) (ctl : Word) : Nat :=
  let m := (s.clu c).cmem
  let fill := r.mode == 1
  let src := r.src.toNat
  let dst := r.dst.toNat
  let on (a : Word) : Bool := s.domain (dmaDomain c a) == 2
  if r.mode = 3 ∨ ctl.toNat % 2 ^ 28 ≠ 0 then 5
  else if (m.tint r.pos).k || (m.tint (r.pos + 8)).k then 6
  else if (!fill && src % 8 != 0) || dst % 8 != 0 || r.count % 8 != 0 then 1
  else if 0x400000 < r.count || (!fill && !dmaRangeOk src r.count) || !dmaRangeOk dst r.count then 2
  else if !on r.dst || (!fill && !on r.src) then 3
  else if (!fill && !s.dmaOwns c src) || !s.dmaOwns c dst then 2
  else 0

/-- A channel fetches the descriptor at HEAD and checks it (R377, R379). -/
def execDmaDescriptorStart (c : ClId) (ch : R4) (s : State) : Host.Outcome State Fault Refusal :=
  let n := ch.toNat
  let head := s.fld (DMA_QPTR c n) DMA_QPTR_HEAD
  if !s.blockOn (DMA_CTL c n) || !s.flag (DMA_CTL c n) DMA_CTL_EN || (s.dmaRun c n).isSome
      || head == s.fld (DMA_QPTR c n) DMA_QPTR_TAIL then .next s
  else
    let s := s.performBeats c
    let d := (s.clu c).cmem.dmaDesc (s.dmaPos c n head)
    let r := { d.1 with bad := s.dmaCheck c d.1 d.2 }
    let st := DMA_STAT c n
    let s := (((s.setDmaRun c n (some r)).wr (DMA_SRC c n) r.src).wr (DMA_DST c n) r.dst).wr (DMA_CNT c n) (BitVec.ofNat 32 r.count)
    .next (((s.setFlag st DMA_STAT_BUSY true).setFlag st DMA_STAT_HOLD false).setFld st DMA_STAT_MODE r.mode)

/-! Bursts (R380 to R383, R387, R388) -/

/-- Bytes of the next burst: to the next 64-byte boundary of DST, or the end of COUNT (R380).
[Marks: DEDUCED (log entry 44)] -/
def DmaRun.burstLen (r : DmaRun) : Nat := min (64 - (r.dst.toNat + r.done) % 64) (r.count - r.done)

/-- A channel is ready for a burst: its descriptor is good and unfinished and its line is up (R387, R388).
[Marks: DEDUCED (log entry 44)] -/
def State.dmaReady (s : State) (c n : Nat) : Bool :=
  match s.dmaRun c n with
  | some r => r.bad == 0 && decide (r.done < r.count) && s.dmaLine c n
  | none => false

/-- The channel whose burst is next: those with HIGH first, then in ascending order after the one served last (R388).
[Marks: DEDUCED (log entry 44)] -/
def State.dmaPick (s : State) (c : Nat) : Option Nat :=
  let last := s.dmaServed.get 0 c
  let order := ((Sys2Proof.range 0 16).map (fun i => (last + i) % 16)).filter (fun n => s.dmaReady c n)
  match order.find? (fun n => s.flag (DMA_CTL c n) DMA_CTL_HIGH) with
  | some n => some n
  | none => order.head?

/-- The source words of a burst, with an uncorrectable word open and tinted both (R343, R382). -/
def State.dmaFetch (s : State) (c a k : Nat) (ecc : Ecc) : List TD × State :=
  let ws := (Sys2Proof.range 0 k).map (fun i => s.dmaRead c (a + 8 * i))
  match ecc with
  | .ok => (ws, s)
  | .ce => (ws, s.dmaReadErr c a false)
  | .ue =>
    let p := s.draw
    let v := p.2.draw
    let i := p.1.toNat % max 1 k
    (setNth ws i ⟨v.1, .both⟩, v.2.dmaReadErr c (a + 8 * i) true)

/-- The words of two equal-length lists compared: the offset of the first difference from `off`, and the OR of the tints
(R381, R382). -/
def dmaCompare (off : Nat) : List TD → List TD → Option Nat × Tint
  | x :: xs, y :: ys =>
    let r := dmaCompare (off + 8) xs ys
    (if x.v = y.v then r.1 else some off, (x.t.or y.t).or r.2)
  | _, _ => (none, .clean)

/-- One burst of a good descriptor whose banks are owned (R380 to R382). [Marks: DEDUCED (log entry 44)] -/
def State.dmaBurstRun (s : State) (c n : Nat) (r : DmaRun) (ecc : Ecc) : State :=
  let len := r.burstLen
  let src := r.src.toNat + r.done
  let dst := r.dst.toNat + r.done
  let k := len / 8
  let next (s : State) (r : DmaRun) : State :=
    let r := { r with done := r.done + len, burst := s.fclk + 1 }
    let s := ((s.setDmaRun c n (some r)).wr (DMA_DST c n) (r.dst + BitVec.ofNat 32 r.done)).wr (DMA_CNT c n)
      (BitVec.ofNat 32 (r.count - r.done))
    if r.mode = 1 then s else s.wr (DMA_SRC c n) (r.src + BitVec.ofNat 32 r.done)
  match r.mode with
  | 1 => next (s.dmaWrites c dst (List.replicate k r.pat)) r
  | 2 =>
    let f := s.dmaFetch c src k ecc
    let ys := (Sys2Proof.range 0 k).map (fun i => f.2.dmaRead c (dst + 8 * i))
    let x := dmaCompare r.done f.1 ys
    next f.2 { r with diff := if r.diff.isSome then r.diff else x.1, tint := r.tint.or x.2 }
  | _ =>
    let f := s.dmaFetch c src k ecc
    next (f.2.dmaWrites c dst f.1) r

/-- A burst: made when the scheduler chooses the channel. A burst that enters a bank DMA does not own marks the descriptor
bad (R380, R383, R387, R388). -/
def execDmaBurst (c : ClId) (ch : R4) (ecc : Ecc) (s : State) : Host.Outcome State Fault Refusal :=
  let n := ch.toNat
  if !s.blockOn (DMA_CTL c n) || s.dmaPick c != some n then .next s
  else match s.dmaRun c n with
    | none => .next s
    | some r =>
      let s := s.performBeats c
      let s := { s with dmaServed := s.dmaServed.set 0 c (n + 1) }
      let len := r.burstLen
      let owns (a : Nat) : Bool := s.dmaOwns c (a + r.done) && s.dmaOwns c (a + r.done + len - 8)
      if !owns r.dst.toNat || (r.mode != 1 && !owns r.src.toNat) then .next (s.setDmaRun c n (some { r with bad := 2 }))
      else .next (s.dmaBurstRun c n r ecc)

/-- RESULT of a finished descriptor (R378, R381, R382). -/
def DmaRun.result (r : DmaRun) : TD :=
  let off := if r.mode = 2 ∧ r.bad = 0 then r.diff.getD r.done else r.done
  let equal := decide (r.mode = 2) && decide (r.bad = 0) && r.diff.isNone
  ⟨BitVec.ofNat 64 (off * 2 ^ 32 + 2 ^ 31 + r.bad * 2 ^ 28 + b2n equal), if r.mode = 2 then r.tint else .clean⟩

/-- A descriptor that is bad or has moved its last byte finishes (R377, R378, R384). -/
def execDmaDescriptorFinish (c : ClId) (ch : R4) (s : State) : Host.Outcome State Fault Refusal :=
  let n := ch.toNat
  match s.dmaRun c n with
  | none => .next s
  | some r =>
    if r.bad = 0 ∧ r.done < r.count then .next s
    else
      let s := s.performBeats c
      let w := r.result
      let x := s.clu c
      let s := s.setClu c { x with cmem := x.cmem.store (r.pos + 24) (toLE 8 w.v.toNat) w.t }
      let s := if r.irq then s.raiseShared c (32 + n) else s
      let s := if r.bad ≠ 0 then s.raiseShared c (48 + n) else s
      let head := (s.fld (DMA_QPTR c n) DMA_QPTR_HEAD + 1) % s.dmaQlen c n
      let s := (s.setFld (DMA_QPTR c n) DMA_QPTR_HEAD head).inc64 (DMA_CNTR c n (if r.bad = 0 then 0 else 1))
      let s := if r.mode = 2 then s else s.add64 (DMA_CNTR c n 2) r.done
      let st := DMA_STAT c n
      let s := (((s.setFlag st DMA_STAT_BUSY false).setFlag st DMA_STAT_HOLD false).setFld st DMA_STAT_LAST_CAUSE r.bad).setDmaRun c n none
      .next (if r.stop then s.setFlag (DMA_CTL c n) DMA_CTL_EN false else s)

end Sys2Proof.Machine
end

