-- ==== Sys2Proof/Machine/Events.lean ====
section
/-! DEFINITION. The events of the event controllers: raw events, SRC_CMD, coalescing windows, SRC_CFG writes and the pin
filters. -/

namespace Sys2Proof.Machine

/-- The key of a source. -/
def evKey : EvSrc → Nat
  | .priv g i => prKey g i
  | .shared c i => shKey c i.toNat
  | .dev i => devKey i.toNat

/-- Some chapter assigns the ID, so that it can be raised (R315, R332, R366, R390, R435, R455, R466, R490, R522, R544).
[Marks: DEDUCED (log entry 39)] -/
def evAssigned : EvSrc → Bool
  | .priv _ i => decide (i.val < 12)
  | .shared _ i => decide (32 ≤ i.toNat ∧ i.toNat ≤ 67 ∨ 72 ≤ i.toNat ∧ i.toNat ≤ 95)
  | .dev i => decide (i.toNat ≤ 62 ∧ i.toNat ≠ 39)

/-- The registers of the source exist: shared IDs are 32 to 254 (R334). -/
def evExists : EvSrc → Bool
  | .shared _ i => decide (32 ≤ i.toNat ∧ i.toNat ≤ 254)
  | _ => true

/-- A level source of a cluster has risen: a use of FALLBACK counts once for it (R328).
[Marks: DEDUCED (log entry 39)] -/
def State.levelRise (s : State) (k : Nat) : State :=
  if 1024 * 12 ≤ k then s
  else if 256 ≤ k % 1024 then s
  else if s.srcPend k then (s.setSrc k { s.src k with fb := false }).fallback (k / 1024) (k % 1024) else s

/-- A raw event: an edge source takes it under its coalescing rules; a level source's PENDING is its input (R316).
[Marks: DEDUCED (log entry 39)] -/
def execEvcSourceEvent (src : EvSrc) (s : State) : Host.Outcome State Fault Refusal :=
  let k := evKey src
  if !evAssigned src then .next s
  else if (s.level k).isSome then .next (s.levelRise k)
  else .next (s.raise k)

/-- SRC_CMD.SET: one event of an edge source; ignored for a level source (R316, R337). -/
def State.srcSet (s : State) (src : EvSrc) : State :=
  let k := evKey src
  if evAssigned src && (s.level k).isNone then s.raise k else s

/-- SRC_CMD.CLR: PENDING and OCC of an edge source are cleared and its window closes (R316, R324, R337). -/
def State.srcClr (s : State) (src : EvSrc) : State :=
  let k := evKey src
  if (s.level k).isSome then s
  else s.setSrc k { s.src k with pend := false, occ := 0, win := none, fb := false }

/-- SRC_CMD.SET of a source (R337). -/
def execSrcCmdSet (src : EvSrc) (s : State) : Host.Outcome State Fault Refusal := .next (s.srcSet src)
/-- SRC_CMD.CLR of a source (R337). -/
def execSrcCmdClr (src : EvSrc) (s : State) : Host.Outcome State Fault Refusal := .next (s.srcClr src)

/-- TIME MCLK after a window opened, PENDING is set and the window closes (R324). -/
def execCoalesceTimeout (src : EvSrc) (s : State) : Host.Outcome State Fault Refusal :=
  let k := evKey src
  let x := s.src k
  let time := (s.rd (srcAddr k 1)).fld SRC_COAL_TIME
  match x.win with
  | none => .next s
  | some m =>
    if x.pend || time == 0 then .next s
    else
      let s := (s.upTo (20 * (m + time))).setSrc k { x with pend := true, win := none }
      if k % 1024 < 256 ∧ k < 1024 * 12 then .next (s.fallback (k / 1024) (k % 1024)) else .next s

/-- The bits of SRC_CFG_i that a write changes (R335, R339). -/
def srcCfgMask : EvSrc → Word
  | .shared _ _ => 0x8F770000
  | _ => 0x8F000000

/-- SRC_CFG_i takes a value: the presentation follows it, and a pending source whose new target is fenced uses FALLBACK
(R325 to R328). -/
def State.srcCfg (s : State) (src : EvSrc) (v : Word) : State :=
  let k := evKey src
  let s := s.wr (srcAddr k 0) (v &&& srcCfgMask src)
  match src with
  | .shared c i => if s.srcPend k then s.fallback c i.toNat else s
  | _ => s

/-- A write of SRC_CFG_i (R325 to R327, R395). -/
def execSrcCfgWrite (who : Prin) (src : EvSrc) (v : Word) (s : State) : Host.Outcome State Fault Refusal :=
  if evExists src then .next (s.guarded who (srcAddr (evKey src) 0) (fun s => s.srcCfg src v)) else .next s

/-! Pin filters (R317, R318) -/

/-- The filter register of an input; PERST_N has none. -/
def pinReg : PinId → Option Nat
  | .evtIn k => some (DEVC_PIN_FLT k.toNat)
  | .tamper k => some (TAMPER_FLT k.toNat)
  | .por => some (RST_FLT 0)
  | .warm => some (RST_FLT 1)
  | .perst => none

/-- The request that a change of EVT_IN_k to `v` makes in every EVC (R318). -/
def State.pinEvent (s : State) (k : Nat) (v : Bool) : State :=
  let mode := s.fld (DEVC_PIN_FLT k) PIN_FLT_MODE
  let all (s : State) (f : State → Nat → State) : State := (Sys2Proof.range 0 12).foldl f s
  if mode = 3 then
    if v then (all s (fun s c => s.levelRise (shKey c (72 + k)))).devRise (40 + k) else s
  else if mode = 2 || (mode == 0) == v then (all s (fun s c => s.raiseShared c (72 + k))).raiseDev (40 + k)
  else s

/-- EVT_IN_k falls: a burst of a channel that it paces and that is in progress is an orphan (R387). -/
def State.pinFall (s : State) (k : Nat) : State :=
  s.dma.foldl (fun (s : State) e =>
    if s.fld (DMA_CTL (e.1 / 16) (e.1 % 16)) DMA_CTL_PACE = k + 2 then s.dmaFall (e.1 / 16) (e.1 % 16) else s) s

/-- The filtered value of an input becomes `v`; a report of the value that it already has is a run of the opposite value too
short to pass, which only counts (R317, R318, R339). -/
def execPinFilterChange (pin : PinId) (v : Bool) (s : State) : Host.Outcome State Fault Refusal :=
  match pinReg pin with
  | none => .next s
  | some a =>
    if s.flag a PIN_FLT_LEVEL = v then .next (s.incSat a PIN_FLT_GLITCH)
    else
      let s := (s.setFlag a PIN_FLT_LEVEL v).setFlag a PIN_FLT_RAW v
      match pin with
      | .evtIn k => .next ((if v then s else s.pinFall k.toNat).pinEvent k.toNat v)
      | _ => .next s

end Sys2Proof.Machine
end

