-- ==== Sys2Proof/Machine/Vault.lean ====
section
/-! DEFINITION. The vault: its key contexts, retirement, exports and random ports; zeroisation, tamper and scan
(R404 to R416, R423 to R435). -/

namespace Sys2Proof.Machine

/-! Status (R430, R434) -/

/-- LC_STAT as a read returns it. -/
def State.lcStat (s : State) : Word :=
  let r := s.root
  let b (x : Bool) (i : Nat) : Nat := b2n x * 2 ^ i
  (s.rd LC_STAT &&& 0x8100) ||| BitVec.ofNat 32 (b (r.ident.isSome && r.prov.isSome) 14 + b r.kekRepl.isSome 13
    + b r.kekImport.isSome 12 + b s.fuses.owner.isSome 9 + s.lcState)

/-- KEXPORTs outstanding in the device. [Marks: DEDUCED (log entry 63)] -/
def State.exportsOut (s : State) : Nat := ((s.cores.map (fun e => e.2.kexp.length))).foldl (· + ·) 0

/-- VAULT_STAT as a read returns it. -/
def State.vaultStat (s : State) : Word :=
  (s.rd VAULT_STAT &&& 0xE0000000) ||| BitVec.ofNat 32 (min s.vault.handles.length 16 * 2 ^ 24 + min s.exportsOut 4 * 2 ^ 18
    + s.vault.keys.length)

/-- The Warden executes: it has booted, and neither a mismatch nor a hot restart holds it.
[Marks: DEDUCED (log entry 77)] -/
def State.wardenRuns (s : State) : Bool := s.warden.up && !s.warden.halted && !s.warden.restarting

/-! Key contexts (R236, R410, R412) -/

/-- The context of a key: its SA's format and IVID give IVB (R236, R410). [Marks: DEDUCED (log entry 63)] -/
def KeyCopy.ctx (c : KeyCopy) (fmt : Nat) (dir : Bool) (ivid : BitVec 64) (sa : Nat) (k : Bool) : SkbCtx :=
  let key := toBE 32 c.key.toNat
  let salt := toBE 12 c.salt.toNat
  let xor (x : List Byte) : List Byte := List.zipWith (· ^^^ ·) salt (x ++ List.replicate 8 0)
  let ivb := match fmt with
    | 0 => toBE 8 ivid.toNat ++ List.replicate 4 0
    | 1 => xor (toBE 4 c.ssci.toNat)
    | _ => xor (toBE 4 (ivid.toNat % 2 ^ 32))
  { live := true, key := BitVec.ofNat 256 (leNat key),
    h := BitVec.ofNat 128 (leOfNats (aesEnc (key.map BitVec.toNat) (List.replicate 16 0))),
    ivb := BitVec.ofNat 96 (leNat ivb), dir := dir, keeper := false, sa := sa, k := k }

/-- The context of a live key as the SA's registers make it. -/
def State.keyCtx (s : State) (sa : Nat) (k : Bool) (c : KeyCopy) : SkbCtx :=
  c.ctx (s.fld (SA_CFG sa) SA_CFG_FORMAT) (s.flag (SA_CFG sa) SA_CFG_DIR) ((s.vault.ivid.get none sa).getD 0) sa k

/-- Write a context at an index in each of a list of clusters. -/
def State.putCtx (s : State) (idx : Nat) (x : SkbCtx) (homes : List Nat) : State :=
  homes.foldl (fun (s : State) c => s.setClu c ((s.clu c).setCtx idx x)) s

/-- Retire context `idx` in each of a list of clusters (R242). -/
def State.dropCtx (s : State) (idx : Nat) (homes : List Nat) : State :=
  homes.foldl (fun (s : State) c =>
    let x := s.clu c
    (s.retireCtx c idx 3).setClu c { x.setCtx idx SkbCtx.empty with restore := x.restore.filter (fun j => j != idx) }) s

/-- A background retirement ends (R412 step 5): the contexts go, and the vault copy where it is to be erased; the last one
of a deletion ends the SA. -/
def execKeyRetireComplete (i : BitVec 12) (k : Bool) (s : State) : Host.Outcome State Fault Refusal :=
  match s.vault.retiring.find? (fun r => r.sa == i.toNat && r.key == k) with
  | none => .next s
  | some r =>
    if !s.wardenRuns || s.vault.zeroAt != 0 then .next s
    else
      let s := (s.upTo r.at_).dropCtx r.idx r.homes
      let v := s.vault
      let left := v.retiring.erase r
      let v := { v with retiring := left, keys := if r.erase then v.keys.set none (2 * r.sa + b2n k) none else v.keys }
      let v := if r.delete && !left.any (fun x => x.sa == r.sa) then { v with ivid := v.ivid.set none r.sa none } else v
      .next { s with vault := v }

/-! Exports and handles (R241, R257, R409, R416) -/

/-- Exports of the device that were issued before this one and are still outstanding.
[Marks: DEDUCED (log entry 63)] -/
def State.exportsBefore (s : State) (g : Nat) (x : KExp) : Nat :=
  (s.cores.map (fun e => (e.2.kexp.filter (fun y => decide (y.at_ < x.at_ ∨ (y.at_ = x.at_ ∧ e.1 < g)))).length)).foldl (· + ·) 0

/-- The vault accepts or refuses the oldest export of core g (R241, R257, R409, R435).
[Marks: DEDUCED (log entry 63)] -/
def execKexportComplete (g : CoreId) (s : State) : Host.Outcome State Fault Refusal :=
  match (s.core g).kexp with
  | [] => .next s
  | x :: xs =>
    let h := x.handle.toNat
    let err := if s.vault.zeroAt ≠ 0 then 3
      else if 4 ≤ s.exportsBefore g x then 2
      else match s.vault.handles.get none h with
        | some k => if k.bound = some g.val then 0 else 1
        | none => 1
    let s := if err = 0 then
        let v := s.vault
        let k := (v.handles.get none h).map (fun k => { k with secret := some x.secret })
        { s with vault := { v with handles := v.handles.set none h k } }
      else s
    let c := s.core g
    let s := s.setCore g (({ c with kexp := xs }.wrCr0 37 (BitVec.ofNat 32 err)).farIdle s.now)
    .next (s.raisePriv g 9)

/-- 60 s without KE_FINISH: the handle in slot h is closed and source 49 raised (R416). -/
def execKeHandleTimeout (h : R4) (s : State) : Host.Outcome State Fault Refusal :=
  match s.vault.handles.find? (fun e => match e.2 with
    | some k => decide ((e.1 - 1) % 16 = h.toNat) && k.init
    | none => false) with
  | some (n, some k) =>
    let s := s.upTo (k.at_ + 120000000000)
    .next ({ s with vault := s.vault.close n }.raiseDev 49)
  | _ => .next s

/-! Random ports (R407, R408) -/

/-- Both ports give values: the health tests pass, the generator is instantiated and no zeroisation runs.
[Marks: DEDUCED (log entry 55)] -/
def State.trngOk (s : State) : Bool := s.flag VAULT_STAT VAULT_STAT_TRNG_OK && s.vault.zeroAt == 0

/-- A 64-bit word of the public or the secret port. -/
def State.trngWord (s : State) (secret : Bool) : TD × State :=
  if s.trngOk then
    let d := s.draw
    (⟨d.1, ⟨secret, false⟩⟩, { d.2 with vault := { d.2.vault with requests := d.2.vault.requests + 1 } })
  else (⟨0, .both⟩, s)

/-- A core's load of one word of a random port into d register rd. -/
def State.trngRead (s : State) (g rd : Nat) (secret : Bool) : State :=
  let c := s.core g
  if !c.run then s
  else if c.pl ≠ 2 then s.except g 6 0 (some (if secret then 0xC000008 else 0xC000000))
  else
    let r := s.trngWord secret
    r.2.setCore g ((r.2.core g).wrDen rd 0xFF r.1)

/-- A Keeper read of TRNG_PUB (R408). -/
def execTrngPub (g : CoreId) (rd : R5) (s : State) : Host.Outcome State Fault Refusal := .next (s.trngRead g rd.toNat false)
/-- A Keeper read of TRNG_SEC (R264, R408). -/
def execTrngSec (g : CoreId) (rd : R5) (s : State) : Host.Outcome State Fault Refusal := .next (s.trngRead g rd.toNat true)

/-- A health test fails (R407); source 48 rises with TRNG_OK (R435). -/
def execTrngHealthFail (s : State) : Host.Outcome State Fault Refusal :=
  let was := s.flag VAULT_STAT VAULT_STAT_TRNG_OK
  let s := (s.setFlag VAULT_STAT VAULT_STAT_TRNG_OK false).setFlag VAULT_STAT VAULT_STAT_DRBG_SEEDED false
  .next (if was then s.devRise 48 else s)

/-- 4,096 consecutive samples pass: the generator is instantiated again (R407). -/
def execTrngRecover (s : State) : Host.Outcome State Fault Refusal :=
  if s.flag VAULT_STAT VAULT_STAT_TRNG_OK then .next s
  else
    let s := (s.setFlag VAULT_STAT VAULT_STAT_TRNG_OK true).setFlag VAULT_STAT VAULT_STAT_DRBG_SEEDED true
    .next { s with vault := { s.vault with requests := 0, seededAt := s.now } }

/-- The generator reseeds, at 65,536 requests or 100 ms after the last seed (R407). -/
def execDrbgReseed (s : State) : Host.Outcome State Fault Refusal :=
  if !s.flag VAULT_STAT VAULT_STAT_DRBG_SEEDED then .next s
  else
    let s := if s.vault.requests < 65536 then s.upTo (s.vault.seededAt + 200000000) else s
    .next { s with vault := { s.vault with requests := 0, seededAt := s.now } }

/-! Zeroisation (R273, R360, R424) -/

/-- Every register of a map whose tint is not {0, 0} becomes zero, untinted (R273).
[Marks: DEDUCED (log entry 52)] -/
def untint {α : Type} (m : SMap (Tagged α)) : SMap (Tagged α) := m.filter (fun e => e.2.t == Tint.clean)

/-- The zeroise engine's work in a core: tinted registers and DMEM words, every key slot with LOADERR 4, the locked sequence
(R242, R273, R359). [Marks: DEDUCED (log entry 52)] -/
def Core.zeroise (c : Core) : Core :=
  let c := { c.breakLock with
    g := untint c.g, a := untint c.a, o := untint c.o, m := untint c.m, acc := untint c.acc, q := untint c.q, p := untint c.p,
    lc := untint c.lc, ls := untint c.ls, le := untint c.le, cr := untint c.cr, dmem := c.dmem.zeroTinted }
  (Sys2Proof.range 0 16).foldl (fun (c : Core) n => c.setSlot n { KeySlot.empty with loaderr := 4 }) c

/-- Every DMA channel of the device is stopped with a cause (R385). -/
def State.dmaStopAll (s : State) (cause : Nat) : State :=
  (Sys2Proof.range 0 12).foldl (fun (s : State) c =>
    (Sys2Proof.range 0 16).foldl (fun (s : State) n => s.dmaAbort c n cause) s) s

/-- The line transmitters go to electrical idle; frames in flight there, and in the Prisms' buffers, are lost and not
counted (R56, R424). -/
def State.lineIdle (s : State) : State :=
  let s := (Sys2Proof.range 0 2).foldl (fun (s : State) sd =>
    (Sys2Proof.range 0 16).foldl (fun (s : State) p =>
      let s := s.setFlag (LANE_STAT sd p) LANE_STAT_TX_IDLE true
      let s := s.setFlag (PORT_STAT sd p) PORT_STAT_LINK_UP false
      { s with cut := s.cut.set 0 (pkey sd p) 1 }) s) s
  { s with
    rx := []
    frames := ((s.frames.filter (fun e => e.2.stage != .wait)).map (fun e => (e.1, { e.2 with pend := [] }))).filter (fun e => e.2 != Frame.none) }

/-- The root store is cleared, with what LC_STAT shows of it (R424). -/
def State.clearRoot (s : State) : State := { s with root := s.root.clear }

/-- T0: zeroisation starts for a cause, or widens a running one (R424, R432). Each item is done at once, within its limit.
[Marks: DEDUCED (log entry 52)] -/
def State.zeroise (s : State) (cause : Nat) (root : Bool) : State :=
  let a := ZEROISE_STAT
  if s.flag a ZEROISE_STAT_RUNNING then
    if root then (s.setFlag a ZEROISE_STAT_ROOT true).clearRoot else s
  else
    let s := (Sys2Proof.range 0 12).foldl State.performBeats s
    let s := ((s.setFlag a ZEROISE_STAT_RUNNING true).setFlag a ZEROISE_STAT_DONE false).setFlag a ZEROISE_STAT_ROOT root
    let s := ((s.setFld a ZEROISE_STAT_CAUSE cause).setFld a ZEROISE_STAT_LOOPS 0).incSat a ZEROISE_STAT_COUNT
    let s := s.dmaStopAll 7
    let s := (Sys2Proof.range 0 96).foldl (fun (s : State) g => s.setCore g (s.core g).zeroise) s
    let s := (Sys2Proof.range 0 12).foldl (fun (s : State) c =>
      let x := s.clu c
      s.setClu c { x with cmem := x.cmem.zeroTinted, skb := [], restore := [], holder := [], remap := 0 }) s
    let s := s.lineIdle
    let s := if root then s.clearRoot else s
    let s := s.setFlag VAULT_STAT VAULT_STAT_ZEROISED true
    let v := s.vault
    { s with vault := { Vault.reset with
        scan := v.scan, scanReq := v.scanReq, requests := v.requests, seededAt := v.seededAt, ivid := v.ivid,
        nextHandle := v.nextHandle, zeroBefore := v.nextHandle, zeroAt := s.now + 1,
        zeroKeys := v.zeroKeys ++ (v.keys.keys).filter (fun k => !v.zeroKeys.contains k) } }

/-- 5 µs after T0: DONE, the fuses of a lifecycle row, scan where it may be enabled, and a warm reset; then a power-on reset
that has waited (R422, R424, R425, R428, R468, R487). [Marks: DEDUCED (log entry 52)] -/
def execZeroiseDone (s : State) : Host.Outcome State Fault Refusal :=
  let a := ZEROISE_STAT
  if !s.flag a ZEROISE_STAT_RUNNING then .next s
  else
    let s := s.upTo (s.vault.zeroAt - 1 + 10000)
    let s := (s.setFlag a ZEROISE_STAT_RUNNING false).setFlag a ZEROISE_STAT_DONE true
    let d := s.clk.deferred
    let row := s.warden.lcTarget
    let s := match row with
      | some f => { s with fuses := { s.fuses with lc := f } }
      | none => s
    let may := s.lcState == 0 || s.lcState == 3
    let s := { s with vault := { s.vault with scan := s.vault.scan || (s.vault.scanReq && may) } }
    let s := (s.warmReset (if row.isSome then 6 else 7)).faultStat FAULT_STAT_ZEROISE
    .next (if d = 1 ∨ d = 3 then s.resetBy d else s)

/-! Tamper and scan (R423, R428) -/

/-- A tamper loop is breached (R423). [Marks: DEDUCED (log entry 52)] -/
def execTamperBreach (loop : BitVec 2) (s : State) : Host.Outcome State Fault Refusal :=
  let k := loop.toNat
  if !bitN (s.fld TAMPER_CTL TAMPER_CTL_EN) k then .next s
  else
    let s := s.zeroise 1 true
    let l := s.fld ZEROISE_STAT ZEROISE_STAT_LOOPS
    .next (s.setFld ZEROISE_STAT ZEROISE_STAT_LOOPS (if bitN l k then l else l + 2 ^ k))

/-- The VBAT monitor confirms a breach while VDD_AON is away: the root store is cleared and the breach recorded for the next
boot. Which of the enabled loops it was, is open here. [Marks: DEDUCED (log entry 52)] -/
def execVbatTamperBreach (s : State) : Host.Outcome State Fault Refusal :=
  let en := s.root.tamperEn % 16
  if en = 0 then .next s
  else
    let d := s.draw
    let hit := (d.1.toNat % 16) &&& en
    let s := d.2.clearRoot
    .next { s with root := { s.root with latch := s.root.latch ||| (if hit = 0 then en else hit) } }

/-- SCAN_REQ (R428). [Marks: DEDUCED (log entry 52)] -/
def execScanReq (s : State) : Host.Outcome State Fault Refusal :=
  if s.lcState = 0 ∨ s.lcState = 3 then
    let s := s.zeroise 4 true
    .next { s with vault := { s.vault with scanReq := true } }
  else .next s.lensRefused

end Sys2Proof.Machine
end

