-- ==== Sys2Proof/Machine/Mailbox.lean ====
section
/-! DEFINITION. The mailbox: its transport, the Warden's queue of commands, SEQ and the response store
(R398 to R400, R536 to R538). -/

namespace Sys2Proof.Machine

/-! Commands and responses (R398) -/

/-- The little-endian field of n bytes at an offset of a command or payload. -/
def fieldAt (bs : List Byte) (o n : Nat) : Nat := leNat ((bs.drop o).take n)
/-- n bytes at an offset. -/
def bytesAt (bs : List Byte) (o n : Nat) : List Byte := fitTo 0 n (bs.drop o)

def cmdOp (c : List Byte) : Nat := fieldAt c 0 2
def cmdSeq (c : List Byte) : Word := BitVec.ofNat 32 (fieldAt c 4 4)
def cmdLen (c : List Byte) : Nat := fieldAt c 8 4

/-- The opcodes of R401. [Marks: DEDUCED (log entry 53)] -/
def opcodes : List Nat :=
  [0x01, 0x02, 0x03, 0x10, 0x11, 0x12, 0x13, 0x14, 0x15, 0x16, 0x20, 0x21, 0x22, 0x23, 0x24, 0x30, 0x31, 0x32, 0x34,
   0x40, 0x41, 0x42, 0x50, 0x51, 0x52]

/-- A response's bytes. -/
def rspBytes (c : List Byte) (status : Nat) (payload : List Byte) : List Byte :=
  toLE 2 (cmdOp c) ++ toLE 2 status ++ toLE 4 (cmdSeq c).toNat ++ toLE 4 payload.length ++ toLE 4 0 ++ payload

/-- What a command answers. -/
inductive Reply where
  /-- OK, with a payload -/
  | ok (payload : List Byte)
  /-- a non-zero STATUS of R400 -/
  | bad (status : Nat)
  /-- OK, once the protect device has acknowledged the SA's change (R518) -/
  | hold (payload : List Byte)
  /-- no response (R422, R425) -/
  | silent
  deriving DecidableEq, Repr

/-! The Warden's side (R397, R399, R419) -/

/-- The Warden is in ROM recovery and executes. -/
def State.recovering (s : State) : Bool := s.warden.rom && !s.warden.halted && !s.warden.restarting

/-- The Warden takes and executes commands. [Marks: DEDUCED (log entry 77)] -/
def State.wardenListens (s : State) : Bool :=
  (s.wardenRuns || s.recovering) && s.vault.zeroAt == 0 && !s.clk.hold

/-- A response reaches RSP_BUF while its generation is the current one and unanswered; else it is late (R537, R538).
[Marks: DEDUCED (log entry 54)] -/
def State.respond (s : State) (gen : Nat) (rsp : List Byte) : State :=
  let m := s.mbx
  if m.busy && m.gen == gen then
    { s with mbx := { m with rsp := rsp, busy := false, rspValid := true } }.msixSend 0
  else (s.inc64 (HOSTIF_CNT 5)).evtSet HOSTIF_EVT HOSTIF_EVT_EN 61 HOSTIF_EVT_MBX_LATE

/-- The SEQ rules of R399: the saved response, BAD_SEQ, or none where the command is accepted.
[Marks: DEDUCED (log entry 53)] -/
def Mbx.seqCheck (m : Mbx) (c : List Byte) : Option (List Byte) :=
  match m.lastSeq with
  | none => if cmdSeq c = 0 then none else some (rspBytes c 3 [])
  | some q =>
    if cmdSeq c = q + 1 then none
    else if cmdSeq c = q ∧ c = m.lastCmd then some m.lastRsp
    else some (rspBytes c 3 [])

/-- Enter an accepted command and its response in the response store (R399, R537). [Marks: DEDUCED (log entry 54)] -/
def State.store (s : State) (c rsp : List Byte) : State :=
  { s with mbx := { s.mbx with lastSeq := some (cmdSeq c), lastCmd := c, lastRsp := rsp } }

/-- Give an accepted command its answer. [Marks: DEDUCED (log entry 54)] -/
def State.finish (s : State) (gen : Nat) (c : List Byte) : Reply → State
  | .ok p => let r := rspBytes c 0 p; (s.store c r).respond gen r
  | .bad n => let r := rspBytes c n []; (s.store c r).respond gen r
  | .hold p =>
    let r := rspBytes c 0 p
    let s := s.store c r
    { s with mbx := { s.mbx with held := some (gen, r) } }
  | .silent => s

/-- The Warden takes the next command at once where its opcode is not defined (R400).
[Marks: DEDUCED (log entry 53)] -/
def State.mbxSkip (s : State) : Nat → State
  | 0 => s
  | n + 1 =>
    match s.mbx.wq with
    | [] => s
    | (gen, c) :: rest =>
      if opcodes.contains (cmdOp c) || s.mbx.held.isSome then s
      else
        let s := { s with mbx := { s.mbx with wq := rest } }
        match s.mbx.seqCheck c with
        | some r => (s.respond gen r).mbxSkip n
        | none => (s.finish gen c (.bad 1)).mbxSkip n

/-- The Warden reads the command in CMD_BUF (R537): 16 bytes and LEN more, at most 16,400.
[Marks: DEDUCED (log entry 53)] -/
def State.mbxTake (s : State) : State :=
  let m := s.mbx
  if !m.busy || !s.wardenListens then s
  else
    let len := leNat (m.cmd.getRange 0 8 4)
    let s := { s with mbx := { m with wq := m.wq ++ [(m.gen, m.cmd.getRange 0 0 (16 + min len 16400))] } }
    s.mbxSkip s.mbx.wq.length

/-- The Warden executes the command at the head of its queue, if it has this opcode. The checks come in the order: LEN, the
lifecycle state and ROM recovery, the zero fields, and then the command's own; `states` are the lifecycle states of R401,
`recovery` says that ROM recovery accepts it, `zero` lists the payload's zero fields as (offset, length).
[Marks: DEDUCED (log entry 53)] -/
def State.command (s : State) (op : Nat) (states : List Nat) (recovery : Bool) (len : Nat → Bool) (zero : List (Nat × Nat))
    (run : State → List Byte → State × Reply) : State :=
  match s.mbx.wq with
  | [] => s
  | (gen, c) :: rest =>
    if cmdOp c ≠ op ∨ !s.wardenListens ∨ s.mbx.held.isSome then s
    else
      let s := { s with mbx := { s.mbx with wq := rest } }
      let s := match s.mbx.seqCheck c with
        | some r => s.respond gen r
        | none =>
          let p := c.drop 16
          let zeros := fieldAt c 2 2 = 0 ∧ fieldAt c 12 4 = 0
          if !len (cmdLen c) then s.finish gen c (.bad 2)
          else if !states.contains s.lcState || (s.recovering && !recovery) then s.finish gen c (.bad 4)
          else if ¬zeros ∨ zero.any (fun z => fieldAt p z.1 z.2 != 0) then s.finish gen c (.bad 5)
          else
            let r := run s p
            r.1.finish gen c r.2
      s.mbxSkip s.mbx.wq.length

/-- A held response is given: the protect device has acknowledged, or REPL_DEADLINE has passed (R518).
[Marks: DEDUCED (log entry 54)] -/
def State.mbxRelease (s : State) : State :=
  let s := { s with ring := { s.ring with wait := none } }
  match s.mbx.held with
  | none => s
  | some (gen, r) =>
    let s := { s with mbx := { s.mbx with held := none } }.respond gen r
    s.mbxSkip s.mbx.wq.length

/-! The host's side (R536 to R538, R545) -/

/-- MBX_DOORBELL.GO: accepted with source 60, or ignored and counted in MBX_STRAY (R537, R544). -/
def State.mbxGo (s : State) : State :=
  let m := s.mbx
  if m.busy || m.rspValid || m.timeout then s.inc64 (HOSTIF_CNT 4)
  else
    let s := { s with mbx := { m with gen := (m.gen + 1) % 256, busy := true, goAt := s.now } }
    (s.raiseDev 60).mbxTake

/-- MBX_ACK.ACK clears RSP_VALID and TIMEOUT (R537, R538, R545). -/
def State.mbxAck (s : State) : State := { s with mbx := { s.mbx with rspValid := false, timeout := false } }

/-- The host writes GO. -/
def execMbxGo (s : State) : Host.Outcome State Fault Refusal := .next s.mbxGo
/-- The host writes ACK. -/
def execMbxAck (s : State) : Host.Outcome State Fault Refusal := .next s.mbxAck

/-- BUSY has been 1 for MBX_TMO milliseconds (R538). [Marks: DEDUCED (log entry 54)] -/
def execMbxTimeout (s : State) : Host.Outcome State Fault Refusal :=
  if !s.mbx.busy then .next s
  else
    let tmo := max 10 ((s.rd MBX_TMO).toNat % 65536)
    let s := s.upTo (s.mbx.goAt + 2000000 * tmo)
    .next ({ s with mbx := { s.mbx with busy := false, timeout := true } }.msixSend 0)

/-- MBX_STAT as a read returns it (R545). -/
def State.mbxStat (s : State) : Word :=
  let m := s.mbx
  BitVec.ofNat 32 (b2n m.busy * 2 ^ 31 + b2n m.rspValid * 2 ^ 30 + b2n m.timeout * 2 ^ 29 + b2n s.alive * 2 ^ 28
    + m.gen % 256 * 2 ^ 16)

end Sys2Proof.Machine
end

