-- ==== Sys2Proof/Machine/Keys.lean ====
section
/-! DEFINITION. The mailbox commands that report, and those that create, change and delete security associations and keys
(R401, R403, R410 to R412, R445, R517, R518). -/

namespace Sys2Proof.Machine

/-! Shared operations -/

/-- Draw n words from a random port, as bytes. [Marks: DESIGN CHOICE (log entry 7)] -/
def State.randomBytes (s : State) (secret : Bool) : Nat → List Byte × State
  | 0 => ([], s)
  | n + 1 =>
    let w := s.trngWord secret
    let r := w.2.randomBytes secret n
    (toLE 8 w.1.v.toNat ++ r.1, r.2)

/-- A Warden write to the Prism's or the Resequencer's registers, atomic against the decisions of its FCLK (R82). -/
def State.wrW (s : State) (off : Nat) (w : Word) : State := (s.logWrite off).wr off w
/-- The same for a 64-bit register. -/
def State.wrW64 (s : State) (off v : Nat) : State := ((s.logWrite off).logWrite (off + 4)).wr64 off v

/-- The SA has been created and its deletion has not ended. -/
def State.saExists (s : State) (sa : Nat) : Bool := (s.vault.ivid.get none sa).isSome
/-- The SA is named by background work (R403). -/
def State.saBusy (s : State) (sa : Nat) : Bool := s.vault.retiring.any (fun r => r.sa == sa)
/-- The home clusters that SA_HOME names (R84). -/
def homesOf (w : Word) : List Nat :=
  (([SA_HOME_HOME0, SA_HOME_HOME1, SA_HOME_HOME2, SA_HOME_HOME3].take (w.fld SA_HOME_HOME_COUNT + 1)).map
    (fun f => w.fld f)).filter (fun c => decide (c < 12))
/-- The lookup entry of an SA. -/
def State.saEntry (s : State) (sa : Nat) : Option Nat :=
  (s.regs.find? (fun e => decide (0x280000 ≤ e.1 ∧ e.1 < 0x2C0000 ∧ e.1 % 16 = 0)
    && match e.2 with
      | some w => w.fld LKUP_CTL_VALID == 1 && w.fld LKUP_CTL_SA_INDEX == sa
      | none => false)).map (fun e => (e.1 - 0x280000) / 16)
/-- The CCLK at which a retirement that starts now completes: the budget of the SA's ingress port plus 1 µs (R412). -/
def State.retireAt (s : State) (sa : Nat) : Nat :=
  let budget := match s.saEntry sa with
    | some i => let w := s.rd (LKUP_CTL i); s.fld (PRM_CFG (w.fld LKUP_CTL_SIDE) (w.fld LKUP_CTL_PORT)) PRM_CFG_BUDGET
    | none => 0
  s.now + 200 * budget + 2000
/-- The lowest epoch of an IN_SERVICE or SPARE core (R445). -/
def State.lowEpoch (s : State) : Option Nat :=
  let es := ((Sys2Proof.range 0 96).filter (fun g => s.rotState g == 0 || s.rotState g == 4)).map s.coreEpoch
  match es with
  | [] => none
  | e :: es => some (es.foldl min e)
/-- An epoch that no core may miss: it does not exceed the lowest in rotation (R445).
[Marks: DEDUCED (log entry 56)] -/
def State.epochOk (s : State) (e : Nat) : Bool :=
  match s.lowEpoch with
  | some l => decide (e ≤ l)
  | none => true
/-- The key was destroyed by a zeroisation and not imported again (R400). -/
def State.keyZeroed (s : State) (sa : Nat) (k : Bool) : Bool := s.vault.zeroKeys.contains (2 * sa + b2n k)
/-- SA_KEY_s with KV of a key at a value. -/
def withKv (w : Word) (k : Bool) (v : Nat) : Word := w.setFld (if k then SA_KEY_KV1 else SA_KEY_KV0) v
/-- The answer of a command that has written SA_KEY_s since state `s0`: it waits for the replica where a REPL message has been
made for the change (R518). -/
def State.afterKey (s s0 : State) (sa : Nat) (payload : List Byte) : State × Reply :=
  if s.ring.seqOf.get 0 sa ≠ s0.ring.seqOf.get 0 sa then
    ({ s with ring := { s.ring with wait := some (sa, s.ring.seqOf.get 0 sa - 1, s.now) } }, .hold payload)
  else (s, .ok payload)

/-! Reports (R401, R402) -/

/-- The value of the identification register (R2). -/
def idcode : Word := (0x3C320#20 ++ Config.idcodeLow)

/-- GET_INFO. [Marks: DEDUCED (log entry 54)] -/
def execGetInfo (s : State) : Host.Outcome State Fault Refusal :=
  .next (s.command 0x01 [0, 1, 2, 3] true (· == 0) [] (fun s _ =>
    (s, .ok (toLE 4 idcode.toNat ++ toLE 4 s.lcStat.toNat ++ toLE 4 s.warden.svn ++ toLE 4 s.fuses.coreSvn
      ++ toLE 4 s.vaultStat.toNat))))

/-- GET_RANDOM. [Marks: DEDUCED (log entry 55)] -/
def execGetRandom (s : State) : Host.Outcome State Fault Refusal :=
  .next (s.command 0x02 [1, 2] false (· == 4) [] (fun s p =>
    let n := fieldAt p 0 4
    if n < 8 ∨ 4096 < n ∨ n % 8 ≠ 0 then (s, .bad 5)
    else if !s.trngOk then (s, .bad 11)
    else
      let r := s.randomBytes false (n / 8)
      (r.2, .ok r.1)))

/-- GET_CHALLENGE: the nonce of the next signed command. [Marks: DEDUCED (log entry 55)] -/
def execGetChallenge (s : State) : Host.Outcome State Fault Refusal :=
  .next (s.command 0x03 [0, 1, 2, 3] false (· == 0) [] (fun s _ =>
    if !s.trngOk then (s, .bad 11)
    else
      let r := s.randomBytes false 4
      let n := BitVec.ofNat 256 (leNat r.1)
      ({ r.2 with vault := { r.2.vault with challenge := some n } }, .ok r.1)))

/-- SA_STATUS. -/
def execSaStatus (s : State) : Host.Outcome State Fault Refusal :=
  .next (s.command 0x16 [1, 2] false (· == 2) [] (fun s p =>
    let sa := fieldAt p 0 2
    let w (a : Nat) : List Byte := toLE 4 (s.rd a).toNat
    let d (a : Nat) : List Byte := toLE 8 (s.rd64 a)
    if 4096 ≤ sa then (s, .bad 5)
    else if s.saBusy sa then (s, .bad 8)
    else (s, .ok (w (SA_CFG sa) ++ w (SA_HOME sa) ++ w (SA_KEY sa) ++ w (SA_STAT sa) ++ d (SA_NEXT_PN sa 0)
      ++ d (SA_PN_LIMIT sa 0) ++ d (SA_NEXT_PN sa 1) ++ d (SA_PN_LIMIT sa 1)))))

/-! Security associations (R80, R83 to R86, R401, R412) -/

/-- The bytes of a home list: the HOME_COUNT + 1 used fields name clusters. [Marks: DEDUCED (log entry 56)] -/
def homesOk (count : Nat) (homes : List Nat) : Bool :=
  decide (count ≤ 3) && (homes.take (count + 1)).all (fun c => decide (c < 12)) && homes.all (fun c => decide (c < 16))
/-- SA_HOME_s of a count and four homes. -/
def homeWord (count : Nat) (h : List Nat) : Word :=
  BitVec.ofNat 32 (count * 2 ^ 16 + nth 0 h 3 * 2 ^ 12 + nth 0 h 2 * 2 ^ 8 + nth 0 h 1 * 2 ^ 4 + nth 0 h 0)
/-- The four home bytes at an offset. -/
def homeBytes (p : List Byte) (o : Nat) : List Nat := (Sys2Proof.range 0 4).map (fun i => fieldAt p (o + i) 1)

/-- SA_CFG as SA_CREATE's payload gives it: VALID, DIR, FORMAT, MODE, INTEG, EPORT, EPOCH (R401, R113). -/
def saCfgOf (p : List Byte) : Word :=
  let b (o : Nat) : Nat := fieldAt p o 1
  BitVec.ofNat 32 (2 ^ 31 + b 2 * 2 ^ 30 + b 3 * 2 ^ 28 + b 4 * 2 ^ 26 + b 5 * 2 ^ 25 + b 6 * 2 ^ 20 + b 7 * 2 ^ 12)

/-- The lookup entry's LKUP_CTL as SA_CREATE's payload gives it: VALID, DIR, key type, PORT, SA (R73, R401). -/
def lkupOf (p : List Byte) : Word :=
  let b (o : Nat) : Nat := fieldAt p o 1
  BitVec.ofNat 32 (2 ^ 31 + b 2 * 2 ^ 30 + b 8 * 2 ^ 28 + b 9 * 2 ^ 24 + fieldAt p 0 2)

/-- The ranges of SA_CREATE's fields: SA, DIR, FORMAT, MODE, INTEG, EPORT, key type, PORT, homes and lookup key (R401, R411).
[Marks: DEDUCED (log entry 56)] -/
def saArgsOk (p : List Byte) : Bool :=
  let b (o : Nat) : Nat := fieldAt p o 1
  let kt := b 8
  decide (fieldAt p 0 2 < 4096 ∧ b 2 ≤ 1 ∧ b 3 ≤ 2 ∧ b 4 ≤ 3 ∧ b 5 ≤ 1 ∧ b 6 ≤ 15 ∧ kt ≤ 3 ∧ b 9 ≤ 15)
    && homesOk (b 10) (homeBytes p 12)
    && decide (fieldAt p 16 8 < match kt with
      | 0 => 2 ^ 12
      | 1 => 2 ^ 64
      | 2 => 2 ^ 32
      | _ => 1)

/-- The registers of a created SA, its lookup entry i, and its IVID (R401). -/
def State.saFill (s : State) (sa : Nat) (p : List Byte) (i : Nat) : State :=
  let s := (s.wrW (SA_HOME sa) (homeWord (fieldAt p 10 1) (homeBytes p 12))).saKeyWrite sa 0
  let s := (s.wrW (SA_REPLAY_WIN sa) (BitVec.ofNat 32 (fieldAt p 32 4))).wrW (SA_PN_WARN sa) (BitVec.ofNat 32 (fieldAt p 36 4))
  let s := (s.nextPnWrite sa false 1).nextPnWrite sa true 1
  let s := (s.wrW64 (SA_PN_LIMIT sa 0) 0).wrW64 (SA_PN_LIMIT sa 1) 0
  let s := (s.wrW (SA_STAT sa) 0).wrW (SA_CFG sa) (saCfgOf p)
  let s := (s.wrW64 (LKUP_KEY i) (fieldAt p 16 8)).wrW (LKUP_CTL i) (lkupOf p)
  { s with vault := { s.vault with ivid := s.vault.ivid.set none sa (some (BitVec.ofNat 64 (fieldAt p 24 8))) } }

/-- SA_CREATE's own checks and effect. [Marks: DEDUCED (log entry 56)] -/
def State.saCreate (s : State) (p : List Byte) : State × Reply :=
  let sa := fieldAt p 0 2
  let b (o : Nat) : Nat := fieldAt p o 1
  if !saArgsOk p then (s, .bad 5)
  else if s.saBusy sa then (s, .bad 8)
  else if s.saExists sa || !s.epochOk (b 7) then (s, .bad 5)
  else match (lookupPos (b 2) (b 8) (b 9) (fieldAt p 16 8)).find? (fun i => !s.flag (LKUP_CTL i) LKUP_CTL_VALID) with
    | none => (s, .bad 6)
    | some i => (s.saFill sa p i, .ok [])

/-- SA_CREATE. -/
def execSaCreate (s : State) : Host.Outcome State Fault Refusal :=
  .next (s.command 0x10 [1, 2] false (· == 40) [(11, 1)] State.saCreate)

/-- The retirements of the live keys of an SA. -/
def State.retireLive (s : State) (sa : Nat) (homes : List Nat) (erase delete : Bool) : List Retire :=
  let w := s.rd (SA_KEY sa)
  ([false, true].filter (keyLive w)).map (fun k => ⟨sa, k, keySkb w k, s.retireAt sa, homes, erase, delete⟩)

/-- Start background work. -/
def State.addRetire (s : State) (rs : List Retire) : State :=
  { s with vault := { s.vault with retiring := s.vault.retiring ++ rs } }

/-- SA_DELETE's own checks and effect: VALID, then the lookup entry, then both keys (R412).
[Marks: DEDUCED (log entry 56)] -/
def State.saDelete (s : State) (p : List Byte) : State × Reply :=
  let sa := fieldAt p 0 2
  if 4096 ≤ sa then (s, .bad 5)
  else if s.saBusy sa then (s, .bad 8)
  else if !s.saExists sa then (s, .bad 5)
  else
    let s0 := s
    let rs := s.retireLive sa (homesOf (s.rd (SA_HOME sa))) true true
    let i := s.saEntry sa
    let s := s.wrW (SA_CFG sa) ((s.rd (SA_CFG sa)).setFld SA_CFG_VALID 0)
    let s := match i with
      | some i => (s.wrW (LKUP_CTL i) 0).wrW64 (LKUP_KEY i) 0
      | none => s
    let live := !rs.isEmpty
    let s := if live then s.saKeyWrite sa (withKv (withKv (s.rd (SA_KEY sa)) false 0) true 0) else s
    let s := s.addRetire rs
    let r := s.afterKey s0 sa []
    let s := r.1.wr (REPL_STAT sa) 0
    (if live then s else { s with vault := { s.vault with ivid := s.vault.ivid.set none sa none } }, r.2)

/-- SA_DELETE. -/
def execSaDelete (s : State) : Host.Outcome State Fault Refusal :=
  .next (s.command 0x11 [1, 2] false (· == 2) [] State.saDelete)

/-- SA_UPDATE's own checks and effect: the live keys enter the new homes before SA_HOME_s is written, and retire from those
removed (R412, R445). [Marks: DEDUCED (log entry 56)] -/
def State.saUpdate (s : State) (p : List Byte) : State × Reply :=
  let sa := fieldAt p 0 2
  let count := fieldAt p 2 1
  let epoch := fieldAt p 3 1
  let homes := homeBytes p 4
  if 4096 ≤ sa ∨ !homesOk count homes then (s, .bad 5)
  else if s.saBusy sa then (s, .bad 8)
  else if !s.saExists sa || !s.epochOk epoch then (s, .bad 5)
  else
    let w := s.rd (SA_KEY sa)
    let old := homesOf (s.rd (SA_HOME sa))
    let new := homes.take (count + 1)
    let added := (new.filter (fun c => !old.contains c)).eraseDups
    let gone := (old.filter (fun c => !new.contains c)).eraseDups
    let live := [false, true].filter (keyLive w)
    let taken (c idx : Nat) : Bool := ((s.clu c).ctx idx).live || (s.clu c).restore.contains idx
    if live.any (fun k => added.any (fun c => taken c (keySkb w k))) then (s, .bad 6)
    else
      let rs := if gone.isEmpty then [] else s.retireLive sa gone false false
      let s := live.foldl (fun (s : State) k =>
        match s.vault.keys.get none (2 * sa + b2n k) with
        | some x => s.putCtx x.idx (s.keyCtx sa k x) added
        | none => s) s
      let s := s.wrW (SA_HOME sa) (homeWord count homes)
      let s := s.wrW (SA_CFG sa) ((s.rd (SA_CFG sa)).setFld SA_CFG_EPOCH epoch)
      let s := s.wrW (SA_REPLAY_WIN sa) (BitVec.ofNat 32 (fieldAt p 8 4))
      (s.addRetire rs, .ok [])

/-- SA_UPDATE. -/
def execSaUpdate (s : State) : Host.Outcome State Fault Refusal :=
  .next (s.command 0x12 [1, 2] false (· == 12) [] State.saUpdate)

/-! Keys (R410 to R412) -/

/-- The fields common to KEY_IMPORT, KE_INIT and KE_RESPOND: SA, key, AN, next PN and PN limit. -/
structure KeyReq where
  sa : Nat
  key : Bool
  an : Nat
  np : Nat
  lim : Nat
  deriving DecidableEq, Repr

/-- The fields, with the answer of a request that R401 or R411 turns away before its key is looked at.
[Marks: DEDUCED (log entry 57)] -/
def State.keyReq (s : State) (p : List Byte) : Sum Nat KeyReq :=
  let sa := fieldAt p 0 2
  let kb := fieldAt p 2 1
  let an := fieldAt p 3 1
  let np := fieldAt p 4 8
  let lim := fieldAt p 12 8
  let k := kb == 1
  if 4096 ≤ sa ∨ 1 < kb ∨ 3 < an then .inl 5
  else if s.saBusy sa then .inl 8
  else
    let w := s.rd (SA_KEY sa)
    let cfg := s.rd (SA_CFG sa)
    if !s.saExists sa then .inl 5
    else if np = 0 ∨ lim < np ∨ (cfg.fld SA_CFG_FORMAT = 0 ∧ 0xFFFFFFFF < lim) then .inl 5
    else if cfg.fld SA_CFG_DIR = 1 ∧ keyLive w (!k) ∧ keyAn w (!k) = an then .inl 5
    else if keyLive w k then .inl 8
    else .inr ⟨sa, k, an, np, lim⟩

/-- The lowest SKB index free in every home cluster (R411). -/
def State.freeIdx (s : State) (homes : List Nat) : Option Nat :=
  (Sys2Proof.range 0 1024).find? (fun i =>
    homes.all (fun c => !((s.clu c).ctx i).live && !(s.clu c).restore.contains i))

/-- Install a plaintext of R410 as a key, in the order of step 1 of R412; the index, or none where no index is common. -/
def State.installKey (s : State) (r : KeyReq) (plain : List Byte) : Option (State × Nat) :=
  let homes := homesOf (s.rd (SA_HOME r.sa))
  match s.freeIdx homes with
  | none => none
  | some idx =>
    let x : KeyCopy := ⟨BitVec.ofNat 256 (beNat (bytesAt plain 0 32)), BitVec.ofNat 96 (beNat (bytesAt plain 32 12)),
      BitVec.ofNat 32 (beNat (bytesAt plain 44 4)), idx⟩
    let i := 2 * r.sa + b2n r.key
    let s := s.putCtx idx (s.keyCtx r.sa r.key x) homes
    let v := s.vault
    let s := { s with vault := { v with keys := v.keys.set none i (some x), zeroKeys := v.zeroKeys.filter (fun j => j != i) } }
    let s := s.setFlag VAULT_STAT VAULT_STAT_ZEROISED false
    let s := (s.nextPnWrite r.sa r.key r.np).wrW64 (SA_PN_LIMIT r.sa (b2n r.key)) r.lim
    let w := withKv (s.rd (SA_KEY r.sa)) r.key 1
    let w := (w.setFld (if r.key then SA_KEY_AN1 else SA_KEY_AN0) r.an).setFld (if r.key then SA_KEY_SKB1 else SA_KEY_SKB0) idx
    some (s.saKeyWrite r.sa w, idx)

/-- KEY_IMPORT's own checks and effect. -/
def State.keyImport (s : State) (p : List Byte) : State × Reply :=
  match s.keyReq p with
  | .inl n => (s, .bad n)
  | .inr r =>
    match s.root.kekImport with
    | none => (s, .bad 10)
    | some kek =>
      match aesUnwrapBytes kek (bytesAt p 20 56) with
      | none => (s, .bad 7)
      | some plain =>
        match s.installKey r plain with
        | none => (s, .bad 6)
        | some (t, idx) => t.afterKey s r.sa (toLE 2 idx)

/-- KEY_IMPORT. -/
def execKeyImport (s : State) : Host.Outcome State Fault Refusal :=
  .next (s.command 0x13 [1, 2] false (· == 76) [] State.keyImport)

/-- The SA and key that KEY_ACTIVATE and KEY_RETIRE name: a live key of an SA without background work, or the STATUS. -/
def State.keyNamed (s : State) (p : List Byte) : Sum Nat (Nat × Bool) :=
  let sa := fieldAt p 0 2
  let kb := fieldAt p 2 1
  let k := kb == 1
  if 4096 ≤ sa ∨ 1 < kb then .inl 5
  else if s.saBusy sa then .inl 8
  else if keyLive (s.rd (SA_KEY sa)) k then .inr (sa, k)
  else if s.keyZeroed sa k then .inl 9
  else .inl 5

/-- KEY_ACTIVATE's own checks and effect (R412 step 2). [Marks: DEDUCED (log entry 56)] -/
def State.keyActivate (s : State) (p : List Byte) : State × Reply :=
  match s.keyNamed p with
  | .inl n => (s, .bad n)
  | .inr (sa, k) =>
    if s.flag (SA_CFG sa) SA_CFG_DIR then (s, .bad 5)
    else (s.saKeyWrite sa ((s.rd (SA_KEY sa)).setFld SA_KEY_ACTIVE (b2n k))).afterKey s sa []

/-- KEY_ACTIVATE. -/
def execKeyActivate (s : State) : Host.Outcome State Fault Refusal :=
  .next (s.command 0x14 [1, 2] false (· == 3) [] State.keyActivate)

/-- KEY_RETIRE's own checks and effect (R412 steps 3 to 5). [Marks: DEDUCED (log entry 56)] -/
def State.keyRetire (s : State) (p : List Byte) : State × Reply :=
  match s.keyNamed p with
  | .inl n => (s, .bad n)
  | .inr (sa, k) =>
    let w := s.rd (SA_KEY sa)
    if !s.flag (SA_CFG sa) SA_CFG_DIR && w.fld SA_KEY_ACTIVE == b2n k then (s, .bad 8)
    else
      let r : Retire := ⟨sa, k, keySkb w k, s.retireAt sa, homesOf (s.rd (SA_HOME sa)), true, false⟩
      ((s.saKeyWrite sa (withKv w k 0)).addRetire [r]).afterKey s sa []

/-- KEY_RETIRE. -/
def execKeyRetire (s : State) : Host.Outcome State Fault Refusal :=
  .next (s.command 0x15 [1, 2] false (· == 3) [] State.keyRetire)

/-! Replication (R517, R518) -/

/-- A full resynchronisation of an SA: its live keys whole, the last message marked; with none live, key 0 as it stands.
[Marks: DEDUCED (log entry 68)] -/
def State.replStart (s : State) (sa : Nat) : State :=
  let w := s.rd (SA_KEY sa)
  let s := match keyLive w false, keyLive w true with
    | true, true => (s.replKey sa false false).replKey sa true true
    | true, false => s.replKey sa false true
    | false, true => s.replKey sa true true
    | false, false => s.replSend sa false false true 0
  { s with ring := { s.ring with resyncSeq := s.ring.resyncSeq.set 0 sa (s.ring.seqOf.get 0 sa) } }

/-- SA_PROTECT's own checks and effect. -/
def State.saProtect (s : State) (p : List Byte) : State × Reply :=
  let sa := fieldAt p 0 2
  let mode := fieldAt p 2 1
  let dir := fieldAt p 3 1
  if 4096 ≤ sa ∨ 2 < mode ∨ 1 < dir then (s, .bad 5)
  else if s.saBusy sa then (s, .bad 8)
  else if !s.saExists sa then (s, .bad 5)
  else if s.root.kekRepl.isNone then (s, .bad 10)
  else
    let was := s.replMode sa
    let peer := s.fld (RING_SPILL_DIR dir) RING_SPILL_DIR_TARGET
    let s := s.wr (REPL_STAT sa) (BitVec.ofNat 32 (mode * 2 ^ 30 + dir * 2 ^ 28 + peer * 2 ^ 16))
    let valid := if mode = 2 then some 0 else if was = 2 then some 1 else none
    let s := match valid with
      | some v => s.wrW (SA_CFG sa) ((s.rd (SA_CFG sa)).setFld SA_CFG_VALID v)
      | none => s
    (if mode = 1 then s.replStart sa else s, .ok [])

/-- SA_PROTECT. -/
def execSaProtect (s : State) : Host.Outcome State Fault Refusal :=
  .next (s.command 0x42 [1, 2] false (· == 4) [] State.saProtect)

end Sys2Proof.Machine
end

