-- ==== Sys2Proof/Machine/KeyEst.lean ====
section
/-! DEFINITION. Post-quantum key establishment, the identity, and the signed commands: trust, owner provisioning and lifecycle
(R401, R402, R406, R414 to R416, R422). -/

namespace Sys2Proof.Machine

/-! Identity (R402, R405, R406) -/

/-- The text of an ASCII tag. -/
def ascii (s : String) : List Byte := s.toList.map (fun c => BitVec.ofNat 8 c.toNat)
/-- IDENT_SEED and PROV_SEED as bytes. -/
def State.identSeed (s : State) : Option (List Byte) := s.root.ident.map (fun x => toBE 32 x.toNat)
def State.provSeed (s : State) : Option (List Byte) := s.root.prov.map (fun x => toBE 64 x.toNat)
/-- This device's DSA_PK; empty while it has no identity. -/
def State.dsaPk (s : State) : List Byte :=
  match s.identSeed with
  | some x => fitTo 0 2592 (Config.mldsaPublic x)
  | none => []
/-- A signature by the identity key, with hedging bytes from the secret port. -/
def State.sign (s : State) (seed msg : List Byte) : List Byte × State :=
  let r := s.randomBytes true 4
  (fitTo 0 4627 (Config.mldsaSign seed msg r.1), r.2)

/-- IDENT_GET. -/
def execIdentGet (s : State) : Host.Outcome State Fault Refusal :=
  .next (s.command 0x24 [1, 2] false (· == 0) [] (fun s _ =>
    match s.identSeed, s.provSeed with
    | some _, some p => (s, .ok (s.dsaPk ++ fitTo 0 1568 (Config.mlkemKeys p).1))
    | _, _ => (s, .bad 10)))

/-! Handles and the Keeper's work (R400, R414, R416) -/

/-- The warm spare core of the lowest-numbered cluster that has one (R414). [Marks: DESIGN CHOICE (log entry 58)] -/
def State.keCore (s : State) : Option Nat := (Sys2Proof.range 0 96).find? (fun g => s.rotState g == 4)
/-- A free slot of the 16. [Marks: DEDUCED (log entry 57)] -/
def State.freeSlot (s : State) : Option Nat :=
  (Sys2Proof.range 0 16).find? (fun i => !s.vault.handles.any (fun e => (e.1 - 1) % 16 == i))
/-- A handle is bound to core g, which another one leaves; the kernel is started with WDN_MSG and counts an open number of
declassifications (R271, R414). [Marks: DESIGN CHOICE (log entry 58)] -/
def State.runKernel (s : State) (g : Nat) : State :=
  let d := s.draw
  let c := d.2.core g
  (d.2.setCore g { c with declCnt := c.declCnt + d.1 }).raisePriv g 10
/-- Unbind whatever handle core g serves. [Marks: DESIGN CHOICE (log entry 58)] -/
def State.unbind (s : State) (g : Nat) : State :=
  match s.vault.boundTo g with
  | some (h, k) => { s with vault := { s.vault with handles := s.vault.handles.set none h (some { k with bound := none }) } }
  | none => s
/-- Open a handle in a slot. [Marks: DEDUCED (log entry 57)] -/
def State.openHandle (s : State) (slot : Nat) (k : KeHandle) : State × Nat :=
  let h := 16 * s.vault.nextHandle + slot + 1
  ({ s with vault := { s.vault with
      nextHandle := s.vault.nextHandle + 1, handles := s.vault.handles.set none h (some k) } }, h)
/-- The STATUS for a handle that is not open (R400). [Marks: DEDUCED (log entry 57)] -/
def State.noHandle (s : State) (h : Nat) : Nat := if h ≠ 0 ∧ (h - 1) / 16 < s.vault.zeroBefore then 9 else 5
/-- The key hash stands in the line trust list (R414). -/
def State.lineTrusts (s : State) (pk : List Byte) : Bool := s.vault.trustLine.contains (sha3 pk)
/-- M_I and M_R of R414, signed for the peer with key `pk`. -/
def msgI (ek pk : List Byte) : List Byte := ascii "ZKE1" ++ ek ++ sha3Bytes pk
def msgR (ek ct pk : List Byte) : List Byte := ascii "ZKE2" ++ sha3Bytes (ek ++ ct) ++ sha3Bytes pk
/-- The plaintext of R410 that an establishment derives (R415). -/
def State.kePlain (s : State) (r : KeyReq) (z ek ct : List Byte) : List Byte :=
  kdf z (sha3Bytes (ek ++ ct) ++ toBE 8 ((s.vault.ivid.get none r.sa).getD 0).toNat ++ [BitVec.ofNat 8 r.an]) 48

/-- KE_INIT's own checks and effect (R414 step 1): DK stays K-tinted in the handle's buffer.
[Marks: DEDUCED (log entry 57)] -/
def State.keInit (s : State) (p : List Byte) : State × Reply :=
  match s.keyReq p with
  | .inl n => (s, .bad n)
  | .inr r =>
    let pk := bytesAt p 20 2592
    match s.identSeed with
    | none => (s, .bad 10)
    | some seed =>
      if !s.trngOk then (s, .bad 11)
      else if !s.lineTrusts pk then (s, .bad 7)
      else match s.keCore, s.freeSlot with
        | some g, some slot =>
          let z := s.randomBytes true 8
          let keys := Config.mlkemKeys z.1
          let ek := fitTo 0 1568 keys.1
          let sig := z.2.sign seed (msgI ek pk)
          let s := (sig.2.unbind g).runKernel g
          let k : KeHandle := ⟨true, r.sa, r.key, r.an, r.np, r.lim, s.now, some g, pk, ek, none,
            Mem.zero.storeAll 0 (fitTo 0 3168 keys.2) .onlyK⟩
          let o := s.openHandle slot k
          (o.1, .ok (toLE 4 o.2 ++ ek ++ sig.1))
        | _, _ => (s, .bad 6)

/-- KE_INIT. -/
def execKeInit (s : State) : Host.Outcome State Fault Refusal :=
  .next (s.command 0x20 [1, 2] false (· == 2612) [] State.keInit)

/-- KE_RESPOND's own checks and effect (R414 step 2, R415). [Marks: DEDUCED (log entry 57)] -/
def State.keRespond (s : State) (p : List Byte) : State × Reply :=
  match s.keyReq p with
  | .inl n => (s, .bad n)
  | .inr r =>
    let pk := bytesAt p 20 2592
    let ek := bytesAt p 2612 1568
    match s.identSeed with
    | none => (s, .bad 10)
    | some seed =>
      if !s.trngOk then (s, .bad 11)
      else if !s.lineTrusts pk || !Config.mldsaVerify pk (msgI ek s.dsaPk) (bytesAt p 4180 4627) then (s, .bad 7)
      else match s.keCore, s.freeSlot with
        | some g, some _ =>
          let m := s.randomBytes true 4
          let e := Config.mlkemEncaps ek m.1
          let ct := fitTo 0 1568 e.2
          let sig := m.2.sign seed (msgR ek ct pk)
          match ((sig.2.unbind g).runKernel g).installKey r (s.kePlain r e.1 ek ct) with
          | some (t, idx) => t.afterKey s r.sa (toLE 2 idx ++ toLE 2 0 ++ ct ++ sig.1)
          | none => (s, .bad 6)
        | _, _ => (s, .bad 6)

/-- KE_RESPOND. -/
def execKeRespond (s : State) : Host.Outcome State Fault Refusal :=
  .next (s.command 0x21 [1, 2] false (· == 8807) [] State.keRespond)

/-- KE_FINISH's own checks and effect (R414 step 3, R415). [Marks: DEDUCED (log entry 57)] -/
def State.keFinish (s : State) (p : List Byte) : State × Reply :=
  let h := fieldAt p 0 4
  let ct := bytesAt p 4 1568
  match s.vault.handles.get none h with
  | none => (s, .bad (s.noHandle h))
  | some k =>
    let req := toLE 2 k.sa ++ [BitVec.ofNat 8 (b2n k.key), BitVec.ofNat 8 k.an] ++ toLE 8 k.nextPn ++ toLE 8 k.limit
    match s.keyReq req with
    | .inl n => (s, .bad n)
    | .inr r =>
      if !s.trngOk then (s, .bad 11)
      else if !Config.mldsaVerify k.peer (msgR k.ek ct s.dsaPk) (bytesAt p 1572 4627) then (s, .bad 7)
      else match s.keCore with
        | none => (s, .bad 6)
        | some g =>
          let z := Config.mlkemDecaps (k.buf.bytes 0 3168) ct
          match ((s.unbind g).runKernel g).installKey r (s.kePlain r z k.ek ct) with
          | some (t, idx) => ({ t with vault := t.vault.close h }).afterKey s r.sa (toLE 2 idx)
          | none => (s, .bad 6)

/-- KE_FINISH. -/
def execKeFinish (s : State) : Host.Outcome State Fault Refusal :=
  .next (s.command 0x22 [1, 2] false (· == 6199) [] State.keFinish)

/-- KE_ABORT closes a handle (R416). -/
def execKeAbort (s : State) : Host.Outcome State Fault Refusal :=
  .next (s.command 0x23 [1, 2] false (· == 4) [] (fun s p =>
    let h := fieldAt p 0 4
    match s.vault.handles.get none h with
    | none => (s, .bad (s.noHandle h))
    | some _ => ({ s with vault := s.vault.close h }, .ok [])))

/-! Signed commands (R402) -/

/-- The message that a signed command signs: OPCODE, the hash of DSA_PK, and the request before SIG at offset `o`. -/
def State.signedMsg (s : State) (op : Nat) (p : List Byte) (o : Nat) : List Byte :=
  toLE 2 op ++ sha3Bytes s.dsaPk ++ p.take o
/-- NONCE at an offset is that of the latest challenge. [Marks: DEDUCED (log entry 59)] -/
def State.nonceOk (s : State) (p : List Byte) (o : Nat) : Bool :=
  s.vault.challenge == some (BitVec.ofNat 256 (fieldAt p o 32))
/-- The challenge is consumed. [Marks: DEDUCED (log entry 59)] -/
def State.useNonce (s : State) : State := { s with vault := { s.vault with challenge := none } }

/-- PEER_TRUST's own checks and effect: the owner key signs; OP 0 adds the hash, OP 1 removes it.
[Marks: DEDUCED (log entry 59)] -/
def State.peerTrust (s : State) (p : List Byte) : State × Reply :=
  let use := fieldAt p 0 1
  let op := fieldAt p 1 1
  let hash := BitVec.ofNat 512 (beNat (bytesAt p 4 64))
  let ok := s.nonceOk p 68 && match s.fuses.owner with
    | some o => Config.mldsaVerifyBy o (s.signedMsg 0x41 p 100) (bytesAt p 100 4627)
    | none => false
  let s := s.useNonce
  let v := s.vault
  let put (v : Vault) : State × Reply := ({ s with vault := v }, .ok [])
  if 2 < use ∨ 1 < op then (s, .bad 5)
  else if !ok then (s, .bad 7)
  else if use = 0 then
    if op = 1 then put { v with trustLine := v.trustLine.filter (fun x => x != hash) }
    else if v.trustLine.contains hash then put v
    else if 64 ≤ v.trustLine.length then (s, .bad 6)
    else put { v with trustLine := v.trustLine ++ [hash] }
  else
    let new (old : Option (BitVec 512)) : Option (BitVec 512) :=
      if op = 0 then some hash else if old = some hash then none else old
    if use = 1 then put { v with trustEast := new v.trustEast } else put { v with trustWest := new v.trustWest }

/-- PEER_TRUST. -/
def execPeerTrust (s : State) : Host.Outcome State Fault Refusal :=
  .next (s.command 0x41 [1, 2] false (· == 4727) [(2, 2)] State.peerTrust)

/-- OWNER_PROVISION's own checks and effect (R402, R415, R433). [Marks: DEDUCED (log entry 59)] -/
def State.ownerProvision (s : State) (p : List Byte) : State × Reply :=
  let pk := bytesAt p 0 2592
  let ct := bytesAt p 2592 1568
  let hash := sha3 pk
  let ok := s.nonceOk p 4232 && Config.mldsaVerify pk (s.signedMsg 0x50 p 4264) (bytesAt p 4264 4627)
    && match s.fuses.owner with
      | some o => o == hash
      | none => true
  let s := s.useNonce
  match s.provSeed with
  | none => (s, .bad 10)
  | some seed =>
    if !ok then (s, .bad 7)
    else match s.keCore with
      | none => (s, .bad 6)
      | some g =>
        let k := kdf (Config.mlkemDecaps (Config.mlkemKeys seed).2 ct) (ascii "ZPRV" ++ sha3Bytes pk) 48
        match aesUnwrapBytes (BitVec.ofNat 256 (beNat (k.take 32))) (bytesAt p 4160 72) with
        | none => (s, .bad 7)
        | some keks =>
          let s := (s.unbind g).runKernel g
          let r := { s.root with
            kekImport := some (BitVec.ofNat 256 (beNat (bytesAt keks 0 32))),
            kekRepl := some (BitVec.ofNat 256 (beNat (bytesAt keks 32 32))), valid := true, latch := 0 }
          let f := if s.fuses.owner.isNone && s.lcState == 1 then { s.fuses with owner := some hash } else s.fuses
          ({ s with root := r, fuses := f }.setFld TAMPER_CTL TAMPER_CTL_LATCH 0, .ok [])

/-- OWNER_PROVISION. -/
def execOwnerProvision (s : State) : Host.Outcome State Fault Refusal :=
  .next (s.command 0x50 [1, 2] false (· == 8891) [] State.ownerProvision)

/-- The fuses of a lifecycle state (R421). -/
def lcFuses (target : Nat) : BitVec 8 :=
  match target with
  | 1 => 0x01
  | 2 => 0x03
  | _ => 0x07

/-- LC_ADVANCE's own checks and effect (R402, R422): zeroisation where the row requires it, the fuses, and a warm reset.
[Marks: DEDUCED (log entry 59)] -/
def State.lcAdvance (s : State) (p : List Byte) : State × Reply :=
  let target := fieldAt p 0 1
  let msg := s.signedMsg 0x51 p 36
  let sig := bytesAt p 36 4627
  let signer := if s.lcState = 0 then Config.vilbokenHash else s.fuses.owner.getD Config.vilbokenHash
  let ok := s.nonceOk p 4 && Config.mldsaVerifyBy signer msg sig
  let s := s.useNonce
  let from_ := s.lcState
  let row := (from_ = 0 ∧ target = 1) ∨ ((from_ = 1 ∨ from_ = 2) ∧ target = 3)
  let plain := from_ = 1 ∧ target = 2 ∧ s.fuses.owner.isSome ∧ s.root.kekImport.isSome
  if ¬row ∧ ¬plain then (s, .bad 5)
  else if !ok then (s, .bad 7)
  else if row then ({ s with warden := { s.warden with lcTarget := some (lcFuses target) } }.zeroise 3 true, .silent)
  else ({ s with fuses := { s.fuses with lc := lcFuses target } }.warmReset 6, .silent)

/-- LC_ADVANCE. [Marks: DEDUCED (log entry 59)] -/
def execLcAdvance (s : State) : Host.Outcome State Fault Refusal :=
  .next (s.command 0x51 [0, 1, 2] false (· == 4663) [(1, 3)] State.lcAdvance)

/-- ZEROISE (R401, R424, R425): FLAGS bit 0 takes the root store in; no response. [Marks: DEDUCED (log entry 59)] -/
def execZeroise (s : State) : Host.Outcome State Fault Refusal :=
  .next (s.command 0x52 [0, 1, 2, 3] true (· == 4) [(1, 3)] (fun s p =>
    if 1 < fieldAt p 0 1 then (s, .bad 5) else (s.zeroise 2 (fieldAt p 0 1 == 1), .silent)))

/-- PRIN_SET (R401, R431): in DEPLOYED it only clears bits; the root store keeps the value.
[Marks: DEDUCED (log entry 59)] -/
def execPrinSet (s : State) : Host.Outcome State Fault Refusal :=
  .next (s.command 0x40 [1, 2] false (· == 4) [] (fun s p =>
    let v := fieldAt p 0 4
    if 16 ≤ v then (s, .bad 5)
    else
      let old := s.rd PRIN_CTL
      let new := if s.lcState = 2 then old &&& BitVec.ofNat 32 v else BitVec.ofNat 32 v
      ({ s.wr PRIN_CTL new with root := { s.root with prinCtl := new } }, .ok (toLE 4 new.toNat))))

end Sys2Proof.Machine
end

