-- ==== Sys2Proof/Machine/Images.lean ====
section
/-! DEFINITION. Images and cost tables: staging, verification, the boot flash, the boot of the Warden and its restarts
(R397, R401, R406, R417 to R420, R439, R444 to R446, R489, R540). -/

namespace Sys2Proof.Machine

/-! Image verification (R418) -/

/-- The header's fields. -/
def imgType (b : List Byte) : Nat := fieldAt b 6 1
def imgSigner (b : List Byte) : Nat := fieldAt b 7 1
def imgSvn (b : List Byte) : Nat := fieldAt b 8 4
def imgBuild (b : List Byte) : Nat := fieldAt b 0xC 4
def imgLen (b : List Byte) : Nat := fieldAt b 0x10 4
def imgEpoch (b : List Byte) : Nat := fieldAt b 0x14 4
def imgBody (b : List Byte) : List Byte := (b.drop 0x1D00).take (imgLen b)

/-- Every field meets its row and every zero field is zero; the image is `b` whole.
[Marks: DEDUCED (log entry 61)] -/
def imgForm (b : List Byte) : Bool :=
  let t := imgType b
  decide (fieldAt b 0 4 = 0x4D49475A ∧ fieldAt b 4 2 = 1 ∧ t ≤ 1 ∧ imgSigner b ≤ 1 ∧ imgSvn b ≤ 64
    ∧ 1 ≤ imgLen b ∧ imgLen b ≤ (if t = 0 then 262144 else 65536) ∧ imgEpoch b < (if t = 0 then 1 else 256)
    ∧ b.length = 0x1D00 + imgLen b)
    && (bytesAt b 0x28 24).all (· == 0) && (bytesAt b 0x1CB3 77).all (· == 0)

/-- The signer may sign this image in this lifecycle state. [Marks: DEDUCED (log entry 61)] -/
def State.imgSignerOk (s : State) (b : List Byte) : Bool :=
  if imgType b = 0 then imgSigner b == 0 else if s.lcState = 2 then imgSigner b == 1 else true

/-- The hashes, the signature and the minimum SVN. [Marks: DEDUCED (log entry 61)] -/
def State.imgAuth (s : State) (b : List Byte) : Bool :=
  let pk := bytesAt b 0x80 2592
  let min := if imgType b = 0 then s.fuses.wardenSvn else s.fuses.coreSvn
  let key := if imgSigner b = 0 then some Config.vilbokenHash else s.fuses.owner
  (key == some (sha3 pk)) && decide (min ≤ imgSvn b) && (sha3Bytes (imgBody b) == bytesAt b 0x40 64)
    && Config.mldsaVerify pk (b.take 0xAA0) (bytesAt b 0xAA0 4627)

/-- An image is valid (R418). [Marks: DEDUCED (log entry 61)] -/
def State.imgValid (s : State) (t : Nat) (b : List Byte) : Bool :=
  imgForm b && imgType b == t && s.imgSignerOk b && s.imgAuth b

/-- A verified core image as the loader uses it (R439). -/
def coreImageOf (b : List Byte) : CoreImage :=
  ⟨imgEpoch b, imgSvn b, (Sys2Proof.range 0 4).map (fun n => BitVec.ofNat 32 (fieldAt b (0x18 + 4 * n) 4)), imgBody b⟩

/-! Cost tables and staging (R401) -/

/-- A cost table enters slot t: its window holds it, the rest of the window is zero, and the commit follows (R97, R98).
[Marks: DEDUCED (log entry 60)] -/
def State.costPut (s : State) (t : Nat) (bs : List Byte) : State :=
  let s := (Sys2Proof.range 0 512).foldl (fun (s : State) i =>
    s.wr (COST t i) (BitVec.ofNat 32 (fieldAt bs (4 * i) 4))) s
  s.costCommit t

/-- COST_LOAD's own checks and effect. Slot 0 also writes the boot flash, with a table that passes (R417).
[Marks: DEDUCED (log entry 60)] -/
def State.costLoad (s : State) (p : List Byte) : State × Reply :=
  let t := fieldAt p 0 1
  let bs := p.drop 4
  if 1 < t then (s, .bad 5)
  else if s.flag (COST_STAT t) COST_STAT_VALID then (s, .bad 5)
  else
    let s := s.costPut t bs
    let s := if t = 0 && s.flag (COST_STAT 0) COST_STAT_VALID then { s with flash := { s.flash with cost := bs } } else s
    (s, .ok (toLE 4 (s.rd (COST_STAT t)).toNat))

/-- COST_LOAD. [Marks: DEDUCED (log entry 60)] -/
def execCostLoad (s : State) : Host.Outcome State Fault Refusal :=
  .next (s.command 0x30 [0, 1, 2] false (fun n => decide (36 ≤ n ∧ n ≤ 1060)) [(1, 3)] State.costLoad)

/-- IMAGE_STAGE: a chunk of the image, inside the largest flash area of 512 KiB. [Marks: DEDUCED (log entry 61)] -/
def execImageStage (s : State) : Host.Outcome State Fault Refusal :=
  .next (s.command 0x31 [0, 1, 2, 3] true (fun n => decide (20 ≤ n ∧ n ≤ 16388 ∧ n % 16 = 4)) [] (fun s p =>
    let o := fieldAt p 0 4
    let bs := p.drop 4
    if o % 16 ≠ 0 ∨ 524288 < o + bs.length then (s, .bad 5)
    else ({ s with warden := { s.warden with staged := s.warden.staged.setRange 0 o bs } }, .ok [])))

/-- The staged image of TOTAL bytes. -/
def State.staged (s : State) (total : Nat) : List Byte := s.warden.staged.getRange 0 0 total

/-- A flash area takes an image; a Warden image goes to the slot that did not boot (R401, R540). -/
def State.flashImage (s : State) (b : List Byte) : State :=
  let f := s.flash
  { s with flash := if imgType b = 1 then { f with core := b }
      else if s.warden.slotB then { f with wardenA := b } else { f with wardenB := b } }

/-- A core-image update starts (R444 step 2): the copy, MIRROR_STAT and ROT_STEP of every cluster.
[Marks: DEDUCED (log entry 61)] -/
def State.mirrorStart (s : State) (im : CoreImage) : State :=
  let old := ((s.warden.images.head?).map CoreImage.epoch).getD 0
  let steps := (Sys2Proof.range 0 12).foldl (fun (m : SMap Word) c => m.set 12500000 c (s.rd (ROT_STEPR c))) []
  let s := { s with warden := { s.warden with images := s.warden.images ++ [im], oldStep := steps } }
  let s := s.wr MIRROR_STAT (BitVec.ofNat 32 (2 ^ 31 + im.epoch * 2 ^ 16 + old * 2 ^ 8))
  (Sys2Proof.range 0 12).foldl (fun (s : State) c => s.wr (ROT_STEPR c) 150000) s

/-- An image's epoch is greater than every epoch in service, and a committed table has it (R444, R445).
[Marks: DEDUCED (log entry 61)] -/
def State.mirrorArgs (s : State) (e : Nat) : Bool :=
  s.warden.images.all (fun i => decide (i.epoch < e))
    && (Sys2Proof.range 0 96).all (fun g => !(s.rotState g == 0 || s.rotState g == 1 || s.rotState g == 4) || decide (s.coreEpoch g < e))
    && (Sys2Proof.range 0 2).any (fun t => s.flag (COST_STAT t) COST_STAT_VALID && s.fld (COST_STAT t) COST_STAT_EPOCH == e)

/-- IMAGE_COMMIT's own checks and effect (R401, R418, R444, R446). [Marks: DEDUCED (log entry 61)] -/
def State.imageCommit (s : State) (p : List Byte) : State × Reply :=
  let total := fieldAt p 0 4
  let action := fieldAt p 4 1
  if 524288 < total ∨ 1 < action then (s, .bad 5)
  else
    let b := s.staged total
    let t := imgType b
    if !imgForm b || (t == 0 && action == 1) then (s, .bad 5)
    else if t = 1 ∧ (s.lcState = 3 ∨ s.recovering) then (s, .bad 4)
    else if !s.imgSignerOk b then (s, .bad 5)
    else if !s.imgAuth b then (s, .bad 7)
    else
      let rsp : Reply := .ok (toLE 4 (imgSvn b) ++ toLE 4 (imgEpoch b))
      if action = 1 then (s.flashImage b, rsp)
      else if t = 0 then
        let s := s.flashImage b
        ({ s with warden := { s.warden with restarting := true } }, rsp)
      else if !s.mirrorArgs (imgEpoch b) then (s, .bad 5)
      else if s.flag MIRROR_STAT MIRROR_STAT_ACTIVE then (s, .bad 6)
      else (s.mirrorStart (coreImageOf b), rsp)

/-- IMAGE_COMMIT. -/
def execImageCommit (s : State) : Host.Outcome State Fault Refusal :=
  .next (s.command 0x32 [0, 1, 2, 3] true (· == 8) [(5, 3)] State.imageCommit)

/-- SVN_COMMIT raises the fused minimums (R420). -/
def execSvnCommit (s : State) : Host.Outcome State Fault Refusal :=
  .next (s.command 0x34 [1, 2] false (· == 0) [] (fun s _ =>
    let core := (s.warden.images.map CoreImage.svn).foldl max s.fuses.coreSvn
    let f := { s.fuses with wardenSvn := max s.fuses.wardenSvn s.warden.svn, coreSvn := core }
    ({ s with fuses := f }, .ok (toLE 4 s.warden.svn ++ toLE 4 core))))

/-- A flash write of the command at the head of the Warden's queue has not ended within its limit: the area is left without a
valid header, and the command returns NO_RESOURCE (R540). [Marks: DEDUCED (log entry 61)] -/
def execFlashWriteTimeout (s : State) : Host.Outcome State Fault Refusal :=
  match s.mbx.wq with
  | [] => .next s
  | (gen, c) :: rest =>
    let p := c.drop 16
    let run (f : State → List Byte → State × Reply) (wrote : State → State → Bool) (clear : Flash → Flash) : State :=
      let t := (f s p).1
      if (s.mbx.seqCheck c).isNone && wrote s t then
        let s := { s with flash := clear s.flash, mbx := { s.mbx with wq := rest } }
        let s := s.finish gen c (.bad 6)
        s.mbxSkip s.mbx.wq.length
      else s
    if !s.wardenListens || s.mbx.held.isSome then .next s
    else if cmdOp c = 0x30 ∧ fieldAt p 0 1 = 0 then
      .next (run State.costLoad (fun s t => !s.flag (COST_STAT 0) COST_STAT_VALID && t.flag (COST_STAT 0) COST_STAT_VALID)
        (fun f => { f with cost := [] }))
    else if cmdOp c = 0x32 then
      let warden := imgType (s.staged (fieldAt p 0 4)) = 0
      let toA := s.warden.slotB
      .next (run State.imageCommit (fun s t => t.warden.restarting || (fieldAt p 4 1 == 1 && decide (t.flash ≠ s.flash ∨ s.imgValid 1 s.flash.core)))
        (fun f => if warden then (if toA then { f with wardenA := [] } else { f with wardenB := [] }) else { f with core := [] }))
    else .next s

/-! Boot and restarts (R397, R406, R419, R446, R489) -/

/-- The Warden slot that boots: the valid one with the greater SVN, BUILD; A when equal; none where neither is valid.
[Marks: DEDUCED (log entry 62)] -/
def State.bootSlot (s : State) : Option Bool :=
  let a := s.flash.wardenA
  let b := s.flash.wardenB
  match s.imgValid 0 a, s.imgValid 0 b with
  | false, false => none
  | true, false => some false
  | false, true => some true
  | true, true => some (decide (imgSvn a < imgSvn b ∨ (imgSvn a = imgSvn b ∧ imgBuild a < imgBuild b)))

/-- Steps 1 to 5 of R419: the slot's firmware runs, with TAMPER_CTL.EN and PRIN_CTL from the root store, the generator
instantiated and the identity seeds in place. [Marks: DEDUCED (log entry 62)] -/
def State.wardenStart (s : State) (slotB : Bool) : State :=
  let b := if slotB then s.flash.wardenB else s.flash.wardenA
  let w := s.warden
  let s := { s with warden := { w with
    up := true, rom := false, halted := false, restarting := false, slotB := slotB, svn := imgSvn b, imem := imgBody b, dmem := Mem.zero } }
  let s := s.setFlag LC_STAT LC_STAT_RECOVERY false
  let s := s.setFld TAMPER_CTL TAMPER_CTL_EN (s.root.tamperEn % 16)
  let s := s.wr PRIN_CTL s.root.prinCtl
  let s := (s.setFlag VAULT_STAT VAULT_STAT_TRNG_OK true).setFlag VAULT_STAT VAULT_STAT_DRBG_SEEDED true
  let s := { s with vault := { s.vault with requests := 0, seededAt := s.now } }
  if (s.lcState = 1 ∨ s.lcState = 2) ∧ (s.root.ident.isNone ∨ s.root.prov.isNone) then
    let i := s.randomBytes true 4
    let p := i.2.randomBytes true 8
    let s := p.2
    { s with root := { s.root with
        ident := some (BitVec.ofNat 256 (beNat i.1)), prov := some (BitVec.ofNat 512 (beNat p.1)), valid := true } }
  else s

/-- Steps 6 to 8 of R419: the boot core image and its cost table, where they are valid; then every core in RELOAD is loaded
and released, and ALIVE starts (R439). [Marks: DEDUCED (log entry 62)] -/
def State.coresStart (s : State) : State :=
  let im := s.flash.core
  let s := if s.imgValid 1 im then { s with warden := { s.warden with images := [coreImageOf im] } } else s
  let ok := s.imgValid 1 im && costErr s.flash.cost == 0
  let s := if ok then s.costPut 0 s.flash.cost else s
  let s := if s.warden.images.isEmpty then s
    else ((Sys2Proof.range 0 96).filter (fun g => s.rotState g == 3 && s.domain g == 2)).foldl State.releaseCore s
  let s := (Sys2Proof.range 0 12).foldl (fun (s : State) c => s.setClu c { s.clu c with stepAt := s.now }) s
  { s with warden := { s.warden with kickAt := s.now + 1, late := false } }

/-- The clocks and the cluster links are up by the time that the Warden boots (R483, R489).
[Marks: DEDUCED (log entry 62)] -/
def State.coldStart (s : State) : State :=
  let s := [CLK_STAT_PLL_A_LOCK, CLK_STAT_PLL_B_LOCK, CLK_STAT_STBY_OK, CLK_STAT_REF_A_OK, CLK_STAT_REF_B_OK].foldl
    (fun (s : State) f => s.setFlag CLK_STAT f true) s
  (Sys2Proof.range 0 12).foldl (fun (s : State) c =>
    if s.domain (96 + c) = 2 ∧ !s.flag (CLINK_STAT c) CLINK_STAT_FENCED then s.setFlag (CLINK_STAT c) CLINK_STAT_UP true else s) s

/-- What the boot finds in the root store: ROOT_LOST, and a breach that the VBAT monitor recorded (R406, R423, R432).
[Marks: DEDUCED (log entry 62)] -/
def State.rootCheck (s : State) : State :=
  let s := s.setFlag LC_STAT LC_STAT_ROOT_LOST (!s.root.valid)
  let l := s.root.latch % 16
  if l = 0 then s
  else (s.setFld TAMPER_CTL TAMPER_CTL_LATCH l).setFld ZEROISE_STAT ZEROISE_STAT_CAUSE 5

/-- The Warden boots from the release of reset (R419, R489). [Marks: DEDUCED (log entry 62)] -/
def execWardenBoot (s : State) : Host.Outcome State Fault Refusal :=
  if s.warden.up || s.clk.hold || s.vault.zeroAt != 0 || s.warden.rom || s.warden.halted then .next s
  else
    let s := s.coldStart.rootCheck
    match s.bootSlot with
    | none => .next ({ s.setFlag LC_STAT LC_STAT_RECOVERY true with warden := { s.warden with rom := true } }.mbxTake)
    | some b => .next ((s.wardenStart b).coresStart.mbxTake)

/-- The comparator finds a mismatch: both Warden cores stop, and the commands that they had taken are lost with them; a second
mismatch within 1 s leaves the Warden halted (R397, R453). Which output group differs is open.
[Marks: DEDUCED (log entry 62)] -/
def execLockstepMismatch (s : State) : Host.Outcome State Fault Refusal :=
  if s.warden.halted || !(s.warden.up || s.warden.rom) then .next s
  else
    let w := s.warden
    let again := w.mismatchAt ≠ 0 ∧ s.now + 1 < w.mismatchAt + 2000000000
    let d := s.draw
    let s := d.2
    let s := { s with
      warden := { w with halted := true, restarting := !again, mismatchAt := s.now + 1 }
      mbx := { s.mbx with wq := [], held := none } }
    .next (s.record none 19 (if again then 0 else 7) 10 0 (d.1.setWidth 32) 0)

/-- The Warden's hot restart ends: steps 1 to 5 of R419 from the newer valid slot, and, where no core has been released yet,
steps 6 to 8 too (R397, R446, R453). [Marks: DEDUCED (log entries 54, 62)] -/
def execWardenHotRestart (s : State) : Host.Outcome State Fault Refusal :=
  if !s.warden.restarting || s.vault.zeroAt != 0 then .next s
  else match s.bootSlot with
    | none => .next ({ s.setFlag LC_STAT LC_STAT_RECOVERY true with
        warden := { s.warden with up := false, rom := true, halted := false, restarting := false } }.mbxTake)
    | some b =>
      let cold := s.warden.kickAt == 0
      let s := s.wardenStart b
      let s := if cold then s.coresStart else { s with warden := { s.warden with kickAt := s.now + 1, late := false } }
      .next s.mbxTake

end Sys2Proof.Machine
end

