-- ==== Sys2Proof/Machine/Ring.lean ====
section
/-! DEFINITION. The Tertos ring: ring-up, flits, loss and wrap, advertisements, spill and replication (R497 to R528). -/

namespace Sys2Proof.Machine

/-! The SAs that replication names -/

/-- The SAs whose REPL_STAT shows a MODE and a partner. -/
def State.replSas (s : State) (mode peer : Nat) : List Nat :=
  ((s.regs.filter (fun e => decide (0x468000 ≤ e.1 ∧ e.1 < 0x46C000))).map (fun e => (e.1 - 0x468000) / 4)).filter
    (fun sa => s.replMode sa == mode && s.replPeer sa == peer)

/-- A replica is no longer fresh (R518, R526). -/
def State.replStale (s : State) (sa : Nat) : State :=
  let was := s.flag (REPL_STAT sa) REPL_STAT_FRESH
  let s := s.setFlag (REPL_STAT sa) REPL_STAT_FRESH false
  if was && s.replMode sa == 2 then s.ringEvt RING_EVT_REPL_STALE else s

/-- The bound of R498 holds for the devices reached and this one. -/
def State.ringBound (s : State) : Bool :=
  decide (350 * (s.reachedNodes.length + 1) + 2600 ≤ 100 * s.fld RING_REPLR RING_REPLR_REPL_DEADLINE)

/-- While the bound is broken, TOO_LONG is set and no replica is fresh (R498). -/
def State.boundCheck (s : State) : State :=
  if s.ringBound then s
  else
    let sas := ((s.regs.filter (fun e => decide (0x468000 ≤ e.1 ∧ e.1 < 0x46C000))).map (fun e => (e.1 - 0x468000) / 4)).filter
      (fun sa => s.replMode sa == 2)
    sas.foldl State.replStale (s.ringEvt RING_EVT_TOO_LONG)

/-! Loss and fences (R503, R507, R510, R512, R520) -/

/-- With no ring port UP, every MODE 1 encrypt SA stops (R520). -/
def State.isolated (s : State) : State :=
  if s.rpState 0 = 3 ∨ s.rpState 1 = 3 then s
  else
    let sas := (s.regs.filter (fun e => decide (0x468000 ≤ e.1 ∧ e.1 < 0x46C000))).map (fun e => (e.1 - 0x468000) / 4)
    (sas.filter (fun sa => s.replMode sa == 1 && !s.flag (SA_CFG sa) SA_CFG_DIR)).foldl State.stopSa s

/-- A LOSS of node y, sent by node x: spilled frames whose taker it is are dropped (R512 step 4, R521).
[Marks: DEDUCED (log entry 66)] -/
def State.lossOf (s : State) (y x : Nat) : State :=
  let l := s.ring.losses.get [] y
  let s := { s with ring := { s.ring with losses := s.ring.losses.set [] y (if l.contains x then l else l ++ [x]) } }
  (s.framesWith (fun f => match f.spill with
    | some d => decide (s.fld (RING_SPILL_DIR d) RING_SPILL_DIR_TARGET = y) && f.done.isNone
    | none => false)).foldl (fun (s : State) f => s.drop f 4) s

/-- The neighbour of port d, UP until now, is lost: the port takes a state, the ring wraps, and a LOSS leaves by the other
port (R510, R512, R520). -/
def State.neighbourLost (s : State) (d st cause : Nat) : State :=
  let y := s.fld (RPORT_STAT d) RPORT_STAT_PEER_NODE
  let p := s.rp d
  let s := s.setRp d { p with queue := [], replay := [] }
  let s := (s.setRpState d st).setFlag (RPORT_STAT d) RPORT_STAT_WRAPPED true
  let s := (s.inc64 (RPORT_CNT d 4)).ringEvt RING_EVT_PORT_LOST
  let s := s.record none 24 (if st = 5 then 3 else 0) 9 d (BitVec.ofNat 32 y) (BitVec.ofNat 32 cause)
  let s := s.lossOf y s.nodeId
  let s := if s.rpState (1 - d) = 3 then s.ringOwn (1 - d) 255 (.loss (BitVec.ofNat 8 y)) else s
  s.isolated

/-- Close the handle of a port's handshake. [Marks: DEDUCED (log entry 65)] -/
def State.closeRing (s : State) (d : Nat) : State :=
  let h := (s.rp d).handle
  if h = 0 then s else { s with vault := s.vault.close h }.setRp d { s.rp d with handle := 0 }

/-- Fence port d for a cause (R503 to R507, R512). [Marks: DEDUCED (log entry 65)] -/
def State.rpFence (s : State) (d cause : Nat) : State :=
  let st := s.rpState d
  if st = 5 then s
  else
    let s := (s.closeRing d).setFld (RPORT_STAT d) RPORT_STAT_FENCE_CAUSE cause
    if st = 3 then s.neighbourLost d 5 cause
    else
      let s := s.setRp d { RPortSt.reset with pcs := s.rp d |>.pcs, pcsAt := s.rp d |>.pcsAt }
      s.setRpState d 5

/-! Acknowledgement, credits and acceptance (R502 to R505) -/

/-- The messages that a cumulative acknowledgement leaves in the replay buffer. -/
def unackedAfter (ack : Nat) : List RSent → List RSent
  | [] => []
  | m :: ms =>
    let d := (ack + 4096 - m.h.seq.toNat) % 4096
    if m.n ≤ d ∧ d ≤ 512 then unackedAfter ack ms else m :: ms

/-- Every message in the replay buffer is sent again, with the same bytes; the eighth retry in succession fences (R504). -/
def State.ringReplay (s : State) (d : Nat) : State :=
  let p := s.rp d
  if p.replay.isEmpty then s
  else
    let s := s.inc64 (RPORT_CNT d 2)
    if 8 ≤ p.run + 1 then (s.setRp d { p with run := p.run + 1 }).rpFence d 1
    else
      let s := s.setRp d { p with run := p.run + 1, replay := p.replay.map (fun m => { m with at_ := s.now }) }
      p.replay.foldl (fun (s : State) m => s.emit (.ring d m.h m.body)) s

/-- The header's acknowledgement, NACK and credits act (R500, R504, R505). [Marks: DESIGN CHOICE (log entry 64)] -/
def State.ringAck (s : State) (d : Nat) (h : FlitHdr) : State :=
  let p := s.rp d
  let left := unackedAfter h.ack.toNat p.replay
  let i := h.crSel.toNat
  let i := if i / 2 = 0 then 0 + i % 2 else 2 + i % 2
  let s := s.setRp d { p with
    replay := left, run := if left.length < p.replay.length then 0 else p.run,
    credits := setNth p.credits i (nth 0 p.credits i + h.credit.toNat) }
  if h.nack then s.ringReplay d else s

/-- A flit is not accepted and is to be answered with a NACK; the eighth in succession fences (R504).
[Marks: DESIGN CHOICE (log entry 64)] -/
def State.ringNack (s : State) (d : Nat) : State :=
  let p := s.rp d
  let s := s.setRp d { p with nack := true, rxRun := p.rxRun + 1 }
  if 8 ≤ p.rxRun + 1 then s.rpFence d 1 else s

/-- The port takes protected flits: it is UP, or its keys are installed (R507). -/
def State.rpTakes (s : State) (d : Nat) : Bool :=
  (s.rp d).pcs && (s.rpState d == 3 || (s.rpState d == 2 && (s.rp d).keyed))

/-- A port enters UP. -/
def State.rpUp (s : State) (d : Nat) : State :=
  if s.rpState d = 3 then s
  else
    let s := s.setRp d { s.rp d with hbAt := s.now + 1 }
    (s.setRpState d 3).ringEvt RING_EVT_PORT_UP

/-- A protected message of n flits arrives with a good CRC and tag: accepted in order, it acknowledges, returns credits and
acts by `act`; out of order, it is answered with a NACK (R503 to R505, R507).
[Marks: DESIGN CHOICE (log entry 64)] -/
def State.ringAccept (s : State) (d : Nat) (h : FlitHdr) (body : RBody) (act : State → State) : State :=
  if !s.rpTakes d then s
  else if h.seq.toNat ≠ (s.rp d).rxNum % 4096 then s.ringNack d
  else
    let n := flitsOf body
    let p := s.rp d
    let i := poolOf body h.dl
    let s := s.setRp d { p with rxNum := p.rxNum + n, rxRun := 0, owed := setNth p.owed i (nth 0 p.owed i + n) }
    let s := ((s.add64 (RPORT_CNT d 1) n).rpUp d).ringAck d h
    let s := act s
    s.ringPump d (s.rp d).queue.length

/-- A message that is not for this device goes out by the other port; a broadcast goes on too, until its source
(R506, R511). -/
def State.ringRoute (s : State) (d : Nat) (h : FlitHdr) (body : RBody) (act : State → State) : State :=
  let me := s.nodeId
  let dest := h.dest.toNat
  let src := h.src.toNat
  if src = me then s
  else
    let s := if dest = me ∨ dest = 255 then act s else s
    if dest = me then s else s.ringSend (1 - d) dest src h.dl body

/-! Ring-up (R507 to R509) -/

/-- The trust entry for the neighbour of port d. [Marks: DEDUCED (log entry 65)] -/
def State.ringTrust (s : State) (d : Nat) : Option (BitVec 512) := if d = 0 then s.vault.trustEast else s.vault.trustWest
/-- RING_ID as it is signed. [Marks: DEDUCED (log entry 65)] -/
def State.ringId (s : State) : List Byte := toLE 2 (s.fld RING_CFG RING_CFG_RING_ID)
/-- The header of a flit outside the protected stream. -/
def State.clearHdr (s : State) (d : Nat) : FlitHdr :=
  ⟨false, BitVec.ofNat 8 (s.fld (RPORT_STAT d) RPORT_STAT_PEER_NODE), BitVec.ofNat 8 s.nodeId, 0, 0, false, 0, 0⟩
/-- Send a HELLO or HANDSHAKE message, in clear and outside the sequence. -/
def State.sendClear (s : State) (d : Nat) (b : RBody) : State := s.emit (.ring d (s.clearHdr d) b)

/-- The ring keys of a shared secret enter the port, whose flit numbers start at 0, and it sends its first protected flit
(R502, R509). -/
def State.ringKeys (s : State) (d : Nat) (z ek ct : List Byte) : State :=
  let k := kdf z (ascii "ZRNG" ++ sha3Bytes (ek ++ ct) ++ s.ringId) 88
  let key (o : Nat) : BitVec 256 := BitVec.ofNat 256 (beNat (bytesAt k o 32))
  let salt (o : Nat) : BitVec 96 := BitVec.ofNat 96 (beNat (bytesAt k o 12))
  let p := s.rp d
  let o := if d = 0 then 0 else 44
  let p := { RPortSt.reset with
    keyTx := key o, saltTx := salt (o + 32), keyRx := key (44 - o), saltRx := salt (76 - o), keyed := true,
    pcs := p.pcs, pcsAt := p.pcsAt, helloSent := p.helloSent }
  let s := (s.closeRing d).setRp d p
  s.ringEmit d ⟨.idle, s.fld (RPORT_STAT d) RPORT_STAT_PEER_NODE, s.nodeId, false⟩

/-- The step of the handshake that port d makes now, on spare core g with the identity seed: 1 and 3 on the east port, 2 on the
west port; a failed check fences the port with cause 4 (R508). [Marks: DEDUCED (log entry 65)] -/
def State.ringStep (s : State) (d g : Nat) (seed : List Byte) : State :=
  let p := s.rp d
  let pk := nth [] p.got 0
  let x := nth [] p.got 1
  let sig := nth [] p.got 2
  let trusted := s.ringTrust d == some (sha3 pk)
  let s := (s.unbind g).runKernel g
  match p.step with
  | 1 =>
    match s.freeSlot with
    | none => s.setRp d { p with waiting := true }
    | some slot =>
      let z := s.randomBytes true 8
      let keys := Config.mlkemKeys z.1
      let ek := fitTo 0 1568 keys.1
      let sg := z.2.sign seed (ascii "ZRG1" ++ s.ringId ++ ek)
      let k : KeHandle := ⟨false, 0, false, 0, 0, 0, s.now, some g, [], ek, none,
        Mem.zero.storeAll 0 (fitTo 0 3168 keys.2) .onlyK⟩
      let o := sg.2.openHandle slot k
      (o.1.setRp d { p with step := 3, waiting := false, got := [], handle := o.2 }).sendClear d
        (.handshake 1 [s.dsaPk, ek, sg.1])
  | 2 =>
    if !trusted || !Config.mldsaVerify pk (ascii "ZRG1" ++ s.ringId ++ x) sig then s.rpFence d 4
    else
      let m := s.randomBytes true 4
      let e := Config.mlkemEncaps x m.1
      let ct := fitTo 0 1568 e.2
      let sg := m.2.sign seed (ascii "ZRG2" ++ sha3Bytes (x ++ ct))
      (sg.2.sendClear d (.handshake 2 [s.dsaPk, ct, sg.1])).ringKeys d e.1 x ct
  | _ =>
    match s.vault.handles.get none p.handle with
    | none => s.setRp d { p with step := 1, waiting := true, got := [], handle := 0 }
    | some k =>
      if !trusted || !Config.mldsaVerify pk (ascii "ZRG2" ++ sha3Bytes (k.ek ++ x)) sig then s.rpFence d 4
      else s.ringKeys d (Config.mlkemDecaps (k.buf.bytes 0 3168) x) k.ek x

/-- A step of the handshake that is due on port d: without a spare core, an identity or random bytes, it waits (R508).
[Marks: DEDUCED (log entry 65)] -/
def State.handshake (s : State) (d : Nat) : State :=
  let p := s.rp d
  match s.keCore, s.identSeed with
  | some g, some seed => if s.trngOk then s.ringStep d g seed else s.setRp d { p with waiting := true }
  | _, _ => s.setRp d { p with waiting := true }

/-- Every 1 µs a training port sends a HELLO (R507). -/
def execHelloSend (e : RPort) (s : State) : Host.Outcome State Fault Refusal :=
  let d := rportN e
  if s.rpState d ≠ 1 then .next s
  else
    let s := s.setRp d { s.rp d with helloSent := true }
    .next (s.sendClear d (.hello (d == 0) (BitVec.ofNat 16 (s.fld RING_CFG RING_CFG_RING_ID)) (BitVec.ofNat 8 s.nodeId)))

/-- A HELLO with a good CRC arrives at port e from an east or a west port: a wiring fault, the exchange that ends training, or,
in UP, the sign that the neighbour has restarted (R502, R507). [Marks: DEDUCED (log entry 65)] -/
def execRingHello (e : RPort) (east : Bool) (ringId : BitVec 16) (node : BitVec 8) (s : State) :
    Host.Outcome State Fault Refusal :=
  let d := rportN e
  let st := s.rpState d
  if !(s.rp d).pcs then .next s
  else if st = 3 then .next (s.neighbourLost d 4 0)
  else if st ≠ 1 ∧ st ≠ 2 then .next s
  else if east = (d == 0) then .next ((s.rpFence 0 5).rpFence 1 5)
  else if st = 1 ∧ ringId.toNat = s.fld RING_CFG RING_CFG_RING_ID ∧ (s.rp d).helloSent then
    let s := (s.setFld (RPORT_STAT d) RPORT_STAT_PEER_NODE node.toNat).setRpState d 2
    let s := s.setRp d { s.rp d with step := if d = 0 then 1 else 2, waiting := false }
    .next (if d = 0 then s.handshake d else s)
  else .next s

/-- A HANDSHAKE message arrives at a port in AUTH that awaits it (R502, R508). -/
def execRingHandshake (e : RPort) (step : BitVec 2) (parts : List (List Byte)) (s : State) : Host.Outcome State Fault Refusal :=
  let d := rportN e
  let p := s.rp d
  let awaited := if step = 1 then d == 1 && p.step == 2 else step == 2 && d == 0 && p.step == 3
  if s.rpState d ≠ 2 ∨ !p.pcs ∨ p.keyed ∨ p.waiting ∨ !awaited then .next s
  else .next ((s.setRp d { p with got := parts }).handshake d)

/-- A handshake step that waits for a spare core is tried again, every 1 ms (R508). -/
def execHandshakeRetry (e : RPort) (s : State) : Host.Outcome State Fault Refusal :=
  let d := rportN e
  if s.rpState d = 2 ∧ (s.rp d).waiting then .next ((s.setRp d { s.rp d with waiting := false }).handshake d) else .next s

/-- The receiver of port e locks: a lost port trains again (R499, R507). -/
def execRingPcsLock (e : RPort) (s : State) : Host.Outcome State Fault Refusal :=
  let d := rportN e
  let s := s.setRp d { s.rp d with pcs := true }
  .next (if s.rpState d = 4 then s.rpTrain d else s)

/-- The receiver of port e loses lock (R499). -/
def execRingPcsLoss (e : RPort) (s : State) : Host.Outcome State Fault Refusal :=
  let d := rportN e
  let p := s.rp d
  .next (if p.pcs then s.setRp d { p with pcs := false, pcsAt := s.now } else s)

/-! Flits, heartbeats and loss (R503 to R505, R510) -/

/-- An IDLE message: acknowledgement and credit only (R501). -/
def execRingIdle (e : RPort) (h : FlitHdr) (s : State) : Host.Outcome State Fault Refusal :=
  .next (s.ringAccept (rportN e) h .idle id)

/-- A flit that the receiver does not accept, for the first check of R503 that fails. -/
def execRingFlitError (e : RPort) (kind : FlitErr) (s : State) : Host.Outcome State Fault Refusal :=
  let d := rportN e
  if !s.rpTakes d then .next s
  else match kind with
    | .crc => .next ((s.inc64 (RPORT_CNT d 3)).ringNack d)
    | .seq => .next (s.ringNack d)
    | .tag => .next ((s.ringEvt RING_EVT_AUTH_FAIL).rpFence d 3)

/-- The oldest flit sent has been unacknowledged for 2 µs, which counts as a NACK (R504). -/
def execRingFlitTimeout (e : RPort) (s : State) : Host.Outcome State Fault Refusal :=
  let d := rportN e
  match (s.rp d).replay with
  | [] => .next s
  | m :: _ => if s.rpTakes d then .next ((s.upTo (m.at_ + 4000)).ringReplay d) else .next s

/-- The audit of the four pools at an idle point: a sender's credits and those that it does not hold make the pool
(R104, R505). -/
def execRingCreditAudit (e : RPort) (d0 d1 c0 c1 : BitVec 9) (s : State) : Host.Outcome State Fault Refusal :=
  let d := rportN e
  let cr := (s.rp d).credits
  let ok := [(d0, 256), (d1, 256), (c0, 32), (c1, 32)].zip cr |>.all (fun x => decide (x.1.1.toNat + x.2 = x.1.2))
  if s.rpState d ≠ 3 ∨ ok then .next s else .next (s.rpFence d 2)

/-- A HEARTBEAT arrives (R510). -/
def execRingHeartbeat (e : RPort) (h : FlitHdr) (s : State) : Host.Outcome State Fault Refusal :=
  let d := rportN e
  .next (s.ringAccept d h .heartbeat (fun s => s.setRp d { s.rp d with hbAt := s.now + 1 }))

/-- Every 1 µs a port in UP sends a HEARTBEAT; the first one ends the turning of flits at it (R510, R512). -/
def execHeartbeatSend (e : RPort) (s : State) : Host.Outcome State Fault Refusal :=
  let d := rportN e
  if s.rpState d ≠ 3 then .next s
  else .next ((s.ringOwn d (s.fld (RPORT_STAT d) RPORT_STAT_PEER_NODE) .heartbeat).setFlag (RPORT_STAT d) RPORT_STAT_WRAPPED false)

/-- 4 µs have passed without a HEARTBEAT, or 1 µs without PCS lock (R510). -/
def execNeighbourLost (e : RPort) (s : State) : Host.Outcome State Fault Refusal :=
  let d := rportN e
  let p := s.rp d
  if s.rpState d ≠ 3 then .next s
  else
    let hb := p.hbAt - 1 + 8000
    let t := if p.pcs then hb else min hb (p.pcsAt + 2000)
    .next ((s.upTo t).neighbourLost d 4 0)

/-- RPORT_CTL_p.FENCE (R527). -/
def State.ringPortFence (s : State) (d : Nat) : State := (s.setFlag (RPORT_CTL d) RPORT_CTL_FENCE true).rpFence d 6
/-- A Warden write of RPORT_CTL_p.FENCE. -/
def execRingPortFence (e : RPort) (s : State) : Host.Outcome State Fault Refusal := .next (s.ringPortFence (rportN e))

/-- A write of RING_CFG: ignored while a port is neither DOWN nor FENCED; with EN, a port that is DOWN trains (R507, R524).
[Marks: DEDUCED (log entry 65)] -/
def State.ringCfg (s : State) (v : Word) : State :=
  let still (d : Nat) : Bool := s.rpState d == 0 || s.rpState d == 5
  if !still 0 || !still 1 then s
  else
    let s := s.wr RING_CFG (v &&& 0xC0FFFFFF)
    [0, 1].foldl (fun (s : State) d => if s.rpState d = 0 then s.rpTrain d else s) s

/-- A principal writes RING_CFG. -/
def execRingCfgWrite (who : Prin) (v : Word) (s : State) : Host.Outcome State Fault Refusal :=
  .next (s.guarded who RING_CFG (fun s => s.ringCfg v))

/-! Advertisements (R498, R511, R512) -/

/-- The partner in direction d is latched from the ring's order while the ring is whole: one hop away it is the neighbour; the
cabling fixes the others. A move takes the protected SAs of the direction with it (R511, R528).
[Marks: DEDUCED (log entry 66)] -/
def State.latchTarget (s : State) (d : Nat) : State :=
  let hops := max 1 (s.fld (RING_SPILL_DIR d) RING_SPILL_DIR_HOPS)
  let t := if hops = 1 then s.fld (RPORT_STAT d) RPORT_STAT_PEER_NODE else (Config.ringNode d hops).toNat
  if !s.ringWhole ∨ t = s.fld (RING_SPILL_DIR d) RING_SPILL_DIR_TARGET then s
  else
    let old := s.fld (RING_SPILL_DIR d) RING_SPILL_DIR_TARGET
    let s := s.setFld (RING_SPILL_DIR d) RING_SPILL_DIR_TARGET t
    let sas := (s.replSas 1 old ++ s.replSas 2 old).filter (fun sa => s.replDir sa == d)
    sas.foldl (fun (s : State) sa => (s.replStale sa).setFld (REPL_STAT sa) REPL_STAT_PEER t) s

/-- VALID and NB_LAT of direction d follow the target's last ADVERT (R513, R525). -/
def State.offerOf (s : State) (d : Nat) : State :=
  let a := RING_SPILL_DIR d
  match s.advertOf (s.fld a RING_SPILL_DIR_TARGET) with
  | some x => (s.setFlag a RING_SPILL_DIR_VALID x.offer).setFld a RING_SPILL_DIR_NB_LAT x.nbLat.toNat
  | none => s.setFlag a RING_SPILL_DIR_VALID false

/-- An ADVERT acts: its node is reached and has lost nothing (R498, R511). [Marks: DEDUCED (log entry 66)] -/
def State.advertIn (s : State) (a : Advert) : State :=
  let n := a.node.toNat
  let s := { s with ring := { s.ring with
    adverts := s.ring.adverts.set none n (some (s.now + 1, a)), losses := s.ring.losses.set [] n [] } }
  let s := [0, 1].foldl (fun (s : State) d => (s.latchTarget d).offerOf d) s
  s.boundCheck

/-- An ADVERT arrives (R511). -/
def execRingAdvert (e : RPort) (h : FlitHdr) (a : Advert) (s : State) : Host.Outcome State Fault Refusal :=
  let d := rportN e
  .next (s.ringAccept d h (.advert a) (fun s => s.ringRoute d h (.advert a) (fun s => s.advertIn a)))

/-- Every 10 µs the device sends an ADVERT from both ports (R511). -/
def execAdvertSend (s : State) : Host.Outcome State Fault Refusal :=
  let c := s.rd RING_SPILL_CFG
  let a : Advert := ⟨BitVec.ofNat 8 s.nodeId, c.fld RING_SPILL_CFG_OFFER == 1, BitVec.ofNat 16 (c.fld RING_SPILL_CFG_NB_LAT),
    BitVec.ofNat 3 (s.rpState 0), BitVec.ofNat 3 (s.rpState 1), s.wrapped 0, s.wrapped 1⟩
  .next ([0, 1].foldl (fun (s : State) d => if s.rpState d = 3 then s.ringOwn d 255 (.advert a) else s) s)

/-- 40 µs have passed since the last ADVERT of a node (R511): its offer ends, and its replicas here go stale (R518). -/
def execNodeUnreached (n : BitVec 8) (s : State) : Host.Outcome State Fault Refusal :=
  match s.ring.adverts.get none n.toNat with
  | none => .next s
  | some (t, _) =>
    let s := s.upTo (t + 80000)
    let s := [0, 1].foldl (fun (s : State) d => s.offerOf d) s
    .next ((s.replSas 2 n.toNat).foldl State.replStale s)

/-- A LOSS arrives (R512). -/
def execRingLoss (e : RPort) (h : FlitHdr) (y : BitVec 8) (s : State) : Host.Outcome State Fault Refusal :=
  let d := rportN e
  .next (s.ringAccept d h (.loss y) (fun s => s.ringRoute d h (.loss y) (fun s => s.lossOf y.toNat h.src.toNat)))

/-! Spill (R513 to R516) -/

/-- A SPILL is refused: RESULT 3 goes back at once (R515). [Marks: DESIGN CHOICE (log entry 67)] -/
def State.spillRefuse (s : State) (d : Nat) (x : SpillHdr) : State :=
  ((s.inc64 (RING_CNT 1)).ringEvt RING_EVT_SPILL_REFUSED).ringOwn d x.origin.toNat
    (.result { x with result := 3, outLen := 0 } [] [])

/-- The Prism takes a SPILL message that port d received, among the home clusters of the SA of the same index, and the frame
enters its core's queue with the header's PN (R515). [Marks: DESIGN CHOICE (log entry 67)] -/
def State.spillTake (s : State) (d : Nat) (x : SpillHdr) (bytes : List Byte) (rmask : List Bool) : State :=
  let sd := b2n x.dir
  let sa := x.sa.toNat
  let cls := x.cls.toNat
  let l := x.len.toNat
  let t := tw (2 * s.fclk)
  match s.chooseCore sd sa cls t with
  | none => s.spillRefuse d x
  | some g =>
    match s.costEntry (s.coreEpoch g) cls, s.allocCells (g / 8) ((l + 64 + 255) / 256) with
    | some (base, block), some buf =>
      let c := wmax (s.tfreeOf g) (t + 32) + tw (base + block * ((l + 15) / 16))
      let cfg := s.prd (SA_CFG sa)
      let out := 1 - sd
      let outL := s.outLen out (cfg.fld SA_CFG_EGRESS_PORT) (cfg.fld SA_CFG_FORMAT) l
      if !wle (c + 96 + tw (ser (outL + 64) 400)) (s.timebase + tw (s.fld RING_SPILL_CFG RING_SPILL_CFG_NB_LAT)) then s.spillRefuse d x
      else
        let f := s.nextFid
        let w := s.prd (SA_KEY sa)
        let fr : Frame := { Frame.none with
          side := sd, port := d, at_ := s.now, len := l, fc := min l 256, ended := true, stage := .admitted, sa := sa,
          fmt := cfg.fld SA_CFG_FORMAT, key := x.key, skb := keySkb w x.key, cls := cls, an := x.an.toNat, pn := x.pn.toNat,
          core := g, c := c, pb := block, eport := cfg.fld SA_CFG_EGRESS_PORT, outL := outL, buf := buf,
          cells := (l + 64 + 255) / 256, ftag := (Config.freeDWord s.free).toNat % 2 ^ 18, atCore := true,
          taken := some (x.origin.toNat, x.ftag.toNat), rmask := rmask }
        let s := { s with nextFid := f + 1, free := s.free + 1 }.setFrame f fr
        let s := { s.setTfree g c with chosen := s.chosen.set 0 sd (g + 1) }.inc64 (RING_CNT 0)
        let s := s.linkPush (2 * (g / 8)) (.desc f)
        let n := (bytes.length + 255) / 256
        let s := (Sys2Proof.range 0 n).foldl (fun (s : State) i =>
          s.sendCell f ((bytes.drop (256 * i)).take 256) (decide (i + 1 = n))) s
        s.prismWake g
    | _, _ => s.spillRefuse d x

/-- A SPILL message arrives (R513 to R515). -/
def execRingSpill (e : RPort) (h : FlitHdr) (x : SpillHdr) (bytes : List Byte) (rmask : List Bool) (s : State) :
    Host.Outcome State Fault Refusal :=
  let d := rportN e
  let b := RBody.spill x bytes rmask
  .next (s.ringAccept d h b (fun s => s.ringRoute d h b (fun s => s.spillTake d x bytes rmask)))

/-- The result of a spilled frame: its output enters the reserved cells, and it counts as the frame's FRM_DONE (R516).
[Marks: DESIGN CHOICE (log entry 67)] -/
def State.spillResult (s : State) (x : SpillHdr) (bytes : List Byte) (rmask : List Bool) : State :=
  let s := if x.result = 3 then s.ringEvt RING_EVT_SPILL_REFUSED else s
  match s.framesWith (fun f => f.spill.isSome && f.side == b2n x.dir && f.ftag == x.ftag.toNat && f.drop == 0
      && f.done.isNone && f.stage != .gone) with
  | [] => s
  | f :: _ =>
    let fr := s.frame f
    if x.result = 3 then s.deadlineMiss f
    else
      let cl := fr.core / 8
      let y := s.clu cl
      let bs := bytes.take (256 * fr.cells)
      let m := { y.cmem with b := y.cmem.b.setRange 0 fr.base bs }
      let m := (Sys2Proof.range 0 ((bs.length + 7) / 8)).foldl (fun (m : Mem) w =>
        m.setTint (fr.base + 8 * w) ⟨false, nth false rmask w⟩) m
      (s.setClu cl { y with cmem := m }).takeDone f x.result.toNat x.outLen.toNat

/-- A SPILL_RESULT message arrives (R514, R516). -/
def execRingSpillResult (e : RPort) (h : FlitHdr) (x : SpillHdr) (bytes : List Byte) (rmask : List Bool) (s : State) :
    Host.Outcome State Fault Refusal :=
  let d := rportN e
  let b := RBody.result x bytes rmask
  .next (s.ringAccept d h b (fun s => s.ringRoute d h b (fun s => s.spillResult x bytes rmask)))

/-! Replication (R517 to R521) -/

/-- The replica's key follows a REPL message: the key is unwrapped and expanded into the homes of the SA, or goes (R518).
[Marks: DEDUCED (log entry 68)] -/
def State.replicaKey (s : State) (sa : Nat) (m : ReplMsg) : Option State :=
  let i := 2 * sa + b2n m.key
  let homes := homesOf (s.rd (SA_HOME sa))
  let old := s.vault.keys.get none i
  let drop (s : State) : State :=
    match old with
    | some x => { s.dropCtx x.idx homes with vault := { s.vault with keys := s.vault.keys.set none i none } }
    | none => s
  let regs (s : State) (idx : Nat) : State :=
    let w := withKv (s.rd (SA_KEY sa)) m.key (b2n m.kv)
    let w := (w.setFld (if m.key then SA_KEY_AN1 else SA_KEY_AN0) m.an.toNat).setFld (if m.key then SA_KEY_SKB1 else SA_KEY_SKB0) idx
    let act := if m.active then b2n m.key else if w.fld SA_KEY_ACTIVE = b2n m.key then 1 - b2n m.key else w.fld SA_KEY_ACTIVE
    (s.wrW64 (SA_PN_LIMIT sa (b2n m.key)) m.limit.toNat).saKeyWrite sa (w.setFld SA_KEY_ACTIVE act)
  if !m.kv then some (regs (drop s) 0)
  else match m.wrapped with
    | none => some (regs s ((old.map (fun x => x.idx)).getD 0))
    | some wr =>
      match s.root.kekRepl.bind (fun kek => aesUnwrapBytes kek wr) with
      | none => none
      | some plain =>
        let s := drop s
        match s.freeIdx homes with
        | none => none
        | some idx =>
          let x : KeyCopy := ⟨BitVec.ofNat 256 (beNat (bytesAt plain 0 32)), BitVec.ofNat 96 (beNat (bytesAt plain 32 12)),
            BitVec.ofNat 32 (beNat (bytesAt plain 44 4)), idx⟩
          let s := s.putCtx idx (s.keyCtx sa m.key x) homes
          some (regs { s with vault := { s.vault with keys := s.vault.keys.set none i (some x) } } idx)

/-- A REPL message acts on the protect device: freshness follows REPL_SEQ and full resynchronisations, and REPL_ACK answers it
(R518, R519). [Marks: DEDUCED (log entry 68)] -/
def State.replIn (s : State) (h : FlitHdr) (m : ReplMsg) : State :=
  let sa := m.sa.toNat
  if s.replMode sa ≠ 2 ∨ s.replPeer sa ≠ h.src.toNat then s
  else
    let seq := m.seq.toNat
    let s := if seq = s.ring.seqOf.get 0 sa then s else s.replStale sa
    let i := 2 * sa + b2n m.key
    let s := { s with ring := { s.ring with
      seqOf := s.ring.seqOf.set 0 sa (seq + 1), pnGot := s.ring.pnGot.set 0 i m.pn.toNat } }
    match s.replicaKey sa m with
    | none => s.replStale sa
    | some s =>
      let s := if m.resync && s.ringBound then s.setFlag (REPL_STAT sa) REPL_STAT_FRESH true else s
      s.ringOwn (s.replDir sa) h.src.toNat (.replAck m.sa m.seq)

/-- A REPL message arrives (R518). -/
def execRingRepl (e : RPort) (h : FlitHdr) (m : ReplMsg) (s : State) : Host.Outcome State Fault Refusal :=
  let d := rportN e
  .next (s.ringAccept d h (.repl m) (fun s => s.ringRoute d h (.repl m) (fun s => s.replIn h m)))

/-- The lease of key k that an acknowledgement of `seq` covers (R519). -/
def State.leaseAcked (s : State) (sa seq : Nat) (k : Bool) : State :=
  let i := 2 * sa + b2n k
  let r := s.ring
  if r.leaseOut.get 0 i ≠ 0 ∧ r.leaseSeq.get 0 i ≤ seq then
    { s with ring := { r with lack := r.lack.set 0 i (r.leaseOut.get 0 i), leaseOut := r.leaseOut.set 0 i 0 } }
  else s

/-- A resynchronisation whose last message an acknowledgement of `seq` covers has ended; without one open, the replica is fresh
(R518, R520). -/
def State.resyncAcked (s : State) (sa seq : Nat) : State :=
  let q := s.ring.resyncSeq.get 0 sa
  let s := if q ≠ 0 ∧ q ≤ seq + 1 then
      { s with ring := { s.ring with
          resyncSeq := s.ring.resyncSeq.set 0 sa 0, suspended := s.ring.suspended.filter (fun x => x != sa) } }
    else s
  if s.ring.resyncSeq.get 0 sa = 0 && !s.ring.suspended.contains sa then
    s.setFlag (REPL_STAT sa) REPL_STAT_FRESH true
  else s

/-- A REPL_ACK acts on the working device: a lease holds, a resynchronisation ends, and a command that waits is answered
(R518 to R520). -/
def State.replAcked (s : State) (sa seq : Nat) : State :=
  if s.replMode sa ≠ 1 then s
  else
    let s := ((s.leaseAcked sa seq false).leaseAcked sa seq true).resyncAcked sa seq
    match s.ring.wait with
    | some (a, q, _) => if a = sa ∧ q ≤ seq then s.mbxRelease else s
    | none => s

/-- A REPL_ACK arrives (R518). -/
def execRingReplAck (e : RPort) (h : FlitHdr) (sa : BitVec 12) (seq : Word) (s : State) : Host.Outcome State Fault Refusal :=
  let d := rportN e
  .next (s.ringAccept d h (.replAck sa seq) (fun s =>
    s.ringRoute d h (.replAck sa seq) (fun s => s.replAcked sa.toNat seq.toNat)))

/-- A message for another device passes through (R505, R506). -/
def execRingForward (e : RPort) (h : FlitHdr) (body : RBody) (s : State) : Host.Outcome State Fault Refusal :=
  let d := rportN e
  let act (s : State) : State :=
    match body with
    | .advert a => s.advertIn a
    | .loss y => s.lossOf y.toNat h.src.toNat
    | .spill x bs r => s.spillTake d x bs r
    | .result x bs r => s.spillResult x bs r
    | .repl m => s.replIn h m
    | .replAck sa q => s.replAcked sa.toNat q.toNat
    | _ => s
  match body with
  | .hello _ _ _ => .next s
  | .handshake _ _ => .next s
  | .idle => .next (s.ringAccept d h .idle id)
  | .heartbeat => .next (s.ringAccept d h .heartbeat (fun s => s.setRp d { s.rp d with hbAt := s.now + 1 }))
  | b => .next (s.ringAccept d h b (fun s => s.ringRoute d h b act))

/-- REPL_DEADLINE has passed: the waiting mailbox command completes regardless (R518). -/
def execReplAckTimeout (s : State) : Host.Outcome State Fault Refusal :=
  match s.ring.wait with
  | none => .next s
  | some (_, _, t) => .next ((s.upTo (t + 200 * s.fld RING_REPLR RING_REPLR_REPL_DEADLINE)).mbxRelease)

/-- 10 µs after a smaller advance, the next PNs of a decrypt SA are sent (R519). -/
def execReplPnTimer (i : BitVec 12) (s : State) : Host.Outcome State Fault Refusal :=
  let sa := i.toNat
  .next ([false, true].foldl (fun (s : State) k =>
    let t := s.ring.pnAt.get 0 (2 * sa + b2n k)
    if t = 0 ∨ s.replMode sa ≠ 1 then s else (s.upTo (t - 1 + 20000)).replPn sa k) s)

/-- A protect device has not been reached for REPL_DEADLINE + 10 µs: the lease limit of its SAs is suspended (R520).
[Marks: DEDUCED (log entry 68)] -/
def execLeaseSuspend (n : BitVec 8) (s : State) : Host.Outcome State Fault Refusal :=
  let last := match s.ring.adverts.get none n.toNat with
    | some (t, _) => t + 80000
    | none => 0
  let s := s.upTo (last + 200 * s.fld RING_REPLR RING_REPLR_REPL_DEADLINE + 20000)
  .next ((s.replSas 1 n.toNat).foldl (fun (s : State) sa =>
    let l := s.ring.suspended
    { s.replStale sa with ring := { s.ring with suspended := if l.contains sa then l else l ++ [sa] } }) s)

/-- The protect device is reached again: each of its SAs that is not fresh is resynchronised (R518, R520).
[Marks: DEDUCED (log entry 68)] -/
def execReplResync (n : BitVec 8) (s : State) : Host.Outcome State Fault Refusal :=
  if !s.reached n.toNat then .next s
  else .next (((s.replSas 1 n.toNat).filter (fun sa => !s.flag (REPL_STAT sa) REPL_STAT_FRESH)).foldl State.replStart s)

/-- The LOSS messages that R521 asks for have arrived: from both neighbours of the node, or from its one neighbour where it
ended a chain. [Marks: DEDUCED (log entry 66)] -/
def State.lostTwice (s : State) (n : Nat) : Bool :=
  let l := s.ring.losses.get [] n
  let ends := match s.ring.adverts.get none n with
    | some (_, a) => !(a.stE == 3 && a.stW == 3)
    | none => false
  decide (2 ≤ l.length) || (ends && decide (1 ≤ l.length))

/-- One replica is promoted (R521). [Marks: DEDUCED (log entry 68)] -/
def State.promote (s : State) (sa : Nat) : State :=
  let w := s.rd (SA_KEY sa)
  let s := ([false, true].filter (keyLive w)).foldl (fun (s : State) k =>
    s.nextPnWrite sa k (s.ring.pnGot.get 0 (2 * sa + b2n k))) s
  let s := s.wrW (SA_CFG sa) ((s.rd (SA_CFG sa)).setFld SA_CFG_VALID 1)
  let s := s.setFld (REPL_STAT sa) REPL_STAT_MODE 0
  (s.inc64 (RING_CNT 2)).ringEvt RING_EVT_PROMOTED

/-- The fresh replicas of a lost device are promoted (R512 step 5, R521). -/
def execReplicaPromote (n : BitVec 8) (s : State) : Host.Outcome State Fault Refusal :=
  if !s.lostTwice n.toNat || !s.ringBound then .next s
  else .next (((s.replSas 2 n.toNat).filter (fun sa => s.flag (REPL_STAT sa) REPL_STAT_FRESH)).foldl State.promote s)

end Sys2Proof.Machine
end

