-- ==== Sys2Proof/Machine/Bus.lean ====
section
/-! DEFINITION. Register reads and writes: what a register shows, what a write does to its fields, captures and holds,
the core's windows, far accesses (R11 to R18, R161, R297, R549, R554, R555, R558, R559, R579). -/

namespace Sys2Proof.Machine

/-! What a register shows -/

/-- SRC_CFG_i with the bits that are not stored: TRIG, and a private source's core (R335, R339). -/
def State.srcCfgShow (s : State) (k : Nat) : Word :=
  let bank := if k < 1024 * 12 ∧ 256 ≤ k % 1024 then (k % 1024 - 256) / 32 * 2 ^ 20 else 0
  s.rd (srcAddr k 0) ||| BitVec.ofNat 32 (b2n (s.level k).isSome * 2 ^ 30 + bank)

/-- SRC_STAT_i (R337). -/
def State.srcStatShow (s : State) (k : Nat) : Word :=
  let x := s.src k
  BitVec.ofNat 32 (b2n (s.srcPend k) * 2 ^ 31 + b2n x.act * 2 ^ 30 + x.owner % 8 * 2 ^ 27 + x.occ % 256 * 2 ^ 16)

/-- Word w (CFG, COAL, STAT, CMD) of a source's registers as read. -/
def State.srcShow (s : State) (k w : Nat) : Word :=
  match w with
  | 0 => s.srcCfgShow k
  | 1 => s.rd (srcAddr k 1)
  | 2 => s.srcStatShow k
  | _ => 0

/-- ERRQ_STAT and DERRQ_STAT: LOST as stored, TOPSEV and COUNT (R465). [Marks: DEDUCED (log entry 46)] -/
def errqShow (stored : Word) (q : List ErrRec) : Word :=
  (stored &&& 0x80000000) ||| BitVec.ofNat 32 ((q.map (fun r => r.sev)).foldl max 0 % 4 * 2 ^ 8 + q.length % 32)

/-- CORE_Q_g (R112). -/
def State.coreQShow (s : State) (g : Nat) : Word :=
  BitVec.ofNat 32 (b2n (s.eligibleCore g) * 2 ^ 31 + s.coreEpoch g % 256 * 2 ^ 20 + min (s.qdepth g) 15)

/-- RSQ_PORT_STAT_p (R114). -/
def State.rsqStatShow (s : State) (sd p : Nat) : Word :=
  let o := (s.eg sd p).order
  let wait := match o with
    | f :: _ => (s.frame f).drop == 0 && !s.mayRelease sd p (s.frame f)
    | [] => false
  BitVec.ofNat 32 (o.length % 2 ^ 18 * 2 ^ 14 + b2n wait)

/-- CLINK_POOLFREE_c (R115). [Marks: DESIGN CHOICE (log entry 27)] -/
def State.poolFree (s : State) (c : Nat) : Nat :=
  let held := (s.frames.filter (fun e => e.2.core / 8 == c)).map (fun e => e.2.cells)
  s.fld (CLINK_POOL c) CLINK_POOL_POOL_CELLS - held.foldl (· + ·) 0

/-- ARB_STAT_r (R371). -/
def State.arbStatShow (s : State) (c r : Nat) : Word :=
  let x := s.clu c
  let waits := x.waits.get 0 r != 0
    || (decide (r < 8) && (s.core (8 * c + r)).far.any (fun f => region f.addr.toNat == .cmem && f.granted.isNone))
  BitVec.ofNat 32 (b2n waits * 2 ^ 31 + b2n (x.masked.contains r) * 2 ^ 30 + x.steps.get 0 r % 16 * 2 ^ 24
    + s.arbEff c r % 16 * 2 ^ 16 + min (x.used.get 0 r) 65535)

/-- DMA_STAT_n with PAUSED: a descriptor waits for its request line (R387, R392). -/
def State.dmaStatShow (s : State) (c n : Nat) : Word :=
  let paused := (s.dmaRun c n).isSome && !s.dmaLine c n
  s.rd (DMA_STAT c n) ||| BitVec.ofNat 32 (b2n paused * 2 ^ 30)

/-- WAIT_q_b and SLOT_CYC_q_b of a bucket in use (R140). [Marks: DEDUCED (log entry 30)] -/
def State.ztfShow (s : State) (q b : Nat) (wait : Bool) : Word :=
  let e := s.eg 1 q
  let r := s.portRate 1 q
  if !e.used.contains b then 0
  else BitVec.ofNat 32 (if wait then e.waitOf r b % 2 ^ 24 else e.slotCyc r b % 2 ^ 16)

/-- A word of BAR0 in family `base` with indices, as a read shows it, when hardware does not hold it as a stored word. -/
def State.showBase (s : State) (base i j k off : Nat) : Word :=
  if base = 0x200004 then s.timebase
  else if base = 0x202000 then s.tfreeOf j
  else if base = 0x202004 then s.coreQShow j
  else if base = 0x380104 then s.rsqStatShow i j
  else if base = 0x3A000C then BitVec.ofNat 32 (s.poolFree i)
  else if base = 0x3B1030 then s.ztfShow i j true
  else if base = 0x3B1040 then s.ztfShow i j false
  else if 0x401000 ≤ base ∧ base < 0x401010 then s.srcShow (devKey i) ((base - 0x401000) / 4)
  else if base = 0x420000 then s.lcStat
  else if base = 0x420010 then s.vaultStat
  else if base = 0x430050 then errqShow (s.rd off) s.derrq
  else if base = 0x460018 then s.spillFree.get 0 i
  else if base = 0x470020 then (s.rd off &&& 0x80000000) ||| BitVec.ofNat 32 (0x5C + Config.smbStrap.toNat)
  else if base = 0x800004 then (s.rd off).setFld ROT_STAT_IN_SERVICE (s.coresIn i 0).length
  else if base = 0x800050 then errqShow (s.rd off) (s.clu i).errq
  else if 0x811000 ≤ base ∧ base < 0x811010 then (if 32 ≤ j ∧ j ≤ 254 then s.srcShow (shKey i j) ((base - 0x811000) / 4) else 0)
  else if 0x812000 ≤ base ∧ base < 0x812010 then s.srcShow (prKey (8 * i + j) k) ((base - 0x812000) / 4)
  else if base = 0x813000 then s.rd (AON_WAKE (8 * i + j) k)
  else if base = 0x820104 then s.arbStatShow i j
  else if base = 0x830010 then s.dmaStatShow i j
  else s.rd off

/-- The word at a BAR0 offset as a read shows it, with no effect of the read. -/
def State.show (s : State) (off : Nat) : Word :=
  if off = 0 then idcode
  else match famOf off with
    | some (f, is, _) => s.showBase f.base (nth 0 is 0) (nth 0 is 1) (nth 0 is 2) off
    | none => 0

/-- A MEMWIN as its principal sees it (R550). -/
def State.memwinOf (s : State) (who : Prin) : Word := s.memwin.get 0 (prinKey who)
/-- A principal's MEMWIN takes a value. -/
def State.setMemwin (s : State) (who : Prin) (v : Word) : State :=
  { s with memwin := s.memwin.set 0 (prinKey who) (v &&& 0x8C007F00) }

/-! Reads (R11, R333, R456) -/

/-- Word w above 0 of a record pop: what the principal's last read of word 0 of the same pop captured. -/
def State.recWord (s : State) (who : Prin) (off w : Nat) : Word :=
  match s.recCap.get none (prinKey who) with
  | some (o, ws) => if o = off then nth 0 ws (w - 1) else 0
  | none => 0

/-- A permitted read of one word of BAR0 by a principal: pops, captures, and what it returns.
[Marks: DEDUCED (log entry 69)] -/
def State.regRead (s : State) (who : Prin) (off : Nat) : Word × State :=
  if off = 0x10 then (s.memwinOf who, s)
  else match famOf off with
    | none => (s.show off, s)
    | some (f, is, hi) =>
      if f.base = 0x800040 then
        (if nth 0 is 1 = 0 then s.errqRead who (nth 0 is 0) else (s.recWord who (ERRQ_POPR (nth 0 is 0) 0) (nth 0 is 1), s))
      else if f.base = 0x430040 then
        (if nth 0 is 0 = 0 then s.derrqRead who else (s.recWord who (DERRQ_POPR 0) (nth 0 is 0), s))
      else if f.base = 0x400200 then (s.saEvtPop.2, s.saEvtPop.1)
      else if !f.w64 then (s.show off, s)
      else if hi then
        (match s.cap.get none (prinKey who) with
        | some (o, w) => if o + 4 = off then (w, s) else (s.show off, s)
        | none => (s.show off, s))
      else (s.show off, { s with cap := s.cap.set none (prinKey who) (some (off, s.show (off + 4))) })

/-- A read of one word by a principal: bits that it may not read show zero, and the attempt is counted (R15 to R17, R396,
R532, R533). [Marks: DEDUCED (log entries 69, 71)] -/
def State.busRead (s : State) (who : Prin) (off : Nat) : Word × State :=
  if !s.blockOn off then (0, s.accUnavail who)
  else match famOf off with
    | none => s.regRead who off
    | some (f, _, _) =>
      let r := s.refusedBits who off f false
      let t := if r.2 = 0 then s else s.accRefused who off false r.2
      if r.2 ≠ 0 ∧ (r.1 = 0xFFFFFFFF ∨ f.base = 0x400200) then (0, t)
      else
        let x := t.regRead who off
        (x.1 &&& ~~~ r.1, x.2)

/-! Writes -/

/-- The block of a register is locked for its RWL fields (R69, R112, R114, R115, R116, R137). -/
def State.lockedRwl (s : State) (l : LockId) (off : Nat) : Bool :=
  match l with
  | .none => false
  | .line => s.flag (LINE_LOCKR ((off - 0x100000) / 0x40000)) LINE_LOCKR_LOCK
  | .prism => s.flag (PRISM_LOCKR ((off - 0x200000) / 0x40000)) ⟨0, 0⟩
  | .rsq => s.flag (RSQ_LOCKR ((off - 0x380000) / 0x10000)) ⟨0, 0⟩
  | .clink => s.flag CLINK_LOCKR ⟨0, 0⟩
  | .dlv => s.flag DLV_LOCKR ⟨0, 0⟩
  | .ledger => s.flag LEDGER_CTL ⟨30, 30⟩

/-- The bits of a register that a write replaces. -/
def RegFam.plainBits (f : RegFam) (locked : Bool) : Word :=
  f.rw ||| (if locked then 0 else f.rwl) ||| (f.wdn &&& ~~~ (f.w1c ||| f.w1s ||| f.wo))

/-- A word after a write, by the access codes of its bits (R15). [Marks: DEDUCED (log entry 70)] -/
def RegFam.after (f : RegFam) (locked : Bool) (old v : Word) : Word :=
  let m := f.plainBits locked
  (((old &&& ~~~ m) ||| (v &&& m)) &&& ~~~ (v &&& f.w1c)) ||| (v &&& f.w1s)

/-- A write that acts on the fields by their access codes only; the decisions of this FCLK still see what a Warden write
replaces (R15, R71, R82). -/
def State.storeFields (s : State) (who : Prin) (f : RegFam) (off : Nat) (v : Word) : State :=
  let s := if who = .warden ∧ 0x200000 ≤ off ∧ off < 0x400000 then s.logWrite off else s
  s.wr off (f.after (s.lockedRwl f.lock off) (s.rd off) v)

/-- The same for both words of a 64-bit register, where the write has a high word (R11).
[Marks: DEDUCED (log entry 69)] -/
def State.storeFields64 (s : State) (who : Prin) (f : RegFam) (off : Nat) (v : Word) (hi : Option Word) : State :=
  let s := s.storeFields who f off v
  match hi with
  | some h => s.storeFields who f (off + 4) (if f.base = 0x3B1050 ∨ f.base = 0x3B1058 then h &&& 0xFFFF else h)
  | none => s

/-- PORT_CFG_p (R45 to R47, R69). -/
def State.portCfg (s : State) (who : Prin) (f : RegFam) (sd p off : Nat) (v : Word) : State :=
  if s.portOn sd p then (if bitN v.toNat 31 then s else s.disablePort sd p)
  else if bitN v.toNat 31 then s.enablePort sd p v
  else s.storeFields who f off v

/-- LANE_CFG_l (R58, R66, R67). [Marks: DEDUCED (log entry 70)] -/
def State.laneCfg (s : State) (who : Prin) (f : RegFam) (sd l off : Nat) (v : Word) : State :=
  let locked := s.lockedRwl f.lock off
  let s := s.storeFields who f off (v &&& 0x7FFFFFFF)
  let s := if !locked && v.fld LANE_CFG_PRBS == 0 then s.setFld (LANE_STAT sd l) LANE_STAT_PRBS_ERR 0 else s
  let s := if bitN v.toNat 30 then s.unfenceLane sd l else s
  if bitN v.toNat 31 then s.fenceLane sd l else s

/-- A write to a line, cluster-link or delivery register that does more than its access codes say; none for the others.
[Marks: DEDUCED (log entry 70)] -/
def State.actLine (s : State) (who : Prin) (f : RegFam) (i j off : Nat) (v : Word) (hi : Option Word) : Option State :=
  if f.base = 0x100000 then some (s.portCfg who f i j off v)
  else if f.base = 0x110000 then some (s.laneCfg who f i j off v)
  else if f.base = 0x120000 then some (if bitN v.toNat 31 then s.fenceQuad i j 0 else s)
  else if f.base = 0x3A0000 then
    some (if bitN v.toNat 31 then (s.setFlag (CLINK_CTL i) ⟨31, 31⟩ true).fenceLink i 3 else s)
  else if f.base = 0x3A0008 then some (s.poolWrite i v)
  else if f.base = 0x3B1024 then some (if bitN v.toNat 0 then s.ztfCommit i else s)
  else if f.base = 0x3B102C ∨ f.base = 0x3B1050 ∨ f.base = 0x3B1058 then
    some (if s.portOn 1 i then s else s.storeFields64 who f off v hi)
  else none

/-- COST_CTL: invalidations before commits, slot 0 before slot 1 (R97). [Marks: DEDUCED (log entry 70)] -/
def State.costCtl (s : State) (v : Word) : State :=
  let s := if bitN v.toNat 2 then s.costInval 0 else s
  let s := if bitN v.toNat 3 then s.costInval 1 else s
  let s := if bitN v.toNat 0 then s.costCommit 0 else s
  if bitN v.toNat 1 then s.costCommit 1 else s

/-- The same for SA contexts and cost tables (R85, R97, R107). -/
def State.actSa (s : State) (who : Prin) (f : RegFam) (i j off : Nat) (v : Word) (hi : Option Word) : Option State :=
  if f.base = 0x2C0008 then some (s.saKeyWrite i v)
  else if f.base = 0x2C0010 then
    some (s.nextPnWrite i (j == 1) (v.toNat + 2 ^ 32 * (hi.getD (s.rd (off + 4))).toNat))
  else if f.base = 0x3E0000 then some (if s.flag (COST_STAT i) COST_STAT_VALID then s else s.storeFields who f off v)
  else if f.base = 0x3E1000 then some (s.costCtl v)
  else none

/-- The source whose registers stand in a family. -/
def srcOf (base i j k : Nat) : Option EvSrc :=
  if 0x401000 ≤ base ∧ base < 0x401010 then some (.dev (BitVec.ofNat 8 i))
  else if 0x811000 ≤ base ∧ base < 0x811010 then
    (if h : i < 12 then some (.shared ⟨i, h⟩ (BitVec.ofNat 8 j)) else none)
  else if 0x812000 ≤ base ∧ base < 0x812010 then
    (if h : 8 * i + j < 96 ∧ k < 32 then some (.priv ⟨8 * i + j, h.1⟩ ⟨k, h.2⟩) else none)
  else none

/-- SRC_CMD_i: CLR, then SET (R337). -/
def State.srcCmd (s : State) (src : EvSrc) (v : Word) : State :=
  let s := if bitN v.toNat 0 then s.srcClr src else s
  if bitN v.toNat 1 then s.srcSet src else s

/-- A write to word w of a source's registers. -/
def State.srcWrite (s : State) (src : EvSrc) (w : Nat) (v : Word) : State :=
  if !evExists src then s
  else match w with
    | 0 => s.srcCfg src v
    | 1 => s.wr (srcAddr (evKey src) 1) (v &&& 0xFF00FFFF)
    | 3 => s.srcCmd src v
    | _ => s

/-- CLK_CTL: AUTO, both selections, WARM_REQ last (R482 to R484, R495). [Marks: DEDUCED (log entry 70)] -/
def State.clkCtl (s : State) (v : Word) : State :=
  let s := s.setFld CLK_CTL CLK_CTL_AUTO (v.fld CLK_CTL_AUTO)
  let s := s.refSel (v.fld CLK_CTL_REF_SEL == 1)
  let s := s.pllSel (v.fld CLK_CTL_PLL_SEL == 1)
  if v.fld CLK_CTL_WARM_REQ = 1 then s.requestReset 5 else s

/-- TAMPER_CTL.EN: in DEPLOYED a write never clears a bit; the root store keeps the value (R405, R433).
[Marks: DEDUCED (log entry 70)] -/
def State.tamperCtl (s : State) (v : Word) : State :=
  let en := v.toNat % 16
  let en := if s.lcState = 2 then (BitVec.ofNat 4 en ||| BitVec.ofNat 4 (s.fld TAMPER_CTL TAMPER_CTL_EN)).toNat else en
  { s.setFld TAMPER_CTL TAMPER_CTL_EN en with root := { s.root with tamperEn := en } }

/-- The same for the blocks from 0x003F_0000 to 0x0047_FFFF. [Marks: DEDUCED (log entry 70)] -/
def State.actDev (s : State) (who : Prin) (f : RegFam) (i j k off : Nat) (v : Word) : Option State :=
  if f.base = 0x3F0000 then some (s.tintCtl v)
  else if f.base = 0x400100 ∨ f.base = 0x411000 ∨ f.base = 0x450030 then
    some ((s.storeFields who f off v).setFld off PIN_FLT_GLITCH 0)
  else if 0x401000 ≤ f.base ∧ f.base < 0x401010 then
    (srcOf f.base i j k).map (fun src => s.srcWrite src ((f.base - 0x401000) / 4) v)
  else if f.base = 0x42000C then some (s.tamperCtl v)
  else if f.base = 0x430008 then some (if bitN v.toNat 0 then s.aliveKick else s)
  else if f.base = 0x430020 then some (s.dustCtl v)
  else if f.base = 0x440000 then some (s.pwrCmd v)
  else if f.base = 0x450000 then some (s.clkCtl v)
  else if f.base = 0x460000 then some (s.ringCfg v)
  else if f.base = 0x461000 then some (if bitN v.toNat 31 then s.ringPortFence i else s)
  else none

/-- ROT_CTL: FORCE is taken before STEP_NOW (R462). [Marks: DEDUCED (log entry 70)] -/
def State.rotCtl (s : State) (who : Prin) (f : RegFam) (c off : Nat) (v : Word) : State :=
  let s := s.storeFields who f off v
  let s := if v.fld ROT_CTL_FORCE = 1 then s.forceCore c (v.fld ROT_CTL_FORCE_CORE) else s
  if v.fld ROT_CTL_STEP_NOW = 1 then s.rotStep c else s

/-- ROT_CORE_n: MIRROR_SWAP, RELEASE, and STATE 5 (R448, R464). -/
def State.rotCoreWrite (s : State) (g : Nat) (v : Word) : State :=
  let a := ROT_CORE (g / 8) (g % 8)
  let s := if v.fld ROT_CORE_MIRROR_SWAP = 1 then s.setFlag a ROT_CORE_MIRROR_SWAP true else s
  let s := if v.fld ROT_CORE_RELEASE = 1 ∧ s.rotState g = 3 ∧ !(s.rotOf g).starting then s.releaseCore g else s
  let st := s.rotState g
  if v.fld ROT_CORE_STATE = 5 ∧ st ≠ 5 ∧ st ≠ 6 then s.fenceCore g 5 25 (BitVec.ofNat 32 st) 0 else s

/-- The same for a cluster's blocks. [Marks: DEDUCED (log entry 70)] -/
def State.actCluster (s : State) (who : Prin) (f : RegFam) (c i j off : Nat) (v : Word) : Option State :=
  if f.base = 0x800000 then some (s.rotCtl who f c off v)
  else if f.base = 0x800010 then some (s.rotCoreWrite (8 * c + i) v)
  else if 0x811000 ≤ f.base ∧ f.base < 0x811010 then
    (srcOf f.base c i j).map (fun src => s.srcWrite src ((f.base - 0x811000) / 4) v)
  else if 0x812000 ≤ f.base ∧ f.base < 0x812010 then
    (srcOf f.base c i j).map (fun src => s.srcWrite src ((f.base - 0x812000) / 4) v)
  else if f.base = 0x813000 then some (s.wr (AON_WAKE (8 * c + i) j) v)
  else if f.base = 0x820018 then
    (let s := s.storeFields who f off v
     some (if bitN v.toNat 31 then s.remapStart c (v.fld REMAP_CTL_BANK) else s))
  else if f.base = 0x820100 then some (s.arbPri c i v)
  else if f.base = 0x820200 then some (s.mrepWrite c i v)
  else if f.base = 0x83000C then some (s.dmaCtl c i v)
  else if f.base = 0x830014 then some (s.dmaQcfg c i v)
  else if f.base = 0x830018 then some (s.dmaTail c i v)
  else if f.base = 0x83001C then
    some (let was := s.dmaLine c i
          let s := s.wr off (v &&& 1)
          if was && !s.dmaLine c i then s.dmaFall c i else s)
  else none

/-- What a write to a register does. [Marks: DEDUCED (log entry 70)] -/
def State.regAct (s : State) (who : Prin) (f : RegFam) (i j k off : Nat) (v : Word) (hi : Option Word) : State :=
  let a :=
    if 0x800000 ≤ off then s.actCluster who f i j k off v
    else if 0x3F0000 ≤ off then s.actDev who f i j k off v
    else if 0x280000 ≤ off ∧ off < 0x380000 ∨ 0x3E0000 ≤ off then s.actSa who f i j off v hi
    else s.actLine who f i j off v hi
  a.getD (s.storeFields64 who f off v hi)

/-- The level sources whose input a register can change by its own write. -/
def evtKeys (base i j : Nat) : List Nat :=
  if base = 0x100008 ∨ base = 0x10000C then [devKey (16 * i + j)]
  else if base = 0x380008 ∨ base = 0x38000C then [devKey (32 + i)]
  else if base = 0x3B0008 ∨ base = 0x3B000C then [devKey 34]
  else if base = 0x3F0004 ∨ base = 0x3F0008 then [devKey 35]
  else if base = 0x450008 ∨ base = 0x45000C then [devKey 56]
  else if base = 0x440008 ∨ base = 0x44000C then [devKey 57]
  else if base = 0x460020 ∨ base = 0x460024 then [devKey 59]
  else if base = 0x470000 ∨ base = 0x470004 then [devKey 61]
  else if base = 0x820004 ∨ base = 0x820008 then [shKey i 66]
  else if base = 0x400100 then devKey (40 + i) :: (Sys2Proof.range 0 12).map (fun c => shKey c (72 + i))
  else []

/-- A permitted write of one register, with the high word of a 64-bit one where the write has it; a level source that rises
with it makes its request (R332, R535). -/
def State.regEffect (s : State) (who : Prin) (f : RegFam) (is : List Nat) (off : Nat) (v : Word) (hi : Option Word) : State :=
  let keys := (evtKeys f.base (nth 0 is 0) (nth 0 is 1)).filter (fun k => s.level k != some true)
  let s := s.regAct who f (nth 0 is 0) (nth 0 is 1) (nth 0 is 2) off v hi
  keys.foldl (fun (s : State) k =>
    if s.level k == some true then (if 1024 * 12 ≤ k then s.devRise (k - 1024 * 12) else s.levelRise k) else s) s

/-- A permitted write of one word: the high word of a 64-bit register is held, the low word commits (R11, R13).
[Marks: DEDUCED (log entry 71)] -/
def State.regWrite (s : State) (who : Prin) (off : Nat) (v : Word) : State :=
  match famOf off with
  | none => s
  | some (f, is, hi) =>
    let key := prinKey who
    if hi then { s with hold := s.hold.set none key (some (off - 4, v)) }
    else if f.w64 then
      let h := match s.hold.get none key with
        | some (o, w) => if o = off then some w else none
        | none => none
      { s with hold := s.hold.set none key none }.regEffect who f is off v h
    else s.regEffect who f is off v none

/-- A principal that writes MEMWIN: the host with HOST_MEM, the Lens where the lifecycle lets it, the Warden (R550). -/
def State.memwinWrite (s : State) (who : Prin) (v : Word) : State :=
  let r := match who with
    | .core _ => 1
    | who => s.denied who .memwin 0x10 true
  if r = 0 then s.setMemwin who v else s.accRefused who 0x10 true r

/-- A write of one word of BAR0 by a principal (R15 to R17, R395, R396, R531 to R533, R554).
[Marks: DEDUCED (log entry 71)] -/
def State.busWrite (s : State) (who : Prin) (off : Nat) (v : Word) : State :=
  let foreign := match who with
    | .core g => decide (off < 0x800000 + 0x40000 * (g.val / 8) ∨ 0x840000 + 0x40000 * (g.val / 8) ≤ off) || (s.core g).pl == 0
    | _ => false
  if foreign then s.accRefused who off true 1
  else if off % 4 ≠ 0 then (if who = .warden then s else s.accRefused who off true 5)
  else if off = 0x10 then s.memwinWrite who v
  else if !s.blockOn off then s.accUnavail who
  else match famOf off with
    | none => s
    | some (f, _, _) =>
      let r := s.refusedBits who off f true
      if r.2 = 0 then s.regWrite who off v else s.accRefused who off true r.2

/-! BAR2 (R536, R537) -/

/-- The MSI-X table's word at reset: Vector Control has its mask bit set. [Marks: DEDUCED (log entry 75)] -/
def msixRst (w : Nat) : Word := if w % 4 = 3 then 1 else 0

/-- A write to the MSI-X table: a vector that is unmasked with its pending bit set sends its message (R535).
[Marks: DEDUCED (log entry 75)] -/
def State.msixWrite (s : State) (i : Nat) (v : Word) : State :=
  let v := if i % 4 = 3 then v &&& 1 else v
  let n := i / 4
  let s := { s with msixTab := s.msixTab.set none i (if v = msixRst i then none else some v) }
  if bitN s.msixPba n && !s.msixMasked n then { s with msixPba := s.msixPba - 2 ^ n }.msixSend n else s

/-- A host write of one word of BAR2 (R536, R545). [Marks: DEDUCED (log entry 71)] -/
def State.bar2Write (s : State) (off : Nat) (v : Word) : State :=
  if off < 0x8000 then
    (if s.mbx.busy then s.inc64 (HOSTIF_CNT 4)
     else { s with mbx := { s.mbx with cmd := s.mbx.cmd.setRange 0 off (toLE 4 v.toNat) } })
  else if off = 0xC000 then (if bitN v.toNat 0 then s.mbxGo else s)
  else if off = 0xC008 then (if bitN v.toNat 0 then s.mbxAck else s)
  else if 0xE000 ≤ off ∧ off < 0xE200 then s.msixWrite ((off - 0xE000) / 4) v
  else s

/-! The core's windows (R99, R368, R408, R466, R555, R579) -/

/-- A register of the core control window at offset x, as any view shows it; FRM_NEXT shows zero (R210, R314, R368, R553). -/
def Core.ctlShow (c : Core) (x : Nat) : Word :=
  if x = 0x210 then c.frmArrived
  else if 0x300 ≤ x ∧ x < 0x340 then (c.btbKey.get 0 ((x - 0x300) / 4)).zeroExtend 32
  else if 0x340 ≤ x ∧ x < 0x360 then c.krgn.get 0 ((x - 0x340) / 4)
  else if x = 0x360 then c.keeperLimit
  else if x = 0x380 then
    BitVec.ofNat 32 ((Sys2Proof.range 0 8).foldl (fun n b => n + c.owner b * 4 ^ b + b2n (c.bankBusy b) * 2 ^ (16 + b)) 0)
  else 0

/-- A core's own read of one word of its control window (R99). -/
def State.ctlRead (s : State) (g x : Nat) : Word × State :=
  if x = 0x200 then ((s.frmNext g).2, (s.frmNext g).1)
  else if x = 0x204 ∨ x = 0x208 ∨ x = 0x20C then (nth 0 (s.core g).nextCap ((x - 0x204) / 4), s)
  else ((s.core g).ctlShow x, s)

/-- A core's own write of one word of its control window; FRM_DONE is held and committed as R11 has it. -/
def State.ctlWrite (s : State) (g x : Nat) (v : Word) : State :=
  if x = 0x218 then s.frmProgress g v
  else if x = 0x224 then { s with hold := s.hold.set none g (some (0x9000220, v)) }
  else if x = 0x220 then
    let h := match s.hold.get none g with
      | some (o, w) => if o = 0x9000220 then w else 0
      | none => 0
    { s with hold := s.hold.set none g none }.frmDone g v h
  else if x = 0x384 then s.setCore g ((s.core g).dbankReq false v)
  else if x = 0x388 then (if bitN v.toNat 0 then s.rotReady g else s)
  else s

/-- A core's read of one word in a register window. [Marks: DEDUCED (log entry 71)] -/
def State.winRead (s : State) (g ea : Nat) : Word × State :=
  match windowOff g ea with
  | some off => s.regRead (corePrin g) off
  | none => s.ctlRead g (ea - 0x9000000)

/-- A core's write of one word in a register window. [Marks: DEDUCED (log entry 71)] -/
def State.winWrite (s : State) (g ea : Nat) (v : Word) : State :=
  match windowOff g ea with
  | some off => s.regWrite (corePrin g) off v
  | none => s.ctlWrite g (ea - 0x9000000) v

/-- A 64-bit register of BAR0 stands at an offset. [Marks: DEDUCED (log entry 69)] -/
def is64 (off : Nat) : Bool :=
  match famOf off with
  | some (f, _, hi) => f.w64 && !hi
  | none => false

/-- A core's 8-byte read: one access to a 64-bit register, else two words in ascending order (R11, R579).
[Marks: DEDUCED (log entry 69)] -/
def State.winRead8 (s : State) (g ea : Nat) : DWord × State :=
  let pair (a b : Word) : DWord := b ++ a
  match windowOff g ea with
  | some off =>
    if is64 off then (pair (s.show off) (s.show (off + 4)), s)
    else
      let x := s.winRead g ea
      let y := x.2.winRead g (ea + 4)
      (pair x.1 y.1, y.2)
  | none =>
    let x := s.winRead g ea
    let y := x.2.winRead g (ea + 4)
    (pair x.1 y.1, y.2)

/-- A core's 8-byte write. [Marks: DEDUCED (log entry 69)] -/
def State.winWrite8 (s : State) (g ea : Nat) (v : DWord) : State :=
  let lo : Word := v.truncate 32
  let hi : Word := (v >>> 32).truncate 32
  let two (s : State) : State := (s.winWrite g ea lo).winWrite g (ea + 4) hi
  match windowOff g ea with
  | some off =>
    (match famOf off with
    | some (f, is, h) => if f.w64 && !h then s.regEffect (corePrin g) f is off lo (some hi) else two s
    | none => two s)
  | none => if ea = 0x9000220 then s.frmDone g lo hi else two s

/-! The vault window (R408) -/

/-- One 64-bit word of the vault window, as the core that it is bound to reads it. -/
def State.vaultWord (s : State) (g ea : Nat) : TD × State :=
  if ea = 0xC000000 then s.trngWord false
  else if ea = 0xC000008 then s.trngWord true
  else
    match s.vault.boundTo g with
    | none => (td0, s)
    | some (n, h) =>
      if ea = 0xC000200 then (⟨BitVec.ofNat 64 n, .clean⟩, s)
      else if 0xC000100 ≤ ea ∧ ea < 0xC000120 then
        (⟨BitVec.ofNat 64 (fieldAt ((s.identSeed).getD []) (ea - 0xC000100) 8), .onlyK⟩, s)
      else if 0xC000120 ≤ ea ∧ ea < 0xC000140 then (⟨s.draw.1, .onlyK⟩, s.draw.2)
      else (h.buf.word (ea - 0xC004000), s)

/-- A store to the KE buffer of the bound handle. -/
def State.vaultStore (s : State) (g ea size : Nat) (lo hi : TD) : State :=
  match s.vault.boundTo g with
  | some (n, h) =>
    if 0xC004000 ≤ ea then
      { s with vault := { s.vault with
          handles := s.vault.handles.set none n (some { h with buf := h.buf.farStore (ea - 0xC004000) size lo hi }) } }
    else s
  | none => s

/-! Far accesses (R161, R224, R260, R297, R343) -/

/-- The bytes of a 64-bit word from a byte position. -/
def cutWord (w : TD) (lo : Nat) : TD := ⟨w.v >>> (8 * lo), w.t⟩

/-- What a far load outside CMEM returns. -/
def State.farRead (s : State) (g : Nat) (f : Far) : (TD × TD) × State :=
  let ea := f.addr.toNat
  match region ea with
  | .imem => ((⟨BitVec.ofNat 64 (leNat ((s.core g).imem.getRange 0 ea (min f.size 8))), .clean⟩,
      ⟨BitVec.ofNat 64 (leNat ((s.core g).imem.getRange 0 (ea + 8) 8)), .clean⟩), s)
  | .vault =>
    let x := s.vaultWord g (ea / 8 * 8)
    if f.size = 16 then
      let y := x.2.vaultWord g (ea / 8 * 8 + 8)
      ((x.1, y.1), y.2)
    else ((cutWord x.1 (ea % 8), td0), x.2)
  | _ =>
    if f.size = 16 then
      let x := s.winRead8 g ea
      let y := x.2.winRead8 g (ea + 8)
      ((⟨x.1, .clean⟩, ⟨y.1, .clean⟩), y.2)
    else if f.size = 8 then
      let x := s.winRead8 g ea
      ((⟨x.1, .clean⟩, td0), x.2)
    else
      let x := s.winRead g ea
      ((⟨x.1.zeroExtend 64, .clean⟩, td0), x.2)

/-- What a far store outside CMEM does. -/
def State.farWrite (s : State) (g : Nat) (f : Far) : State :=
  let ea := f.addr.toNat
  if region ea = .vault then s.vaultStore g ea f.size f.lo f.hi
  else if f.size = 16 then (s.winWrite8 g ea f.lo.v).winWrite8 g (ea + 8) f.hi.v
  else if f.size = 8 then s.winWrite8 g ea f.lo.v
  else s.winWrite g ea (f.lo.v.truncate 32)

/-- The banks that a far store to DBANK_REQ names, while their handovers run: the store is performed when they have ended
(R348). -/
def Far.banks (f : Far) : List Nat :=
  let ea := f.addr.toNat
  let v := if ea = 0x9000384 then some f.lo.v.toNat
    else if ea = 0x9000380 ∧ 8 ≤ f.size then some (f.lo.v.toNat / 2 ^ 32)
    else none
  match v with
  | some v => if f.wr then (Sys2Proof.range 0 8).filter (fun b => bitN v (16 + b)) else []
  | none => []

/-- Loaded data enters its destination (R161, R171, R224). [Marks: DESIGN CHOICE (log entry 20)] -/
def Core.deliver (c : Core) (f : Far) (lo hi : TD) : Core :=
  match f.dst with
  | .none => c
  | .g n form => c.wrG n ⟨ldExtend form lo.v.toNat, lo.t⟩
  | .dq n long => if long then (c.wrLo n lo).wrHi n hi else c.wrDen n 0xFF lo
  | .lane n pos long => c.putLane n pos f.size long lo.v.toNat lo.t

/-- The oldest far access leaves; a running VLDS or VSTS, a waiting entry and a sequence that is to end go on (R224, R304,
R358). [Marks: DESIGN CHOICE (log entry 20)] -/
def State.farDone (s : State) (g : Nat) (f : Far) : State :=
  let c := s.core g
  let c := { c with far := c.far.drop 1 }
  let c := if f.elem then { c with vrun := c.vrun.map (fun r => { r with last := max r.last s.now }) } else c
  let s := s.setCore g (c.tryFinish.farIdle s.now)
  let l := (s.core g).lock
  if l.ending && !(s.core g).far.any (fun f => f.locked) then s.lockWrite g 2 else s

/-- An error that the corrector found in a memory word that a far access of a core read or merged with (R260, R343).
[Marks: DESIGN CHOICE (log entry 20)] -/
def State.farErr (s : State) (g : Nat) (f : Far) (ue : Bool) : State :=
  let s := if region f.addr.toNat = .imem then s.coreMemErr g 0 ue f.addr
    else s.cmemErr (g / 8) ue (f.addr.toNat - 0x1000000)
  if ue then
    let c := (s.core g).wrCr0 44 f.addr
    s.setCore g { c with imp13 := some (2, f.addr) }
  else s

/-- A far access to a memory completes with data, or as a store: `ecc` is what the corrector found.
[Marks: DESIGN CHOICE (log entry 20)] -/
def State.memDone (s : State) (g : Nat) (f : Far) (lo hi : TD) (ecc : Ecc) : State :=
  let merged := f.wr && decide (f.size < 8)
  if f.wr && !merged then s.farDone g f
  else match ecc with
    | .ok => (s.setCore g ((s.core g).deliver f lo hi)).farDone g f
    | .ce => ((s.setCore g ((s.core g).deliver f lo hi)).farErr g f false).farDone g f
    | .ue =>
      let d := s.draw
      let d' := d.2.draw
      let s := d'.2
      let s := if merged then
          let y := s.clu (g / 8)
          s.setClu (g / 8) { y with cmem := y.cmem.spoil (f.addr.toNat - 0x1000000) f.size d.1 }
        else s.setCore g ((s.core g).deliver f ⟨d.1, .both⟩ ⟨d'.1, .both⟩)
      (s.farErr g f true).farDone g f

/-- The block behind a register window of a core answers. [Marks: DESIGN CHOICE (log entry 20)] -/
def State.answers (s : State) (g ea : Nat) : Bool :=
  match windowOff g ea with
  | some off => s.blockOn off
  | none => true

/-- The oldest far access of a core completes (R161, R350, R351). A beat of CMEM that is not granted yet, and a store to
DBANK_REQ whose handovers still run, leave the core as it is. [Marks: DESIGN CHOICE (log entry 20)] -/
def execFarAccessComplete (g : CoreId) (ecc : Ecc) (s : State) : Host.Outcome State Fault Refusal :=
  match (s.core g).far with
  | [] => .next s
  | f :: _ =>
    match region f.addr.toNat with
    | .cmem =>
      (match f.granted with
      | none => .next s
      | some k =>
        let s := (s.upTo (2 * k + (if f.wr then 2 else 8))).performBeats (g.val / 8)
        match (s.core g).far with
        | [] => .next s
        | f :: _ => .next (s.memDone g f f.lo f.hi ecc))
    | .imem =>
      let s := s.upTo (f.at_ + 4)
      let x := s.farRead g f
      .next (x.2.memDone g f x.1.1 x.1.2 ecc)
    | _ =>
      if !s.answers g f.addr.toNat then .next s
      else if f.wr then
        let s := if f.perf then s else s.farWrite g f
        let c := s.core g
        if f.banks.any c.bankBusy then .next (s.setCore g { c with far := { f with perf := true } :: c.far.drop 1 })
        else .next (s.farDone g f)
      else
        let x := s.farRead g f
        .next ((x.2.setCore g ((x.2.core g).deliver f x.1.1 x.1.2)).farDone g f)

/-- A register window has not answered within 8,000 CCLK: a load commits 0, a store is discarded (R297, R453).
[Marks: DESIGN CHOICE (log entry 20)] -/
def execFarAccessTimeout (g : CoreId) (s : State) : Host.Outcome State Fault Refusal :=
  match (s.core g).far with
  | [] => .next s
  | f :: _ =>
    if region f.addr.toNat = .cmem ∨ region f.addr.toNat = .imem then .next s
    else
      let s := s.upTo (f.at_ + 8000)
      let c := (s.core g).deliver f td0 td0
      let s := s.setCore g { c.wrCr0 44 f.addr with imp15 := some f.addr }
      let s := s.record (some (g.val / 8)) 14 0 1 g f.addr 0
      .next (s.farDone g f)

/-! A register write by a principal -/

/-- A write to a register that has no command of its own; BAR2 is the host's (R15, R531, R536). -/
def execRegisterWrite (who : Prin) (bar2 : Bool) (off : BitVec 24) (v : Word) (s : State) :
    Host.Outcome State Fault Refusal :=
  .next (if bar2 then (if who = .host then s.bar2Write off.toNat v else s)
    else s.busWrite who off.toNat v)

end Sys2Proof.Machine
end

