-- ==== Sys2Proof/Machine/Cipher.lean ====
section
/-! DEFINITION. The key-slot and cipher operations as commands (R235 to R252). -/

namespace Sys2Proof.Machine

/-- KLOAD: the load is under way (R239). -/
def execKload (g : CoreId) (sl : Slot) (ks : R4) (gs : R6) (s : State) : Host.Outcome State Fault Refusal := s.issueOne g sl (.kload ks gs)

/-- KZERO (R240). -/
def execKzero (g : CoreId) (sl : Slot) (ks : R4) (s : State) : Host.Outcome State Fault Refusal := s.issueOne g sl (.kzero ks)

/-- KEXPORT: the export is under way (R241). -/
def execKexport (g : CoreId) (sl : Slot) (qa : R5) (gh : R6) (s : State) : Host.Outcome State Fault Refusal := s.issueOne g sl (.kexport qa gh)

/-- VCTR, INIT form (R244). -/
def execVctrInit (g : CoreId) (sl : Slot) (va : R5) (ks : R4) (src : Bool) (fsel : R3) (s : State) : Host.Outcome State Fault Refusal := s.issueOne g sl (.vctrInit va ks src fsel)

/-- VCTR, DATA form (R245). -/
def execVctrData (g : CoreId) (sl : Slot) (vd va vm : R5) (ks : R4) (s : State) : Host.Outcome State Fault Refusal := s.issueOne g sl (.vctrData vd va vm ks)

/-- VECB (R246). -/
def execVecb (g : CoreId) (sl : Slot) (vd va : R5) (ks : R4) (s : State) : Host.Outcome State Fault Refusal := s.issueOne g sl (.vecb vd va ks)

/-- VGHASH (R247). -/
def execVghash (g : CoreId) (sl : Slot) (va : R5) (ks : R4) (s : State) : Host.Outcome State Fault Refusal := s.issueOne g sl (.vghash va ks)

/-- VTAG (R248). -/
def execVtag (g : CoreId) (sl : Slot) (vd va : R5) (ks : R4) (s : State) : Host.Outcome State Fault Refusal := s.issueOne g sl (.vtag vd va ks)

/-- VTAGCHK (R249). -/
def execVtagchk (g : CoreId) (sl : Slot) (pd : R3) (va vb : R5) (ks : R4) (s : State) : Host.Outcome State Fault Refusal := s.issueOne g sl (.vtagchk pd va vb ks)

end Sys2Proof.Machine
end

