-- ==== Sys2Proof/Machine/Control.lean ====
section
/-! DEFINITION. Branches, loops, calls, returns and sleep as commands (R187 to R206, R293 to R295, R475). -/

namespace Sys2Proof.Machine

/-- BR (R187). -/
def execBr (g : CoreId) (sl : Slot) (disp : BitVec 18) (s : State) : Host.Outcome State Fault Refusal := s.issueOne g sl (.br disp)

/-- CALL (R187). -/
def execCall (g : CoreId) (sl : Slot) (disp : BitVec 18) (s : State) : Host.Outcome State Fault Refusal := s.issueOne g sl (.call disp)

/-- BZ (R187, R190, R193). -/
def execBz (g : CoreId) (sl : Slot) (annul hint : Bool) (src : R6) (disp : BitVec 12) (s : State) : Host.Outcome State Fault Refusal := s.issueOne g sl (.bc .bz annul hint src disp)

/-- BNZ (R187, R190, R193). -/
def execBnz (g : CoreId) (sl : Slot) (annul hint : Bool) (src : R6) (disp : BitVec 12) (s : State) : Host.Outcome State Fault Refusal := s.issueOne g sl (.bc .bnz annul hint src disp)

/-- BLTZ (R187, R190, R193). -/
def execBltz (g : CoreId) (sl : Slot) (annul hint : Bool) (src : R6) (disp : BitVec 12) (s : State) : Host.Outcome State Fault Refusal := s.issueOne g sl (.bc .bltz annul hint src disp)

/-- BGEZ (R187, R190, R193). -/
def execBgez (g : CoreId) (sl : Slot) (annul hint : Bool) (src : R6) (disp : BitVec 12) (s : State) : Host.Outcome State Fault Refusal := s.issueOne g sl (.bc .bgez annul hint src disp)

/-- BPA (R187, R190, R193). -/
def execBpa (g : CoreId) (sl : Slot) (annul hint : Bool) (src : R6) (disp : BitVec 12) (s : State) : Host.Outcome State Fault Refusal := s.issueOne g sl (.bc .bpa annul hint src disp)

/-- BPN (R187, R190, R193). -/
def execBpn (g : CoreId) (sl : Slot) (annul hint : Bool) (src : R6) (disp : BitVec 12) (s : State) : Host.Outcome State Fault Refusal := s.issueOne g sl (.bc .bpn annul hint src disp)

/-- JR (R187). -/
def execJr (g : CoreId) (sl : Slot) (src link : R6) (s : State) : Host.Outcome State Fault Refusal := s.issueOne g sl (.jr src link)

/-- LOOP (R201, R202). -/
def execLoop (g : CoreId) (sl : Slot) (lv : BitVec 2) (src : R6) (disp : BitVec 12) (s : State) : Host.Outcome State Fault Refusal := s.issueOne g sl (.loop lv src disp)

/-- LOOPI (R201, R202). -/
def execLoopi (g : CoreId) (sl : Slot) (lv : BitVec 2) (cnt : BitVec 6) (disp : BitVec 12) (s : State) : Host.Outcome State Fault Refusal := s.issueOne g sl (.loopi lv cnt disp)

/-- LCLR (R201). -/
def execLclr (g : CoreId) (sl : Slot) (mask : BitVec 3) (s : State) : Host.Outcome State Fault Refusal := s.issueOne g sl (.lclr mask)

/-- PFLUSH (R199). -/
def execPflush (g : CoreId) (sl : Slot) (s : State) : Host.Outcome State Fault Refusal := s.issueOne g sl (.pflush)

/-- PBAR (R199). -/
def execPbar (g : CoreId) (sl : Slot) (on : Bool) (s : State) : Host.Outcome State Fault Refusal := s.issueOne g sl (.pbar on)

/-- SYSCALL: the entry is made at the next boundary (R293). [Marks: DEDUCED (log entry 10)] -/
def execSyscall (g : CoreId) (sl : Slot) (code : BitVec 16) (s : State) : Host.Outcome State Fault Refusal := s.issueOne g sl (.syscall code)

/-- KCALL: the entry is made at the next boundary (R294). [Marks: DEDUCED (log entry 10)] -/
def execKcall (g : CoreId) (sl : Slot) (region : BitVec 2) (gate : R6) (s : State) : Host.Outcome State Fault Refusal := s.issueOne g sl (.kcall region gate)

/-- RETX (R305, R306). -/
def execRetx (g : CoreId) (sl : Slot) (s : State) : Host.Outcome State Fault Refusal := s.issueOne g sl (.retx)

/-- SLEEP (R475 to R477). [Marks: DEDUCED (log entry 19)] -/
def execSleep (g : CoreId) (sl : Slot) (depth : BitVec 2) (s : State) : Host.Outcome State Fault Refusal := s.issueOne g sl (.sleep depth)

end Sys2Proof.Machine
end

