-- ==== Sys2Proof/Machine/HostIf.lean ====
section
/-! DEFINITION. The host and board-management interfaces: the memory aperture, refused and unavailable accesses, the PCIe
function, MSI-X holdoff and the SMBus target (R278, R426, R529 to R553). -/

namespace Sys2Proof.Machine

/-! The memory aperture (R550 to R553) -/

/-- The target of an aperture access: memory and unit. -/
structure Win where
  target : Nat
  unit : Nat
  deriving DecidableEq, Repr

/-- MEMWIN.EN, and UNIT in range for TARGET (R550, R552). -/
def winOf (w : Word) : Option Win :=
  let t := w.fld ⟨27, 26⟩
  let u := w.fld ⟨14, 8⟩
  if w.fld ⟨31, 31⟩ = 1 ∧ u < (if t = 0 then 12 else 96) then some ⟨t, u⟩ else none

/-- The size of an aperture target (R551). -/
def Win.size (w : Win) : Nat := if w.target = 0 then 0x400000 else if w.target = 3 then 0x1000 else 0x20000

/-- The principal may make the access (R395, R426, R552). [Marks: DEDUCED (log entry 72)] -/
def State.apertureRight (s : State) (who : Prin) (w : Win) (wr : Bool) : Bool :=
  match who with
  | .host => decide (w.target ≤ 1) && s.prin PRIN_CTL_HOST_MEM
  | .warden => !(w.target == 2 && !wr) && !(w.target == 2 && s.rotState w.unit != 3)
  | .lens => s.lcState != 2 && !(w.target == 2 && wr && s.lcState == 1)
  | _ => false

/-- The conditions of R552 for an access at offset x. [Marks: DEDUCED (log entry 72)] -/
def State.apertureOk (s : State) (who : Prin) (w : Win) (x : Nat) (wr : Bool) : Bool :=
  s.domain (if w.target = 0 then 96 + w.unit else w.unit) == 2 && s.apertureRight who w wr
    && (w.target != 1 || decide (w.size ≤ x) || (s.core w.unit).owner (x / 0x4000) != 0)

/-- The memories of a core that logic BIST has destroyed and the loader has not written again: what they hold is open
(R438). [Marks: DEDUCED (log entry 72)] -/
def State.scrambled (s : State) (w : Win) : Bool :=
  (w.target == 1 || w.target == 2)
    && (s.rotState w.unit == 2 || (s.rotState w.unit == 3 && !(s.rotOf w.unit).starting && !(s.rotOf w.unit).first))

/-- The tint of the storage units that n bytes from offset x reach. -/
def State.apertureTint (s : State) (w : Win) (x n : Nat) : Tint :=
  if w.target = 0 then (s.clu w.unit).cmem.tintOf x n
  else if w.target = 1 then (s.core w.unit).dmem.tintOf x n
  else .clean

/-- One word of a target. -/
def State.apertureWord (s : State) (w : Win) (x : Nat) : Word :=
  if w.target = 0 then BitVec.ofNat 32 ((s.clu w.unit).cmem.val x 4)
  else if w.target = 1 then BitVec.ofNat 32 ((s.core w.unit).dmem.val x 4)
  else if w.target = 2 then BitVec.ofNat 32 (leNat ((s.core w.unit).imem.getRange 0 x 4))
  else (s.core w.unit).ctlShow x

/-- A read that reached a tinted unit: zero, counted and logged (R278, R284, R286, R287). -/
def State.readZeroed (s : State) (who : Prin) (off : Nat) (t : Tint) : State :=
  let lens := who == .lens
  let s := s.inc64 (TINT_CNT (if lens then 4 else 3))
  let s := s.evtSet TINT_EVT TINT_EVT_EN 35 (if lens then TINT_EVT_LENS_READ else TINT_EVT_HOST_READ)
  (s.wr64 TINT_LOG_ADDR off).wr TINT_LOG_INFO (BitVec.ofNat 32 (2 ^ 31 + b2n lens * 2 ^ 8 + b2n t.k * 2 + b2n t.r))

/-- What a word read returned leaves the block. [Marks: DESIGN CHOICE (log entry 73)] -/
def State.give (s : State) (who : Prin) (off : Nat) (v : Word) : State := s.emit (.word who off v)

/-- A permitted aperture read of n words from offset x. [Marks: DEDUCED (log entry 72)] -/
def State.apertureRead (s : State) (who : Prin) (w : Win) (x : Nat) : Nat → State
  | 0 => s
  | n + 1 =>
    let s :=
      if w.size ≤ x then s.give who (0xC00000 + x) 0
      else if w.target = 3 ∧ who ≠ .warden ∧ wdnWindow (0x9000000 + x) then
        (s.accRefused who (0xC00000 + x) false 3).give who (0xC00000 + x) 0
      else if s.scrambled w then s.draw.2.give who (0xC00000 + x) (s.draw.1.truncate 32)
      else s.give who (0xC00000 + x) (s.apertureWord w x)
    State.apertureRead s who w (x + 4) n

/-- A write of one word of a core's control window through the aperture (R16, R17, R348, R553).
[Marks: DEDUCED (log entry 72)] -/
def State.ctlAperture (s : State) (who : Prin) (g x : Nat) (v : Word) : State :=
  let c := s.core g
  if x = 0x384 then s.setCore g (c.dbankReq (who == .warden) v)
  else if !wdnWindow (0x9000000 + x) then s
  else if who ≠ .warden then s.accRefused who (0xC00000 + x) true 3
  else if x < 0x340 then s.setCore g (c.btbKeyWrite ((x - 0x300) / 4) v)
  else if x < 0x360 then s.setCore g (c.krgnWrite ((x - 0x340) / 16) ((x - 0x340) / 4 % 4) v)
  else s.setCore g { c with keeperLimit := v }

/-- A permitted aperture write of `n` bytes: a whole 64-bit word becomes untinted, a part keeps its tint (R263, R267).
[Marks: DEDUCED (log entry 72)] -/
def State.apertureWrite (s : State) (who : Prin) (w : Win) (x n : Nat) (v : BitVec 64) : State :=
  if w.size ≤ x then s
  else
    let bs := toLE n v.toNat
    if w.target = 0 then
      let y := s.clu w.unit
      s.setClu w.unit { y with cmem := y.cmem.store x bs .clean }
    else if w.target = 1 then
      let c := s.core w.unit
      s.setCore w.unit { c with dmem := c.dmem.store x bs .clean }
    else if w.target = 2 then
      let c := s.core w.unit
      s.setCore w.unit { c with imem := c.imem.setRange 0 x bs }
    else
      let s := s.ctlAperture who w.unit x (v.truncate 32)
      if n = 8 then s.ctlAperture who w.unit (x + 4) ((v >>> 32).truncate 32) else s

/-- The shapes of access that BAR0 accepts (R531). [Marks: DEDUCED (log entry 72)] -/
def shapeOk (off size : Nat) (wr : Bool) : Bool :=
  if wr then (size == 4 && off % 4 == 0) || (size == 8 && off % 8 == 0)
  else off % 4 == 0 && size % 4 == 0 && decide (4 ≤ size ∧ off % 64 + size ≤ 64)

/-- The words of a read that is not performed read zero. [Marks: DESIGN CHOICE (log entry 73)] -/
def State.giveZero (s : State) (who : Prin) (off : Nat) : Nat → State
  | 0 => s
  | n + 1 => State.giveZero (s.give who off 0) who (off + 4) n

/-- An access through a principal's aperture (R550 to R553). The CMEM beats of the cluster's cores that are over come
first. [Marks: DEDUCED (log entry 72)] -/
def State.aperture (s : State) (who : Prin) (x size : Nat) (wr : Option (BitVec 64)) : State :=
  match who with
  | .core _ => s.accRefused who (0xC00000 + x) wr.isSome 1
  | .smbus => s.accRefused who (0xC00000 + x) wr.isSome 1
  | _ =>
    if !shapeOk x size wr.isSome then s.accRefused who (0xC00000 + x) wr.isSome 5
    else
      match winOf (s.memwinOf who) with
      | none => (s.accUnavail who).giveZero who (0xC00000 + x) (if wr.isSome then 0 else size / 4)
      | some w =>
        if who = .lens ∧ (s.lcState = 2 ∨ (w.target = 2 ∧ wr.isSome ∧ s.lcState = 1)) then
          (s.accUnavail who).lensRefused.giveZero who (0xC00000 + x) (if wr.isSome then 0 else size / 4)
        else if !s.apertureOk who w x wr.isSome then
          (s.accUnavail who).giveZero who (0xC00000 + x) (if wr.isSome then 0 else size / 4)
        else
          let s := if w.target = 0 then s.performBeats w.unit else s
          match wr with
          | some v => s.apertureWrite who w x size v
          | none =>
            let t := s.apertureTint w x size
            if who ≠ .warden ∧ t ≠ .clean ∧ x < w.size then
              (s.readZeroed who (0xC00000 + x) t).giveZero who (0xC00000 + x) (size / 4)
            else s.apertureRead who w x (size / 4)

/-- A principal's access through its aperture (R552). [Marks: DEDUCED (log entry 72)] -/
def execApertureAccess (who : Prin) (x : BitVec 22) (size : Nat) (wr : Option (BitVec 64)) (s : State) :
    Host.Outcome State Fault Refusal :=
  .next (s.aperture who x.toNat size wr)

/-- A principal writes its MEMWIN (R550). [Marks: DEDUCED (log entry 72)] -/
def execMemwinWrite (who : Prin) (v : Word) (s : State) : Host.Outcome State Fault Refusal := .next (s.memwinWrite who v)

/-! SMBus (R541, R542) -/

/-- FAULT_N, ALIVE, zeroisation and holdover as code 0x02 shows them. -/
def State.smbStatus (s : State) : Nat :=
  b2n s.faultN + b2n s.alive * 2 + b2n (s.flag ZEROISE_STAT ZEROISE_STAT_RUNNING) * 4
    + b2n (s.flag CLK_STAT CLK_STAT_HOLDOVER) * 8

/-- The highest of the sensors' samples. -/
def State.thermMax (s : State) : Word :=
  let v (k : Nat) : BitVec 16 := (s.rd (THERM k)).truncate 16
  let m := (Sys2Proof.range 1 23).foldl (fun (m : BitVec 16) k => if m.toInt < (v k).toInt then v k else m) (v 0)
  m.zeroExtend 32

/-- LINK_UP of every port: red ports in bits 15:0, black ports in bits 31:16. -/
def State.linkMask (s : State) : Nat :=
  (Sys2Proof.range 0 32).foldl (fun n i => n + b2n (s.linkUp (i / 16) (i % 16)) * 2 ^ i) 0

/-- The value of a command code; none for a code that is not listed. -/
def State.smbValue (s : State) (code : Nat) : Option Word :=
  if code = 0 then some idcode
  else if code = 1 then
    some (BitVec.ofNat 32 (s.lcState + b2n (s.flag LC_STAT LC_STAT_RECOVERY) * 8 + b2n (s.flag LC_STAT LC_STAT_ROOT_LOST) * 16))
  else if code = 2 then some (BitVec.ofNat 32 s.smbStatus)
  else if code = 3 then some (s.rd FAULT_STAT &&& 0x1F)
  else if code = 0x10 then some s.thermMax
  else if 0x11 ≤ code ∧ code ≤ 0x28 then some (s.rd (THERM (code - 0x11)) &&& 0xFFFF)
  else if code = 0x30 then some (s.rd MON_EVT &&& 0x7FF)
  else if code = 0x40 then some (BitVec.ofNat 32 s.linkMask)
  else if code = 0x41 then some (BitVec.ofNat 32 (s.rpState 0 + s.rpState 1 * 256))
  else if code = 0x50 then some (s.show DERRQ_STAT)
  else none

/-- A read of a command code: its value leaves the block; an unlisted code is not acknowledged and is counted. -/
def State.smbRead (s : State) (code : Nat) : State :=
  match s.smbValue code with
  | some v => s.give .smbus code v
  | none => s.accRefused .smbus code false 5

/-- Code 0x00 (R542). -/
def execSmbIdcode (s : State) : Host.Outcome State Fault Refusal := .next (s.smbRead 0)
/-- Code 0x01. -/
def execSmbLcState (s : State) : Host.Outcome State Fault Refusal := .next (s.smbRead 1)
/-- Code 0x02. -/
def execSmbStatus (s : State) : Host.Outcome State Fault Refusal := .next (s.smbRead 2)
/-- Code 0x03. -/
def execSmbFaultStat (s : State) : Host.Outcome State Fault Refusal := .next (s.smbRead 3)
/-- Code 0x10. -/
def execSmbThermMax (s : State) : Host.Outcome State Fault Refusal := .next (s.smbRead 0x10)
/-- Codes 0x11 to 0x28; a sensor that is not there names an unlisted code. [Marks: DEDUCED (log entry 74)] -/
def execSmbTherm (k : R5) (s : State) : Host.Outcome State Fault Refusal := .next (s.smbRead (0x11 + k.toNat))
/-- Code 0x30. -/
def execSmbMonEvt (s : State) : Host.Outcome State Fault Refusal := .next (s.smbRead 0x30)
/-- Code 0x40. -/
def execSmbLinkUp (s : State) : Host.Outcome State Fault Refusal := .next (s.smbRead 0x40)
/-- Code 0x41. -/
def execSmbRingState (s : State) : Host.Outcome State Fault Refusal := .next (s.smbRead 0x41)
/-- Code 0x50. -/
def execSmbDerrqStat (s : State) : Host.Outcome State Fault Refusal := .next (s.smbRead 0x50)

/-- Code 0xF0: DATA, VALID, and device-level source 62, whether or not VALID was set (R542, R544). -/
def State.smbNotify (s : State) (v : Word) : State :=
  (s.wr SMB_NOTIFYR (0x80000000 ||| (v &&& 0xFF))).raiseDev 62

/-- A write of code 0xF0. -/
def execSmbNotify (v : Word) (s : State) : Host.Outcome State Fault Refusal := .next (s.smbNotify v)

/-- The target releases the bus: nothing of the block's state changes (R541). -/
def execSmbBusTimeout (s : State) : Host.Outcome State Fault Refusal := .next s

/-! Accesses whose outcome the access rules decide -/

/-- An SMBus transfer of a command code: a write other than 0xF0 names no listed write; a write of 0xF0 here comes without a
valid PEC (R541, R542). [Marks: DEDUCED (log entry 74)] -/
def State.smbAccess (s : State) (code : Nat) (wr : Option Word) : State :=
  match wr with
  | none => s.smbRead code
  | some v =>
    if code ≠ 0xF0 then s.accRefused .smbus code true 5
    else if s.flag SMB_CFG SMB_CFG_PEC_REQ then s.accRefused .smbus code true 6
    else s.smbNotify v

/-- An access of one word to BAR0 by any principal, with whatever the rules make of it: performed, refused, unavailable, or
read as zero. A core's access comes from its code. [Marks: DEDUCED (log entry 74)] -/
def State.access (s : State) (who : Prin) (off : Nat) (wr : Option Word) : State :=
  match who with
  | .smbus => s.smbAccess (off % 256) wr
  | .core g =>
    if !(s.core g).run then s
    else if 0xC00000 ≤ off ∨ off = 0x10 ∨ (s.core g).pl = 0 then s.accRefused who off wr.isSome 1
    else (match wr with
      | some v => s.busWrite who off v
      | none => (s.busRead who off).2)
  | _ =>
    if 0xC00000 ≤ off then s.aperture who (off - 0xC00000) 4 (wr.map (fun v => v.zeroExtend 64))
    else (match wr with
      | some v => s.busWrite who off v
      | none =>
        if off % 4 ≠ 0 then (s.accRefused who off false 5).give who off 0
        else (s.busRead who off).2.give who off (s.busRead who off).1)

/-- An access that the access table may refuse (R396, R533). [Marks: DEDUCED (log entry 74)] -/
def execAccessRefused (who : Prin) (off : BitVec 24) (wr : Option Word) (s : State) : Host.Outcome State Fault Refusal :=
  .next (s.access who off.toNat wr)

/-- A read that may reach a tinted unit (R278). [Marks: DEDUCED (log entry 74)] -/
def execReadZeroed (who : Prin) (off : BitVec 24) (wr : Option Word) (s : State) : Host.Outcome State Fault Refusal :=
  .next (s.access who off.toNat wr)

/-- An access to a block that may be off (R532). [Marks: DEDUCED (log entry 74)] -/
def execAccessUnavail (who : Prin) (off : BitVec 24) (wr : Option Word) (s : State) : Host.Outcome State Fault Refusal :=
  .next (s.access who off.toNat wr)

/-! The PCIe function (R534, R535) -/

/-- PERST_N, a hot reset or a Function Level Reset: the MSI-X state, HOST_VEC_v, the host's MEMWIN, captures and hold, and
the mailbox transport; GEN is kept, and a command in progress ends as a late one (R11, R534, R548, R550). -/
def State.functionReset (s : State) : State :=
  let s := s.dropCaptures (prinKey .host)
  let s := (Sys2Proof.range 0 31).foldl (fun (s : State) i => s.wr (HOST_VEC i) (rstWord (HOST_VEC i))) s
  { s with
    memwin := s.memwin.set 0 (prinKey .host) 0
    msixTab := []
    msixPba := 0
    msixHold := []
    mbx := { s.mbx with busy := false, rspValid := false, timeout := false } }

/-- A reset of the PCIe function. -/
def execPcieFunctionReset (s : State) : Host.Outcome State Fault Refusal := .next s.functionReset

/-- HOLDOFF after a message of vector v has passed: the rises merged in it send one message, which starts the next holdoff
(R535). [Marks: DEDUCED (log entry 75)] -/
def execMsixHoldoffEnd (v : BitVec 5) (s : State) : Host.Outcome State Fault Refusal :=
  let n := v.toNat
  let h := s.msixHold.get (0, false) n
  if h.1 = 0 then .next s
  else
    let s := s.upTo (h.1 - 1)
    let w := s.rd (HOST_VEC (n - 1))
    if h.2 ∧ w.fld HOST_VEC_EN = 1 then
      let off := holdoffCclk w
      let s := s.msixSend n
      .next { s with msixHold := s.msixHold.set (0, false) n (if off = 0 then (0, false) else (s.now + off + 1, false)) }
    else .next { s with msixHold := s.msixHold.set (0, false) n (0, false) }

end Sys2Proof.Machine
end

