-- ==== Sys2Proof/Machine/LoadStore.lean ====
section
/-! DEFINITION. Loads, stores and address operations as commands (R166 to R175, R223). -/

namespace Sys2Proof.Machine

/-- LDB (R171, R172). -/
def execLdb (g : CoreId) (sl : Slot) (rd : R6) (m : MemOp) (s : State) : Host.Outcome State Fault Refusal := s.issueOne g sl (.ld .b rd m)

/-- LDBU (R171, R172). -/
def execLdbu (g : CoreId) (sl : Slot) (rd : R6) (m : MemOp) (s : State) : Host.Outcome State Fault Refusal := s.issueOne g sl (.ld .bu rd m)

/-- LDH (R171, R172). -/
def execLdh (g : CoreId) (sl : Slot) (rd : R6) (m : MemOp) (s : State) : Host.Outcome State Fault Refusal := s.issueOne g sl (.ld .h rd m)

/-- LDHU (R171, R172). -/
def execLdhu (g : CoreId) (sl : Slot) (rd : R6) (m : MemOp) (s : State) : Host.Outcome State Fault Refusal := s.issueOne g sl (.ld .hu rd m)

/-- LDW (R171, R172). -/
def execLdw (g : CoreId) (sl : Slot) (rd : R6) (m : MemOp) (s : State) : Host.Outcome State Fault Refusal := s.issueOne g sl (.ld .w rd m)

/-- LDD (R171, R172). -/
def execLdd (g : CoreId) (sl : Slot) (rd : R6) (m : MemOp) (s : State) : Host.Outcome State Fault Refusal := s.issueOne g sl (.ld .d rd m)

/-- LDQ (R171, R172). -/
def execLdq (g : CoreId) (sl : Slot) (rd : R6) (m : MemOp) (s : State) : Host.Outcome State Fault Refusal := s.issueOne g sl (.ld .q rd m)

/-- STB (R171, R172). -/
def execStb (g : CoreId) (sl : Slot) (rd : R6) (m : MemOp) (s : State) : Host.Outcome State Fault Refusal := s.issueOne g sl (.st .b rd m)

/-- STH (R171, R172). -/
def execSth (g : CoreId) (sl : Slot) (rd : R6) (m : MemOp) (s : State) : Host.Outcome State Fault Refusal := s.issueOne g sl (.st .h rd m)

/-- STW (R171, R172). -/
def execStw (g : CoreId) (sl : Slot) (rd : R6) (m : MemOp) (s : State) : Host.Outcome State Fault Refusal := s.issueOne g sl (.st .w rd m)

/-- STD (R171, R172). -/
def execStd (g : CoreId) (sl : Slot) (rd : R6) (m : MemOp) (s : State) : Host.Outcome State Fault Refusal := s.issueOne g sl (.st .d rd m)

/-- STQ (R171, R172). -/
def execStq (g : CoreId) (sl : Slot) (rd : R6) (m : MemOp) (s : State) : Host.Outcome State Fault Refusal := s.issueOne g sl (.st .q rd m)

/-- LEA (R173). -/
def execLea (g : CoreId) (sl : Slot) (rd ab : R4) (off : Word) (s : State) : Host.Outcome State Fault Refusal := s.issueOne g sl (.lea rd ab off)

/-- AMOD (R173, R174). -/
def execAmod (g : CoreId) (sl : Slot) (m : MemOp) (s : State) : Host.Outcome State Fault Refusal := s.issueOne g sl (.amod m)

/-- MOVTA (R173). -/
def execMovta (g : CoreId) (sl : Slot) (d a : R6) (s : State) : Host.Outcome State Fault Refusal := s.issueOne g sl (.movta d a)

/-- MOVFA (R173). -/
def execMovfa (g : CoreId) (sl : Slot) (d a : R6) (s : State) : Host.Outcome State Fault Refusal := s.issueOne g sl (.movfa d a)

/-- VLDS: the bundle issues and its first element is accessed (R223). -/
def execVlds (g : CoreId) (sl : Slot) (o : VM) (s : State) : Host.Outcome State Fault Refusal := s.issueOne g sl (.vlds o)

/-- VSTS: the bundle issues and its first element is accessed (R223). -/
def execVsts (g : CoreId) (sl : Slot) (o : VM) (s : State) : Host.Outcome State Fault Refusal := s.issueOne g sl (.vsts o)

end Sys2Proof.Machine
end

