-- ==== Sys2Proof/Machine/Multiply.lean ====
section
/-! DEFINITION. The multiply-accumulate operations as commands (R176 to R182). -/

namespace Sys2Proof.Machine

/-- MUL (R178). -/
def execMul (g : CoreId) (sl : Slot) (d a b : R6) (s : State) : Host.Outcome State Fault Refusal := s.issueOne g sl (.mul d a b)

/-- MAC (R179, R180). -/
def execMac (g : CoreId) (sl : Slot) (acc : R3) (a b : R6) (md : R3) (s : State) : Host.Outcome State Fault Refusal := s.issueOne g sl (.mac .mac acc a b md)

/-- MSU (R179, R180). -/
def execMsu (g : CoreId) (sl : Slot) (acc : R3) (a b : R6) (md : R3) (s : State) : Host.Outcome State Fault Refusal := s.issueOne g sl (.mac .msu acc a b md)

/-- MACM (R179, R180). -/
def execMacm (g : CoreId) (sl : Slot) (acc : R3) (a b : R6) (md : R3) (s : State) : Host.Outcome State Fault Refusal := s.issueOne g sl (.mac .macm acc a b md)

/-- MFA (R181). -/
def execMfa (g : CoreId) (sl : Slot) (d : R6) (acc : R3) (rnd sat : Bool) (sh : BitVec 8) (s : State) : Host.Outcome State Fault Refusal := s.issueOne g sl (.mfa d acc rnd sat sh)

/-- MTA (R178). -/
def execMta (g : CoreId) (sl : Slot) (acc : R3) (a : R6) (field : BitVec 2) (s : State) : Host.Outcome State Fault Refusal := s.issueOne g sl (.mta acc a field)

/-- ACCADD (R178). -/
def execAccadd (g : CoreId) (sl : Slot) (acc src : R3) (neg : Bool) (s : State) : Host.Outcome State Fault Refusal := s.issueOne g sl (.accadd acc src neg)

/-- MULW16 (R178). -/
def execMulw16 (g : CoreId) (sl : Slot) (uns : Bool) (d a b : R6) (s : State) : Host.Outcome State Fault Refusal := s.issueOne g sl (.mulw16 uns d a b)

/-- MULW32 (R178). -/
def execMulw32 (g : CoreId) (sl : Slot) (uns : Bool) (d a b : R6) (s : State) : Host.Outcome State Fault Refusal := s.issueOne g sl (.mulw32 uns d a b)

/-- MACW (R178). -/
def execMacw (g : CoreId) (sl : Slot) (uns : Bool) (acc : R3) (a b : R6) (s : State) : Host.Outcome State Fault Refusal := s.issueOne g sl (.macw uns acc a b)

/-- DOT4B (R178). -/
def execDot4b (g : CoreId) (sl : Slot) (ua ub : Bool) (d a b : R6) (s : State) : Host.Outcome State Fault Refusal := s.issueOne g sl (.dot4b ua ub d a b)

/-- DOT4H (R178). -/
def execDot4h (g : CoreId) (sl : Slot) (uns : Bool) (acc : R3) (a b : R6) (s : State) : Host.Outcome State Fault Refusal := s.issueOne g sl (.dot4h uns acc a b)

/-- MMAD (R182). -/
def execMmad (g : CoreId) (sl : Slot) (mont noadd : Bool) (d a b : R6) (s : State) : Host.Outcome State Fault Refusal := s.issueOne g sl (.mmad mont noadd d a b)

end Sys2Proof.Machine
end

