-- ==== Sys2Proof/Machine/Scalar.lean ====
section
/-! DEFINITION. The scalar operations as commands: each is a bundle that holds the operation alone (R169 to R173, R183, R270). -/

namespace Sys2Proof.Machine

/-- NOP of a slot class: it issues and does nothing (R143). -/
def execNop (g : CoreId) (sl : Slot) (s : State) : Host.Outcome State Fault Refusal := s.issueOne g sl .nop

/-- ADD (R169). -/
def execAdd (g : CoreId) (sl : Slot) (d a b : R6) (s : State) : Host.Outcome State Fault Refusal := s.issueOne g sl (.alu .add d a b)

/-- SUB (R169). -/
def execSub (g : CoreId) (sl : Slot) (d a b : R6) (s : State) : Host.Outcome State Fault Refusal := s.issueOne g sl (.alu .sub d a b)

/-- AND (R169). -/
def execAnd (g : CoreId) (sl : Slot) (d a b : R6) (s : State) : Host.Outcome State Fault Refusal := s.issueOne g sl (.alu .and d a b)

/-- OR (R169). -/
def execOr (g : CoreId) (sl : Slot) (d a b : R6) (s : State) : Host.Outcome State Fault Refusal := s.issueOne g sl (.alu .or d a b)

/-- XOR (R169). -/
def execXor (g : CoreId) (sl : Slot) (d a b : R6) (s : State) : Host.Outcome State Fault Refusal := s.issueOne g sl (.alu .xor d a b)

/-- ANDN (R169). -/
def execAndn (g : CoreId) (sl : Slot) (d a b : R6) (s : State) : Host.Outcome State Fault Refusal := s.issueOne g sl (.alu .andn d a b)

/-- SHL (R169). -/
def execShl (g : CoreId) (sl : Slot) (d a b : R6) (s : State) : Host.Outcome State Fault Refusal := s.issueOne g sl (.alu .shl d a b)

/-- SHR (R169). -/
def execShr (g : CoreId) (sl : Slot) (d a b : R6) (s : State) : Host.Outcome State Fault Refusal := s.issueOne g sl (.alu .shr d a b)

/-- SRA (R169). -/
def execSra (g : CoreId) (sl : Slot) (d a b : R6) (s : State) : Host.Outcome State Fault Refusal := s.issueOne g sl (.alu .sra d a b)

/-- ROTR (R169). -/
def execRotr (g : CoreId) (sl : Slot) (d a b : R6) (s : State) : Host.Outcome State Fault Refusal := s.issueOne g sl (.alu .rotr d a b)

/-- MIN (R169). -/
def execMin (g : CoreId) (sl : Slot) (d a b : R6) (s : State) : Host.Outcome State Fault Refusal := s.issueOne g sl (.alu .min d a b)

/-- MAX (R169). -/
def execMax (g : CoreId) (sl : Slot) (d a b : R6) (s : State) : Host.Outcome State Fault Refusal := s.issueOne g sl (.alu .max d a b)

/-- MINU (R169). -/
def execMinu (g : CoreId) (sl : Slot) (d a b : R6) (s : State) : Host.Outcome State Fault Refusal := s.issueOne g sl (.alu .minu d a b)

/-- MAXU (R169). -/
def execMaxu (g : CoreId) (sl : Slot) (d a b : R6) (s : State) : Host.Outcome State Fault Refusal := s.issueOne g sl (.alu .maxu d a b)

/-- SEL (R169). -/
def execSel (g : CoreId) (sl : Slot) (d a b : R6) (s : State) : Host.Outcome State Fault Refusal := s.issueOne g sl (.sel d a b)

/-- CMPEQ (R169). -/
def execCmpeq (g : CoreId) (sl : Slot) (toP : Bool) (d a b : R6) (s : State) : Host.Outcome State Fault Refusal := s.issueOne g sl (.cmp .eq toP d a b)

/-- CMPNE (R169). -/
def execCmpne (g : CoreId) (sl : Slot) (toP : Bool) (d a b : R6) (s : State) : Host.Outcome State Fault Refusal := s.issueOne g sl (.cmp .ne toP d a b)

/-- CMPLT (R169). -/
def execCmplt (g : CoreId) (sl : Slot) (toP : Bool) (d a b : R6) (s : State) : Host.Outcome State Fault Refusal := s.issueOne g sl (.cmp .lt toP d a b)

/-- CMPLTU (R169). -/
def execCmpltu (g : CoreId) (sl : Slot) (toP : Bool) (d a b : R6) (s : State) : Host.Outcome State Fault Refusal := s.issueOne g sl (.cmp .ltu toP d a b)

/-- CMPLE (R169). -/
def execCmple (g : CoreId) (sl : Slot) (toP : Bool) (d a b : R6) (s : State) : Host.Outcome State Fault Refusal := s.issueOne g sl (.cmp .le toP d a b)

/-- CMPLEU (R169). -/
def execCmpleu (g : CoreId) (sl : Slot) (toP : Bool) (d a b : R6) (s : State) : Host.Outcome State Fault Refusal := s.issueOne g sl (.cmp .leu toP d a b)

/-- EXT (R169). -/
def execExt (g : CoreId) (sl : Slot) (m : BitVec 2) (d a : R6) (s : State) : Host.Outcome State Fault Refusal := s.issueOne g sl (.ext m d a)

/-- CLZ (R169). -/
def execClz (g : CoreId) (sl : Slot) (d a : R6) (s : State) : Host.Outcome State Fault Refusal := s.issueOne g sl (.clz d a)

/-- POPC (R169). -/
def execPopc (g : CoreId) (sl : Slot) (d a : R6) (s : State) : Host.Outcome State Fault Refusal := s.issueOne g sl (.popc d a)

/-- ADDI (R169). -/
def execAddi (g : CoreId) (sl : Slot) (d a : R6) (imm : Word) (s : State) : Host.Outcome State Fault Refusal := s.issueOne g sl (.alui .add d a imm)

/-- ANDI (R169). -/
def execAndi (g : CoreId) (sl : Slot) (d a : R6) (imm : Word) (s : State) : Host.Outcome State Fault Refusal := s.issueOne g sl (.alui .and d a imm)

/-- ORI (R169). -/
def execOri (g : CoreId) (sl : Slot) (d a : R6) (imm : Word) (s : State) : Host.Outcome State Fault Refusal := s.issueOne g sl (.alui .or d a imm)

/-- XORI (R169). -/
def execXori (g : CoreId) (sl : Slot) (d a : R6) (imm : Word) (s : State) : Host.Outcome State Fault Refusal := s.issueOne g sl (.alui .xor d a imm)

/-- CMPEQI (R169). -/
def execCmpeqi (g : CoreId) (sl : Slot) (d a : R6) (imm : Word) (s : State) : Host.Outcome State Fault Refusal := s.issueOne g sl (.alui .cmpeq d a imm)

/-- CMPLTI (R169). -/
def execCmplti (g : CoreId) (sl : Slot) (d a : R6) (imm : Word) (s : State) : Host.Outcome State Fault Refusal := s.issueOne g sl (.alui .cmplt d a imm)

/-- CMPLTUI (R169). -/
def execCmpltui (g : CoreId) (sl : Slot) (d a : R6) (imm : Word) (s : State) : Host.Outcome State Fault Refusal := s.issueOne g sl (.alui .cmpltu d a imm)

/-- SHLI (R169). -/
def execShli (g : CoreId) (sl : Slot) (d a : R6) (sh : BitVec 5) (s : State) : Host.Outcome State Fault Refusal := s.issueOne g sl (.shi .shl d a sh)

/-- SHRI (R169). -/
def execShri (g : CoreId) (sl : Slot) (d a : R6) (sh : BitVec 5) (s : State) : Host.Outcome State Fault Refusal := s.issueOne g sl (.shi .shr d a sh)

/-- SRAI (R169). -/
def execSrai (g : CoreId) (sl : Slot) (d a : R6) (sh : BitVec 5) (s : State) : Host.Outcome State Fault Refusal := s.issueOne g sl (.shi .sra d a sh)

/-- MFC (R152). -/
def execMfc (g : CoreId) (sl : Slot) (d c : R6) (s : State) : Host.Outcome State Fault Refusal := s.issueOne g sl (.mfc d c)

/-- MTC (R152). -/
def execMtc (g : CoreId) (sl : Slot) (c a : R6) (s : State) : Host.Outcome State Fault Refusal := s.issueOne g sl (.mtc c a)

/-- DIV (R170, R183). -/
def execDiv (g : CoreId) (sl : Slot) (d a b : R6) (s : State) : Host.Outcome State Fault Refusal := s.issueOne g sl (.div .div d a b)

/-- DIVU (R170, R183). -/
def execDivu (g : CoreId) (sl : Slot) (d a b : R6) (s : State) : Host.Outcome State Fault Refusal := s.issueOne g sl (.div .divu d a b)

/-- REM (R170, R183). -/
def execRem (g : CoreId) (sl : Slot) (d a b : R6) (s : State) : Host.Outcome State Fault Refusal := s.issueOne g sl (.div .rem d a b)

/-- REMU (R170, R183). -/
def execRemu (g : CoreId) (sl : Slot) (d a b : R6) (s : State) : Host.Outcome State Fault Refusal := s.issueOne g sl (.div .remu d a b)

/-- DECLASS (R270, R271). -/
def execDeclass (g : CoreId) (sl : Slot) (d a : R6) (s : State) : Host.Outcome State Fault Refusal := s.issueOne g sl (.declass d a)

/-- RCLR (R270, R271). -/
def execRclr (g : CoreId) (sl : Slot) (d a : R6) (s : State) : Host.Outcome State Fault Refusal := s.issueOne g sl (.rclr d a)

end Sys2Proof.Machine
end

