-- ==== Sys2Proof/Machine/Vector.lean ====
section
/-! DEFINITION. The vector operations as commands (R211 to R222, R270). -/

namespace Sys2Proof.Machine

/-- VADD (R213, R218 to R222). -/
def execVadd (g : CoreId) (sl : Slot) (o : VR) (s : State) : Host.Outcome State Fault Refusal := s.issueOne g sl (.vop .add o)

/-- VSUB (R213, R218 to R222). -/
def execVsub (g : CoreId) (sl : Slot) (o : VR) (s : State) : Host.Outcome State Fault Refusal := s.issueOne g sl (.vop .sub o)

/-- VAND (R213, R218 to R222). -/
def execVand (g : CoreId) (sl : Slot) (o : VR) (s : State) : Host.Outcome State Fault Refusal := s.issueOne g sl (.vop .and o)

/-- VOR (R213, R218 to R222). -/
def execVor (g : CoreId) (sl : Slot) (o : VR) (s : State) : Host.Outcome State Fault Refusal := s.issueOne g sl (.vop .or o)

/-- VXOR (R213, R218 to R222). -/
def execVxor (g : CoreId) (sl : Slot) (o : VR) (s : State) : Host.Outcome State Fault Refusal := s.issueOne g sl (.vop .xor o)

/-- VANDN (R213, R218 to R222). -/
def execVandn (g : CoreId) (sl : Slot) (o : VR) (s : State) : Host.Outcome State Fault Refusal := s.issueOne g sl (.vop .andn o)

/-- VMIN (R213, R218 to R222). -/
def execVmin (g : CoreId) (sl : Slot) (o : VR) (s : State) : Host.Outcome State Fault Refusal := s.issueOne g sl (.vop .min o)

/-- VMAX (R213, R218 to R222). -/
def execVmax (g : CoreId) (sl : Slot) (o : VR) (s : State) : Host.Outcome State Fault Refusal := s.issueOne g sl (.vop .max o)

/-- VMINU (R213, R218 to R222). -/
def execVminu (g : CoreId) (sl : Slot) (o : VR) (s : State) : Host.Outcome State Fault Refusal := s.issueOne g sl (.vop .minu o)

/-- VMAXU (R213, R218 to R222). -/
def execVmaxu (g : CoreId) (sl : Slot) (o : VR) (s : State) : Host.Outcome State Fault Refusal := s.issueOne g sl (.vop .maxu o)

/-- VSHL (R213, R218 to R222). -/
def execVshl (g : CoreId) (sl : Slot) (o : VR) (s : State) : Host.Outcome State Fault Refusal := s.issueOne g sl (.vop .shl o)

/-- VSHR (R213, R218 to R222). -/
def execVshr (g : CoreId) (sl : Slot) (o : VR) (s : State) : Host.Outcome State Fault Refusal := s.issueOne g sl (.vop .shr o)

/-- VSRA (R213, R218 to R222). -/
def execVsra (g : CoreId) (sl : Slot) (o : VR) (s : State) : Host.Outcome State Fault Refusal := s.issueOne g sl (.vop .sra o)

/-- VROTR (R213, R218 to R222). -/
def execVrotr (g : CoreId) (sl : Slot) (o : VR) (s : State) : Host.Outcome State Fault Refusal := s.issueOne g sl (.vop .rotr o)

/-- VSEL (R213, R218 to R222). -/
def execVsel (g : CoreId) (sl : Slot) (o : VR) (s : State) : Host.Outcome State Fault Refusal := s.issueOne g sl (.vop .sel o)

/-- VMOV (R213, R218 to R222). -/
def execVmov (g : CoreId) (sl : Slot) (o : VR) (s : State) : Host.Outcome State Fault Refusal := s.issueOne g sl (.vop .mov o)

/-- VCMPEQ (R213, R218 to R222). -/
def execVcmpeq (g : CoreId) (sl : Slot) (o : VR) (s : State) : Host.Outcome State Fault Refusal := s.issueOne g sl (.vop .cmpeq o)

/-- VCMPLT (R213, R218 to R222). -/
def execVcmplt (g : CoreId) (sl : Slot) (o : VR) (s : State) : Host.Outcome State Fault Refusal := s.issueOne g sl (.vop .cmplt o)

/-- VCMPLTU (R213, R218 to R222). -/
def execVcmpltu (g : CoreId) (sl : Slot) (o : VR) (s : State) : Host.Outcome State Fault Refusal := s.issueOne g sl (.vop .cmpltu o)

/-- VCMPLE (R213, R218 to R222). -/
def execVcmple (g : CoreId) (sl : Slot) (o : VR) (s : State) : Host.Outcome State Fault Refusal := s.issueOne g sl (.vop .cmple o)

/-- VCMPLEU (R213, R218 to R222). -/
def execVcmpleu (g : CoreId) (sl : Slot) (o : VR) (s : State) : Host.Outcome State Fault Refusal := s.issueOne g sl (.vop .cmpleu o)

/-- VMUL (R213, R218 to R222). -/
def execVmul (g : CoreId) (sl : Slot) (o : VR) (s : State) : Host.Outcome State Fault Refusal := s.issueOne g sl (.vop .mul o)

/-- VMULH (R213, R218 to R222). -/
def execVmulh (g : CoreId) (sl : Slot) (o : VR) (s : State) : Host.Outcome State Fault Refusal := s.issueOne g sl (.vop .mulh o)

/-- VMULHU (R213, R218 to R222). -/
def execVmulhu (g : CoreId) (sl : Slot) (o : VR) (s : State) : Host.Outcome State Fault Refusal := s.issueOne g sl (.vop .mulhu o)

/-- VMULW (R213, R218 to R222). -/
def execVmulw (g : CoreId) (sl : Slot) (o : VR) (s : State) : Host.Outcome State Fault Refusal := s.issueOne g sl (.vop .mulw o)

/-- VMULWU (R213, R218 to R222). -/
def execVmulwu (g : CoreId) (sl : Slot) (o : VR) (s : State) : Host.Outcome State Fault Refusal := s.issueOne g sl (.vop .mulwu o)

/-- VMACW (R213, R218 to R222). -/
def execVmacw (g : CoreId) (sl : Slot) (o : VR) (s : State) : Host.Outcome State Fault Refusal := s.issueOne g sl (.vop .macw o)

/-- VMACWU (R213, R218 to R222). -/
def execVmacwu (g : CoreId) (sl : Slot) (o : VR) (s : State) : Host.Outcome State Fault Refusal := s.issueOne g sl (.vop .macwu o)

/-- VDOT4B (R213, R218 to R222). -/
def execVdot4b (g : CoreId) (sl : Slot) (o : VR) (s : State) : Host.Outcome State Fault Refusal := s.issueOne g sl (.vop .dot4b o)

/-- VDOT4H (R213, R218 to R222). -/
def execVdot4h (g : CoreId) (sl : Slot) (o : VR) (s : State) : Host.Outcome State Fault Refusal := s.issueOne g sl (.vop .dot4h o)

/-- VMMAD (R213, R218 to R222). -/
def execVmmad (g : CoreId) (sl : Slot) (o : VR) (s : State) : Host.Outcome State Fault Refusal := s.issueOne g sl (.vop .mmad o)

/-- BFLY (R213, R218 to R222). -/
def execBfly (g : CoreId) (sl : Slot) (o : VR) (s : State) : Host.Outcome State Fault Refusal := s.issueOne g sl (.vop .bfly o)

/-- VSHUF (R213, R218 to R222). -/
def execVshuf (g : CoreId) (sl : Slot) (o : VR) (s : State) : Host.Outcome State Fault Refusal := s.issueOne g sl (.vop .shuf o)

/-- VZIPL (R213, R218 to R222). -/
def execVzipl (g : CoreId) (sl : Slot) (o : VR) (s : State) : Host.Outcome State Fault Refusal := s.issueOne g sl (.vop .zipl o)

/-- VZIPH (R213, R218 to R222). -/
def execVziph (g : CoreId) (sl : Slot) (o : VR) (s : State) : Host.Outcome State Fault Refusal := s.issueOne g sl (.vop .ziph o)

/-- VUZPE (R213, R218 to R222). -/
def execVuzpe (g : CoreId) (sl : Slot) (o : VR) (s : State) : Host.Outcome State Fault Refusal := s.issueOne g sl (.vop .uzpe o)

/-- VUZPO (R213, R218 to R222). -/
def execVuzpo (g : CoreId) (sl : Slot) (o : VR) (s : State) : Host.Outcome State Fault Refusal := s.issueOne g sl (.vop .uzpo o)

/-- VEXT (R213, R218 to R222). -/
def execVext (g : CoreId) (sl : Slot) (o : VR) (s : State) : Host.Outcome State Fault Refusal := s.issueOne g sl (.vop .ext o)

/-- VCLMUL (R213, R218 to R222). -/
def execVclmul (g : CoreId) (sl : Slot) (o : VR) (s : State) : Host.Outcome State Fault Refusal := s.issueOne g sl (.vop .clmul o)

/-- VSHLI (R219). -/
def execVshli (g : CoreId) (sl : Slot) (o : VS) (s : State) : Host.Outcome State Fault Refusal := s.issueOne g sl (.vshi .shl o)

/-- VSHRI (R219). -/
def execVshri (g : CoreId) (sl : Slot) (o : VS) (s : State) : Host.Outcome State Fault Refusal := s.issueOne g sl (.vshi .shr o)

/-- VSRAI (R219). -/
def execVsrai (g : CoreId) (sl : Slot) (o : VS) (s : State) : Host.Outcome State Fault Refusal := s.issueOne g sl (.vshi .sra o)

/-- VROTRI (R219). -/
def execVrotri (g : CoreId) (sl : Slot) (o : VS) (s : State) : Host.Outcome State Fault Refusal := s.issueOne g sl (.vshi .rotr o)

/-- VDUPG (R219). -/
def execVdupg (g : CoreId) (sl : Slot) (o : VG) (s : State) : Host.Outcome State Fault Refusal := s.issueOne g sl (.vdupg o)

/-- VDECLASS (R270, R271). -/
def execVdeclass (g : CoreId) (sl : Slot) (vd va : R5) (long : Bool) (s : State) : Host.Outcome State Fault Refusal := s.issueOne g sl (.vdeclass vd va long)

/-- VRCLR (R270, R271). -/
def execVrclr (g : CoreId) (sl : Slot) (vd va : R5) (long : Bool) (s : State) : Host.Outcome State Fault Refusal := s.issueOne g sl (.vrclr vd va long)

end Sys2Proof.Machine
end

