-- ==== Sys2Proof/Machine/Dispatch.lean ====
section
/-! DEFINITION. The dispatch of every command of the table to its meaning, one arm each. -/

namespace Sys2Proof.Machine

/-- What a command does to everything but the queue. -/
def exec (i : Instr) (s : State) : Host.Outcome State Fault Refusal :=
  match i with
  | .bundleIssue g fetch data => Sys2Proof.Machine.execBundleIssue g fetch data s
  | .resultCommit g ecc => Sys2Proof.Machine.execResultCommit g ecc s
  | .farAccessComplete g ecc => Sys2Proof.Machine.execFarAccessComplete g ecc s
  | .farAccessTimeout g => Sys2Proof.Machine.execFarAccessTimeout g s
  | .interruptAccept g => Sys2Proof.Machine.execInterruptAccept g s
  | .keeperTimeLimit g => Sys2Proof.Machine.execKeeperTimeLimit g s
  | .lensHalt g => Sys2Proof.Machine.execLensHalt g s
  | .nop g sl => Sys2Proof.Machine.execNop g sl s
  | .add g sl d a b => Sys2Proof.Machine.execAdd g sl d a b s
  | .sub g sl d a b => Sys2Proof.Machine.execSub g sl d a b s
  | .and g sl d a b => Sys2Proof.Machine.execAnd g sl d a b s
  | .or g sl d a b => Sys2Proof.Machine.execOr g sl d a b s
  | .xor g sl d a b => Sys2Proof.Machine.execXor g sl d a b s
  | .andn g sl d a b => Sys2Proof.Machine.execAndn g sl d a b s
  | .shl g sl d a b => Sys2Proof.Machine.execShl g sl d a b s
  | .shr g sl d a b => Sys2Proof.Machine.execShr g sl d a b s
  | .sra g sl d a b => Sys2Proof.Machine.execSra g sl d a b s
  | .rotr g sl d a b => Sys2Proof.Machine.execRotr g sl d a b s
  | .min g sl d a b => Sys2Proof.Machine.execMin g sl d a b s
  | .max g sl d a b => Sys2Proof.Machine.execMax g sl d a b s
  | .minu g sl d a b => Sys2Proof.Machine.execMinu g sl d a b s
  | .maxu g sl d a b => Sys2Proof.Machine.execMaxu g sl d a b s
  | .sel g sl d a b => Sys2Proof.Machine.execSel g sl d a b s
  | .cmpeq g sl toP d a b => Sys2Proof.Machine.execCmpeq g sl toP d a b s
  | .cmpne g sl toP d a b => Sys2Proof.Machine.execCmpne g sl toP d a b s
  | .cmplt g sl toP d a b => Sys2Proof.Machine.execCmplt g sl toP d a b s
  | .cmpltu g sl toP d a b => Sys2Proof.Machine.execCmpltu g sl toP d a b s
  | .cmple g sl toP d a b => Sys2Proof.Machine.execCmple g sl toP d a b s
  | .cmpleu g sl toP d a b => Sys2Proof.Machine.execCmpleu g sl toP d a b s
  | .ext g sl m d a => Sys2Proof.Machine.execExt g sl m d a s
  | .clz g sl d a => Sys2Proof.Machine.execClz g sl d a s
  | .popc g sl d a => Sys2Proof.Machine.execPopc g sl d a s
  | .addi g sl d a imm => Sys2Proof.Machine.execAddi g sl d a imm s
  | .andi g sl d a imm => Sys2Proof.Machine.execAndi g sl d a imm s
  | .ori g sl d a imm => Sys2Proof.Machine.execOri g sl d a imm s
  | .xori g sl d a imm => Sys2Proof.Machine.execXori g sl d a imm s
  | .shli g sl d a sh => Sys2Proof.Machine.execShli g sl d a sh s
  | .shri g sl d a sh => Sys2Proof.Machine.execShri g sl d a sh s
  | .srai g sl d a sh => Sys2Proof.Machine.execSrai g sl d a sh s
  | .cmpeqi g sl d a imm => Sys2Proof.Machine.execCmpeqi g sl d a imm s
  | .cmplti g sl d a imm => Sys2Proof.Machine.execCmplti g sl d a imm s
  | .cmpltui g sl d a imm => Sys2Proof.Machine.execCmpltui g sl d a imm s
  | .mfc g sl d c => Sys2Proof.Machine.execMfc g sl d c s
  | .mtc g sl c a => Sys2Proof.Machine.execMtc g sl c a s
  | .div g sl d a b => Sys2Proof.Machine.execDiv g sl d a b s
  | .divu g sl d a b => Sys2Proof.Machine.execDivu g sl d a b s
  | .rem g sl d a b => Sys2Proof.Machine.execRem g sl d a b s
  | .remu g sl d a b => Sys2Proof.Machine.execRemu g sl d a b s
  | .br g sl disp => Sys2Proof.Machine.execBr g sl disp s
  | .bz g sl annul hint src disp => Sys2Proof.Machine.execBz g sl annul hint src disp s
  | .bnz g sl annul hint src disp => Sys2Proof.Machine.execBnz g sl annul hint src disp s
  | .bltz g sl annul hint src disp => Sys2Proof.Machine.execBltz g sl annul hint src disp s
  | .bgez g sl annul hint src disp => Sys2Proof.Machine.execBgez g sl annul hint src disp s
  | .bpa g sl annul hint src disp => Sys2Proof.Machine.execBpa g sl annul hint src disp s
  | .bpn g sl annul hint src disp => Sys2Proof.Machine.execBpn g sl annul hint src disp s
  | .call g sl disp => Sys2Proof.Machine.execCall g sl disp s
  | .jr g sl src link => Sys2Proof.Machine.execJr g sl src link s
  | .loop g sl lv src disp => Sys2Proof.Machine.execLoop g sl lv src disp s
  | .loopi g sl lv cnt disp => Sys2Proof.Machine.execLoopi g sl lv cnt disp s
  | .lclr g sl mask => Sys2Proof.Machine.execLclr g sl mask s
  | .pflush g sl => Sys2Proof.Machine.execPflush g sl s
  | .pbar g sl on => Sys2Proof.Machine.execPbar g sl on s
  | .syscall g sl code => Sys2Proof.Machine.execSyscall g sl code s
  | .kcall g sl region gate => Sys2Proof.Machine.execKcall g sl region gate s
  | .retx g sl => Sys2Proof.Machine.execRetx g sl s
  | .declass g sl d a => Sys2Proof.Machine.execDeclass g sl d a s
  | .rclr g sl d a => Sys2Proof.Machine.execRclr g sl d a s
  | .sleep g sl depth => Sys2Proof.Machine.execSleep g sl depth s
  | .coreWake g => Sys2Proof.Machine.execCoreWake g s
  | .sleepTimerExpire g => Sys2Proof.Machine.execSleepTimerExpire g s
  | .ldb g sl rd m => Sys2Proof.Machine.execLdb g sl rd m s
  | .ldbu g sl rd m => Sys2Proof.Machine.execLdbu g sl rd m s
  | .ldh g sl rd m => Sys2Proof.Machine.execLdh g sl rd m s
  | .ldhu g sl rd m => Sys2Proof.Machine.execLdhu g sl rd m s
  | .ldw g sl rd m => Sys2Proof.Machine.execLdw g sl rd m s
  | .ldd g sl rd m => Sys2Proof.Machine.execLdd g sl rd m s
  | .ldq g sl rd m => Sys2Proof.Machine.execLdq g sl rd m s
  | .stb g sl rd m => Sys2Proof.Machine.execStb g sl rd m s
  | .sth g sl rd m => Sys2Proof.Machine.execSth g sl rd m s
  | .stw g sl rd m => Sys2Proof.Machine.execStw g sl rd m s
  | .std g sl rd m => Sys2Proof.Machine.execStd g sl rd m s
  | .stq g sl rd m => Sys2Proof.Machine.execStq g sl rd m s
  | .lea g sl rd ab off => Sys2Proof.Machine.execLea g sl rd ab off s
  | .amod g sl m => Sys2Proof.Machine.execAmod g sl m s
  | .movta g sl d a => Sys2Proof.Machine.execMovta g sl d a s
  | .movfa g sl d a => Sys2Proof.Machine.execMovfa g sl d a s
  | .vlds g sl o => Sys2Proof.Machine.execVlds g sl o s
  | .vsts g sl o => Sys2Proof.Machine.execVsts g sl o s
  | .kload g sl ks gs => Sys2Proof.Machine.execKload g sl ks gs s
  | .kloadComplete g ecc => Sys2Proof.Machine.execKloadComplete g ecc s
  | .kzero g sl ks => Sys2Proof.Machine.execKzero g sl ks s
  | .kexport g sl qa gh => Sys2Proof.Machine.execKexport g sl qa gh s
  | .kexportComplete g => Sys2Proof.Machine.execKexportComplete g s
  | .mul g sl d a b => Sys2Proof.Machine.execMul g sl d a b s
  | .mac g sl acc a b md => Sys2Proof.Machine.execMac g sl acc a b md s
  | .msu g sl acc a b md => Sys2Proof.Machine.execMsu g sl acc a b md s
  | .macm g sl acc a b md => Sys2Proof.Machine.execMacm g sl acc a b md s
  | .mfa g sl d acc rnd sat sh => Sys2Proof.Machine.execMfa g sl d acc rnd sat sh s
  | .mta g sl acc a field => Sys2Proof.Machine.execMta g sl acc a field s
  | .accadd g sl acc src neg => Sys2Proof.Machine.execAccadd g sl acc src neg s
  | .mulw16 g sl uns d a b => Sys2Proof.Machine.execMulw16 g sl uns d a b s
  | .mulw32 g sl uns d a b => Sys2Proof.Machine.execMulw32 g sl uns d a b s
  | .macw g sl uns acc a b => Sys2Proof.Machine.execMacw g sl uns acc a b s
  | .dot4b g sl ua ub d a b => Sys2Proof.Machine.execDot4b g sl ua ub d a b s
  | .dot4h g sl uns acc a b => Sys2Proof.Machine.execDot4h g sl uns acc a b s
  | .mmad g sl mont noadd d a b => Sys2Proof.Machine.execMmad g sl mont noadd d a b s
  | .vadd g sl o => Sys2Proof.Machine.execVadd g sl o s
  | .vsub g sl o => Sys2Proof.Machine.execVsub g sl o s
  | .vand g sl o => Sys2Proof.Machine.execVand g sl o s
  | .vor g sl o => Sys2Proof.Machine.execVor g sl o s
  | .vxor g sl o => Sys2Proof.Machine.execVxor g sl o s
  | .vandn g sl o => Sys2Proof.Machine.execVandn g sl o s
  | .vmin g sl o => Sys2Proof.Machine.execVmin g sl o s
  | .vmax g sl o => Sys2Proof.Machine.execVmax g sl o s
  | .vminu g sl o => Sys2Proof.Machine.execVminu g sl o s
  | .vmaxu g sl o => Sys2Proof.Machine.execVmaxu g sl o s
  | .vshl g sl o => Sys2Proof.Machine.execVshl g sl o s
  | .vshr g sl o => Sys2Proof.Machine.execVshr g sl o s
  | .vsra g sl o => Sys2Proof.Machine.execVsra g sl o s
  | .vrotr g sl o => Sys2Proof.Machine.execVrotr g sl o s
  | .vsel g sl o => Sys2Proof.Machine.execVsel g sl o s
  | .vmov g sl o => Sys2Proof.Machine.execVmov g sl o s
  | .vcmpeq g sl o => Sys2Proof.Machine.execVcmpeq g sl o s
  | .vcmplt g sl o => Sys2Proof.Machine.execVcmplt g sl o s
  | .vcmpltu g sl o => Sys2Proof.Machine.execVcmpltu g sl o s
  | .vcmple g sl o => Sys2Proof.Machine.execVcmple g sl o s
  | .vcmpleu g sl o => Sys2Proof.Machine.execVcmpleu g sl o s
  | .vshli g sl o => Sys2Proof.Machine.execVshli g sl o s
  | .vshri g sl o => Sys2Proof.Machine.execVshri g sl o s
  | .vsrai g sl o => Sys2Proof.Machine.execVsrai g sl o s
  | .vrotri g sl o => Sys2Proof.Machine.execVrotri g sl o s
  | .vdupg g sl o => Sys2Proof.Machine.execVdupg g sl o s
  | .vmul g sl o => Sys2Proof.Machine.execVmul g sl o s
  | .vmulh g sl o => Sys2Proof.Machine.execVmulh g sl o s
  | .vmulhu g sl o => Sys2Proof.Machine.execVmulhu g sl o s
  | .vmulw g sl o => Sys2Proof.Machine.execVmulw g sl o s
  | .vmulwu g sl o => Sys2Proof.Machine.execVmulwu g sl o s
  | .vmacw g sl o => Sys2Proof.Machine.execVmacw g sl o s
  | .vmacwu g sl o => Sys2Proof.Machine.execVmacwu g sl o s
  | .vdot4b g sl o => Sys2Proof.Machine.execVdot4b g sl o s
  | .vdot4h g sl o => Sys2Proof.Machine.execVdot4h g sl o s
  | .vmmad g sl o => Sys2Proof.Machine.execVmmad g sl o s
  | .bfly g sl o => Sys2Proof.Machine.execBfly g sl o s
  | .vshuf g sl o => Sys2Proof.Machine.execVshuf g sl o s
  | .vzipl g sl o => Sys2Proof.Machine.execVzipl g sl o s
  | .vziph g sl o => Sys2Proof.Machine.execVziph g sl o s
  | .vuzpe g sl o => Sys2Proof.Machine.execVuzpe g sl o s
  | .vuzpo g sl o => Sys2Proof.Machine.execVuzpo g sl o s
  | .vext g sl o => Sys2Proof.Machine.execVext g sl o s
  | .vclmul g sl o => Sys2Proof.Machine.execVclmul g sl o s
  | .vctrInit g sl va ks src fsel => Sys2Proof.Machine.execVctrInit g sl va ks src fsel s
  | .vctrData g sl vd va vm ks => Sys2Proof.Machine.execVctrData g sl vd va vm ks s
  | .vecb g sl vd va ks => Sys2Proof.Machine.execVecb g sl vd va ks s
  | .vghash g sl va ks => Sys2Proof.Machine.execVghash g sl va ks s
  | .vtag g sl vd va ks => Sys2Proof.Machine.execVtag g sl vd va ks s
  | .vtagchk g sl pd va vb ks => Sys2Proof.Machine.execVtagchk g sl pd va vb ks s
  | .vdeclass g sl vd va long => Sys2Proof.Machine.execVdeclass g sl vd va long s
  | .vrclr g sl vd va long => Sys2Proof.Machine.execVrclr g sl vd va long s
  | .frmNextPop g => Sys2Proof.Machine.execFrmNextPop g s
  | .frmProgress g v => Sys2Proof.Machine.execFrmProgress g v s
  | .frmDone g lo hi => Sys2Proof.Machine.execFrmDone g lo hi s
  | .dbankReq who g v => Sys2Proof.Machine.execDbankReq who g v s
  | .dbankHandoverDone g b => Sys2Proof.Machine.execDbankHandoverDone g b s
  | .rotRdy g v => Sys2Proof.Machine.execRotRdy g v s
  | .btbKeyWrite g x v => Sys2Proof.Machine.execBtbKeyWrite g x v s
  | .krgnWrite g slot n v => Sys2Proof.Machine.execKrgnWrite g slot n v s
  | .evcEoi g v => Sys2Proof.Machine.execEvcEoi g v s
  | .lockseqBegin g => Sys2Proof.Machine.execLockseqBegin g s
  | .lockseqEnd g => Sys2Proof.Machine.execLockseqEnd g s
  | .lockseqTimeout g => Sys2Proof.Machine.execLockseqTimeout g s
  | .portEnable sd p v => Sys2Proof.Machine.execPortEnable sd p v s
  | .portDisable sd p => Sys2Proof.Machine.execPortDisable sd p s
  | .portDrained sd p => Sys2Proof.Machine.execPortDrained sd p s
  | .linkUp sd p => Sys2Proof.Machine.execLinkUp sd p s
  | .linkDown sd p cause => Sys2Proof.Machine.execLinkDown sd p cause s
  | .rxCell sd p cell => Sys2Proof.Machine.execRxCell sd p cell s
  | .rxFrameEnd sd p tail bad => Sys2Proof.Machine.execRxFrameEnd sd p tail bad s
  | .egressTxFrame sd p ecc => Sys2Proof.Machine.execEgressTxFrame sd p ecc s
  | .laneFence sd l => Sys2Proof.Machine.execLaneFence sd l s
  | .laneCalFail sd l => Sys2Proof.Machine.execLaneCalFail sd l s
  | .unfence sd l => Sys2Proof.Machine.execUnfence sd l s
  | .quadFence sd q => Sys2Proof.Machine.execQuadFence sd q s
  | .quadFault sd q code => Sys2Proof.Machine.execQuadFault sd q code s
  | .lineLock sd => Sys2Proof.Machine.execLineLock sd s
  | .prismDecision sd p ecc => Sys2Proof.Machine.execPrismDecision sd p ecc s
  | .clinkCellRx c d err ecc => Sys2Proof.Machine.execClinkCellRx c d err ecc s
  | .clinkCellTimeout c d => Sys2Proof.Machine.execClinkCellTimeout c d s
  | .clinkCreditAudit c d => Sys2Proof.Machine.execClinkCreditAudit c d s
  | .clinkIdleInsert c d => Sys2Proof.Machine.execClinkIdleInsert c d s
  | .clinkFence c => Sys2Proof.Machine.execClinkFence c s
  | .clinkPoolWrite who c v => Sys2Proof.Machine.execClinkPoolWrite who c v s
  | .clinkTrained c => Sys2Proof.Machine.execClinkTrained c s
  | .clinkLock who => Sys2Proof.Machine.execClinkLock who s
  | .prismLock who sd => Sys2Proof.Machine.execPrismLock who sd s
  | .rsqLock who sd => Sys2Proof.Machine.execRsqLock who sd s
  | .dlvLock who => Sys2Proof.Machine.execDlvLock who s
  | .ledgerLock who => Sys2Proof.Machine.execLedgerLock who s
  | .reseqRelease sd p => Sys2Proof.Machine.execReseqRelease sd p s
  | .deadlineMiss sd p => Sys2Proof.Machine.execDeadlineMiss sd p s
  | .ledgerAudit => Sys2Proof.Machine.execLedgerAudit s
  | .costCommit who t => Sys2Proof.Machine.execCostCommit who t s
  | .costInval who t => Sys2Proof.Machine.execCostInval who t s
  | .saKeyWrite sa v => Sys2Proof.Machine.execSaKeyWrite sa v s
  | .saNextPnWrite sa k v => Sys2Proof.Machine.execSaNextPnWrite sa k v s
  | .saEvtPop => Sys2Proof.Machine.execSaEvtPop s
  | .puttyJob p b => Sys2Proof.Machine.execPuttyJob p b s
  | .slotStart p => Sys2Proof.Machine.execSlotStart p s
  | .tfcStreamStart p => Sys2Proof.Machine.execTfcStreamStart p s
  | .ztfCommit who p => Sys2Proof.Machine.execZtfCommit who p s
  | .evcSourceEvent src => Sys2Proof.Machine.execEvcSourceEvent src s
  | .srcCmdSet src => Sys2Proof.Machine.execSrcCmdSet src s
  | .srcCmdClr src => Sys2Proof.Machine.execSrcCmdClr src s
  | .coalesceTimeout src => Sys2Proof.Machine.execCoalesceTimeout src s
  | .srcCfgWrite who src v => Sys2Proof.Machine.execSrcCfgWrite who src v s
  | .pinFilterChange pin v => Sys2Proof.Machine.execPinFilterChange pin v s
  | .skimRegion c failRow ecc => Sys2Proof.Machine.execSkimRegion c failRow ecc s
  | .remapStart c bank => Sys2Proof.Machine.execRemapStart c bank s
  | .remapDone c => Sys2Proof.Machine.execRemapDone c s
  | .cmemBeatGrant c beats => Sys2Proof.Machine.execCmemBeatGrant c beats s
  | .quotaWindowEnd c => Sys2Proof.Machine.execQuotaWindowEnd c s
  | .arbPriWrite c r v => Sys2Proof.Machine.execArbPriWrite c r v s
  | .mrepApply c n v => Sys2Proof.Machine.execMrepApply c n v s
  | .dmaEnable who c ch => Sys2Proof.Machine.execDmaEnable who c ch s
  | .dmaTailWrite who c ch v => Sys2Proof.Machine.execDmaTailWrite who c ch v s
  | .dmaDescriptorStart c ch => Sys2Proof.Machine.execDmaDescriptorStart c ch s
  | .dmaBurst c ch ecc => Sys2Proof.Machine.execDmaBurst c ch ecc s
  | .dmaDescriptorFinish c ch => Sys2Proof.Machine.execDmaDescriptorFinish c ch s
  | .dmaAbort who c ch => Sys2Proof.Machine.execDmaAbort who c ch s
  | .mbxGo => Sys2Proof.Machine.execMbxGo s
  | .mbxAck => Sys2Proof.Machine.execMbxAck s
  | .mbxTimeout => Sys2Proof.Machine.execMbxTimeout s
  | .getInfo => Sys2Proof.Machine.execGetInfo s
  | .getRandom => Sys2Proof.Machine.execGetRandom s
  | .getChallenge => Sys2Proof.Machine.execGetChallenge s
  | .saCreate => Sys2Proof.Machine.execSaCreate s
  | .saDelete => Sys2Proof.Machine.execSaDelete s
  | .saUpdate => Sys2Proof.Machine.execSaUpdate s
  | .keyImport => Sys2Proof.Machine.execKeyImport s
  | .keyActivate => Sys2Proof.Machine.execKeyActivate s
  | .keyRetire => Sys2Proof.Machine.execKeyRetire s
  | .keyRetireComplete sa k => Sys2Proof.Machine.execKeyRetireComplete sa k s
  | .saStatus => Sys2Proof.Machine.execSaStatus s
  | .keInit => Sys2Proof.Machine.execKeInit s
  | .keRespond => Sys2Proof.Machine.execKeRespond s
  | .keFinish => Sys2Proof.Machine.execKeFinish s
  | .keAbort => Sys2Proof.Machine.execKeAbort s
  | .keHandleTimeout h => Sys2Proof.Machine.execKeHandleTimeout h s
  | .identGet => Sys2Proof.Machine.execIdentGet s
  | .costLoad => Sys2Proof.Machine.execCostLoad s
  | .imageStage => Sys2Proof.Machine.execImageStage s
  | .imageCommit => Sys2Proof.Machine.execImageCommit s
  | .svnCommit => Sys2Proof.Machine.execSvnCommit s
  | .prinSet => Sys2Proof.Machine.execPrinSet s
  | .peerTrust => Sys2Proof.Machine.execPeerTrust s
  | .saProtect => Sys2Proof.Machine.execSaProtect s
  | .ownerProvision => Sys2Proof.Machine.execOwnerProvision s
  | .lcAdvance => Sys2Proof.Machine.execLcAdvance s
  | .zeroise => Sys2Proof.Machine.execZeroise s
  | .zeroiseDone => Sys2Proof.Machine.execZeroiseDone s
  | .tamperBreach loop => Sys2Proof.Machine.execTamperBreach loop s
  | .vbatTamperBreach => Sys2Proof.Machine.execVbatTamperBreach s
  | .scanReq => Sys2Proof.Machine.execScanReq s
  | .trngHealthFail => Sys2Proof.Machine.execTrngHealthFail s
  | .trngRecover => Sys2Proof.Machine.execTrngRecover s
  | .drbgReseed => Sys2Proof.Machine.execDrbgReseed s
  | .trngPub g rd => Sys2Proof.Machine.execTrngPub g rd s
  | .trngSec g rd => Sys2Proof.Machine.execTrngSec g rd s
  | .wardenBoot => Sys2Proof.Machine.execWardenBoot s
  | .lockstepMismatch => Sys2Proof.Machine.execLockstepMismatch s
  | .wardenHotRestart => Sys2Proof.Machine.execWardenHotRestart s
  | .flashWriteTimeout => Sys2Proof.Machine.execFlashWriteTimeout s
  | .rotStep c => Sys2Proof.Machine.execRotStep c s
  | .stepNow c => Sys2Proof.Machine.execStepNow c s
  | .force c n => Sys2Proof.Machine.execForce c n s
  | .rotDrainDone g => Sys2Proof.Machine.execRotDrainDone g s
  | .rotDrainTimeout g => Sys2Proof.Machine.execRotDrainTimeout g s
  | .bistDone g logicOk memOk => Sys2Proof.Machine.execBistDone g logicOk memOk s
  | .release g => Sys2Proof.Machine.execRelease g s
  | .startupTimeout g => Sys2Proof.Machine.execStartupTimeout g s
  | .mirrorSwap g => Sys2Proof.Machine.execMirrorSwap g s
  | .mirrorDone => Sys2Proof.Machine.execMirrorDone s
  | .coreFence g => Sys2Proof.Machine.execCoreFence g s
  | .dustRelease v => Sys2Proof.Machine.execDustRelease v s
  | .dustReleaseDone ok => Sys2Proof.Machine.execDustReleaseDone ok s
  | .errqPop who c => Sys2Proof.Machine.execErrqPop who c s
  | .derrqPop who => Sys2Proof.Machine.execDerrqPop who s
  | .aliveKick => Sys2Proof.Machine.execAliveKick s
  | .aliveTimeout => Sys2Proof.Machine.execAliveTimeout s
  | .powerOff who v => Sys2Proof.Machine.execPowerOff who v s
  | .domainDrained => Sys2Proof.Machine.execDomainDrained s
  | .quiesceTimeout => Sys2Proof.Machine.execQuiesceTimeout s
  | .powerUp who v => Sys2Proof.Machine.execPowerUp who v s
  | .powerUpDone => Sys2Proof.Machine.execPowerUpDone s
  | .refclkFault refA => Sys2Proof.Machine.execRefclkFault refA s
  | .refFreqWindow ppmA ppmB => Sys2Proof.Machine.execRefFreqWindow ppmA ppmB s
  | .refSel who b => Sys2Proof.Machine.execRefSel who b s
  | .refSwitchDone => Sys2Proof.Machine.execRefSwitchDone s
  | .pllFault => Sys2Proof.Machine.execPllFault s
  | .pllSel who b => Sys2Proof.Machine.execPllSel who b s
  | .standbyRelock => Sys2Proof.Machine.execStandbyRelock s
  | .supplyDroop n => Sys2Proof.Machine.execSupplyDroop n s
  | .brownOut n => Sys2Proof.Machine.execBrownOut n s
  | .thermalSample samples => Sys2Proof.Machine.execThermalSample samples s
  | .powerOnReset => Sys2Proof.Machine.execPowerOnReset s
  | .warmReset => Sys2Proof.Machine.execWarmReset s
  | .warmReq => Sys2Proof.Machine.execWarmReq s
  | .tintRclrEnWrite v => Sys2Proof.Machine.execTintRclrEnWrite v s
  | .ringHello e east ringId node => Sys2Proof.Machine.execRingHello e east ringId node s
  | .helloSend e => Sys2Proof.Machine.execHelloSend e s
  | .ringHandshake e step parts => Sys2Proof.Machine.execRingHandshake e step parts s
  | .handshakeRetry e => Sys2Proof.Machine.execHandshakeRetry e s
  | .ringIdle e h => Sys2Proof.Machine.execRingIdle e h s
  | .ringFlitError e kind => Sys2Proof.Machine.execRingFlitError e kind s
  | .ringFlitTimeout e => Sys2Proof.Machine.execRingFlitTimeout e s
  | .ringCreditAudit e d0 d1 c0 c1 => Sys2Proof.Machine.execRingCreditAudit e d0 d1 c0 c1 s
  | .ringHeartbeat e h => Sys2Proof.Machine.execRingHeartbeat e h s
  | .heartbeatSend e => Sys2Proof.Machine.execHeartbeatSend e s
  | .neighbourLost e => Sys2Proof.Machine.execNeighbourLost e s
  | .ringPcsLock e => Sys2Proof.Machine.execRingPcsLock e s
  | .ringPcsLoss e => Sys2Proof.Machine.execRingPcsLoss e s
  | .ringAdvert e h a => Sys2Proof.Machine.execRingAdvert e h a s
  | .advertSend => Sys2Proof.Machine.execAdvertSend s
  | .nodeUnreached n => Sys2Proof.Machine.execNodeUnreached n s
  | .ringLoss e h y => Sys2Proof.Machine.execRingLoss e h y s
  | .replicaPromote n => Sys2Proof.Machine.execReplicaPromote n s
  | .ringSpill e h x bytes rmask => Sys2Proof.Machine.execRingSpill e h x bytes rmask s
  | .ringSpillResult e h x bytes rmask => Sys2Proof.Machine.execRingSpillResult e h x bytes rmask s
  | .ringRepl e h m => Sys2Proof.Machine.execRingRepl e h m s
  | .ringReplAck e h sa seq => Sys2Proof.Machine.execRingReplAck e h sa seq s
  | .replAckTimeout => Sys2Proof.Machine.execReplAckTimeout s
  | .replPnTimer sa => Sys2Proof.Machine.execReplPnTimer sa s
  | .leaseSuspend n => Sys2Proof.Machine.execLeaseSuspend n s
  | .replResync n => Sys2Proof.Machine.execReplResync n s
  | .ringPortFence e => Sys2Proof.Machine.execRingPortFence e s
  | .ringCfgWrite who v => Sys2Proof.Machine.execRingCfgWrite who v s
  | .pcieFunctionReset => Sys2Proof.Machine.execPcieFunctionReset s
  | .msixHoldoffEnd v => Sys2Proof.Machine.execMsixHoldoffEnd v s
  | .memwinWrite who v => Sys2Proof.Machine.execMemwinWrite who v s
  | .apertureAccess who x size wr => Sys2Proof.Machine.execApertureAccess who x size wr s
  | .accessRefused who off wr => Sys2Proof.Machine.execAccessRefused who off wr s
  | .readZeroed who off wr => Sys2Proof.Machine.execReadZeroed who off wr s
  | .accessUnavail who off wr => Sys2Proof.Machine.execAccessUnavail who off wr s
  | .smbIdcode => Sys2Proof.Machine.execSmbIdcode s
  | .smbLcState => Sys2Proof.Machine.execSmbLcState s
  | .smbStatus => Sys2Proof.Machine.execSmbStatus s
  | .smbFaultStat => Sys2Proof.Machine.execSmbFaultStat s
  | .smbThermMax => Sys2Proof.Machine.execSmbThermMax s
  | .smbTherm k => Sys2Proof.Machine.execSmbTherm k s
  | .smbMonEvt => Sys2Proof.Machine.execSmbMonEvt s
  | .smbLinkUp => Sys2Proof.Machine.execSmbLinkUp s
  | .smbRingState => Sys2Proof.Machine.execSmbRingState s
  | .smbDerrqStat => Sys2Proof.Machine.execSmbDerrqStat s
  | .smbNotify v => Sys2Proof.Machine.execSmbNotify v s
  | .smbBusTimeout => Sys2Proof.Machine.execSmbBusTimeout s
  | .registerWrite who bar2 off v => Sys2Proof.Machine.execRegisterWrite who bar2 off v s
  | .refclkRecover refA => Sys2Proof.Machine.execRefclkRecover refA s
  | .standbyLost => Sys2Proof.Machine.execStandbyLost s
  | .rxFecCodeword sd p symbols bad inFrame => Sys2Proof.Machine.execRxFecCodeword sd p symbols bad inFrame s
  | .laneRxLock sd l sig cdr cal blk => Sys2Proof.Machine.execLaneRxLock sd l sig cdr cal blk s
  | .skbContextRestore c n ecc => Sys2Proof.Machine.execSkbContextRestore c n ecc s
  | .ringForward e h body => Sys2Proof.Machine.execRingForward e h body s

end Sys2Proof.Machine
end

