-- ==== Sys2Proof/Machine/Step.lean ====
section
/-! DEFINITION. The step of the block: the command at the front of the queue, or one CCLK of an idle block. -/

namespace Sys2Proof.Machine

/-- One step. With no command waiting, one CCLK passes. DESIGN CHOICE: the spec gives the block no queue (log entry 1).
[Marks: DESIGN CHOICE (log entries 1, 2)] -/
def step (s : State) : Host.Outcome State Fault Refusal :=
  match s.pending with
  | [] => .next { s with now := s.now + 1 }
  | c :: rest => exec c { s with pending := rest }

/-- The state with the command that a word spells at the front of its queue; unchanged where the word spells none.
[Marks: DEDUCED (log entry 79)] -/
def State.withFetchWord (s : State) (nbits w : Nat) : State :=
  match decodeTableWord nbits w with
  | some c => { s with pending := c :: s.pending }
  | none => s

end Sys2Proof.Machine
end

