-- ==== Sys2Proof/Safety.lean ====
section
/-! DEFINITION. What claims about the block are stated in terms of: the operation that a core command stands for, when it
issues, the registers and memories that a command keeps, and the canonical forms. -/

namespace Sys2Proof.Machine
open Sys2Proof

/-- The core, slot and operation of a command that is an operation of a core; none for every other command. -/
def coreOp (i : Instr) : Option (CoreId × Slot × Op) :=
  match i with
  | .nop g sl => some (g, sl, .nop)
  | .add g sl d a b => some (g, sl, .alu .add d a b)
  | .sub g sl d a b => some (g, sl, .alu .sub d a b)
  | .and g sl d a b => some (g, sl, .alu .and d a b)
  | .or g sl d a b => some (g, sl, .alu .or d a b)
  | .xor g sl d a b => some (g, sl, .alu .xor d a b)
  | .andn g sl d a b => some (g, sl, .alu .andn d a b)
  | .shl g sl d a b => some (g, sl, .alu .shl d a b)
  | .shr g sl d a b => some (g, sl, .alu .shr d a b)
  | .sra g sl d a b => some (g, sl, .alu .sra d a b)
  | .rotr g sl d a b => some (g, sl, .alu .rotr d a b)
  | .min g sl d a b => some (g, sl, .alu .min d a b)
  | .max g sl d a b => some (g, sl, .alu .max d a b)
  | .minu g sl d a b => some (g, sl, .alu .minu d a b)
  | .maxu g sl d a b => some (g, sl, .alu .maxu d a b)
  | .sel g sl d a b => some (g, sl, .sel d a b)
  | .cmpeq g sl toP d a b => some (g, sl, .cmp .eq toP d a b)
  | .cmpne g sl toP d a b => some (g, sl, .cmp .ne toP d a b)
  | .cmplt g sl toP d a b => some (g, sl, .cmp .lt toP d a b)
  | .cmpltu g sl toP d a b => some (g, sl, .cmp .ltu toP d a b)
  | .cmple g sl toP d a b => some (g, sl, .cmp .le toP d a b)
  | .cmpleu g sl toP d a b => some (g, sl, .cmp .leu toP d a b)
  | .ext g sl m d a => some (g, sl, .ext m d a)
  | .clz g sl d a => some (g, sl, .clz d a)
  | .popc g sl d a => some (g, sl, .popc d a)
  | .addi g sl d a imm => some (g, sl, .alui .add d a imm)
  | .andi g sl d a imm => some (g, sl, .alui .and d a imm)
  | .ori g sl d a imm => some (g, sl, .alui .or d a imm)
  | .xori g sl d a imm => some (g, sl, .alui .xor d a imm)
  | .cmpeqi g sl d a imm => some (g, sl, .alui .cmpeq d a imm)
  | .cmplti g sl d a imm => some (g, sl, .alui .cmplt d a imm)
  | .cmpltui g sl d a imm => some (g, sl, .alui .cmpltu d a imm)
  | .shli g sl d a sh => some (g, sl, .shi .shl d a sh)
  | .shri g sl d a sh => some (g, sl, .shi .shr d a sh)
  | .srai g sl d a sh => some (g, sl, .shi .sra d a sh)
  | .mfc g sl d c => some (g, sl, .mfc d c)
  | .mtc g sl c a => some (g, sl, .mtc c a)
  | .div g sl d a b => some (g, sl, .div .div d a b)
  | .divu g sl d a b => some (g, sl, .div .divu d a b)
  | .rem g sl d a b => some (g, sl, .div .rem d a b)
  | .remu g sl d a b => some (g, sl, .div .remu d a b)
  | .declass g sl d a => some (g, sl, .declass d a)
  | .rclr g sl d a => some (g, sl, .rclr d a)
  | .br g sl disp => some (g, sl, .br disp)
  | .call g sl disp => some (g, sl, .call disp)
  | .bz g sl annul hint src disp => some (g, sl, .bc .bz annul hint src disp)
  | .bnz g sl annul hint src disp => some (g, sl, .bc .bnz annul hint src disp)
  | .bltz g sl annul hint src disp => some (g, sl, .bc .bltz annul hint src disp)
  | .bgez g sl annul hint src disp => some (g, sl, .bc .bgez annul hint src disp)
  | .bpa g sl annul hint src disp => some (g, sl, .bc .bpa annul hint src disp)
  | .bpn g sl annul hint src disp => some (g, sl, .bc .bpn annul hint src disp)
  | .jr g sl src link => some (g, sl, .jr src link)
  | .loop g sl lv src disp => some (g, sl, .loop lv src disp)
  | .loopi g sl lv cnt disp => some (g, sl, .loopi lv cnt disp)
  | .lclr g sl mask => some (g, sl, .lclr mask)
  | .pflush g sl => some (g, sl, .pflush)
  | .pbar g sl on => some (g, sl, .pbar on)
  | .syscall g sl code => some (g, sl, .syscall code)
  | .kcall g sl region gate => some (g, sl, .kcall region gate)
  | .retx g sl => some (g, sl, .retx)
  | .sleep g sl depth => some (g, sl, .sleep depth)
  | .ldb g sl rd m => some (g, sl, .ld .b rd m)
  | .ldbu g sl rd m => some (g, sl, .ld .bu rd m)
  | .ldh g sl rd m => some (g, sl, .ld .h rd m)
  | .ldhu g sl rd m => some (g, sl, .ld .hu rd m)
  | .ldw g sl rd m => some (g, sl, .ld .w rd m)
  | .ldd g sl rd m => some (g, sl, .ld .d rd m)
  | .ldq g sl rd m => some (g, sl, .ld .q rd m)
  | .stb g sl rd m => some (g, sl, .st .b rd m)
  | .sth g sl rd m => some (g, sl, .st .h rd m)
  | .stw g sl rd m => some (g, sl, .st .w rd m)
  | .std g sl rd m => some (g, sl, .st .d rd m)
  | .stq g sl rd m => some (g, sl, .st .q rd m)
  | .lea g sl rd ab off => some (g, sl, .lea rd ab off)
  | .amod g sl m => some (g, sl, .amod m)
  | .movta g sl d a => some (g, sl, .movta d a)
  | .movfa g sl d a => some (g, sl, .movfa d a)
  | .vlds g sl o => some (g, sl, .vlds o)
  | .vsts g sl o => some (g, sl, .vsts o)
  | .mul g sl d a b => some (g, sl, .mul d a b)
  | .mac g sl acc a b md => some (g, sl, .mac .mac acc a b md)
  | .msu g sl acc a b md => some (g, sl, .mac .msu acc a b md)
  | .macm g sl acc a b md => some (g, sl, .mac .macm acc a b md)
  | .mfa g sl d acc rnd sat sh => some (g, sl, .mfa d acc rnd sat sh)
  | .mta g sl acc a field => some (g, sl, .mta acc a field)
  | .accadd g sl acc src neg => some (g, sl, .accadd acc src neg)
  | .mulw16 g sl uns d a b => some (g, sl, .mulw16 uns d a b)
  | .mulw32 g sl uns d a b => some (g, sl, .mulw32 uns d a b)
  | .macw g sl uns acc a b => some (g, sl, .macw uns acc a b)
  | .dot4b g sl ua ub d a b => some (g, sl, .dot4b ua ub d a b)
  | .dot4h g sl uns acc a b => some (g, sl, .dot4h uns acc a b)
  | .mmad g sl mont noadd d a b => some (g, sl, .mmad mont noadd d a b)
  | .vadd g sl o => some (g, sl, .vop .add o)
  | .vsub g sl o => some (g, sl, .vop .sub o)
  | .vand g sl o => some (g, sl, .vop .and o)
  | .vor g sl o => some (g, sl, .vop .or o)
  | .vxor g sl o => some (g, sl, .vop .xor o)
  | .vandn g sl o => some (g, sl, .vop .andn o)
  | .vmin g sl o => some (g, sl, .vop .min o)
  | .vmax g sl o => some (g, sl, .vop .max o)
  | .vminu g sl o => some (g, sl, .vop .minu o)
  | .vmaxu g sl o => some (g, sl, .vop .maxu o)
  | .vshl g sl o => some (g, sl, .vop .shl o)
  | .vshr g sl o => some (g, sl, .vop .shr o)
  | .vsra g sl o => some (g, sl, .vop .sra o)
  | .vrotr g sl o => some (g, sl, .vop .rotr o)
  | .vsel g sl o => some (g, sl, .vop .sel o)
  | .vmov g sl o => some (g, sl, .vop .mov o)
  | .vcmpeq g sl o => some (g, sl, .vop .cmpeq o)
  | .vcmplt g sl o => some (g, sl, .vop .cmplt o)
  | .vcmpltu g sl o => some (g, sl, .vop .cmpltu o)
  | .vcmple g sl o => some (g, sl, .vop .cmple o)
  | .vcmpleu g sl o => some (g, sl, .vop .cmpleu o)
  | .vmul g sl o => some (g, sl, .vop .mul o)
  | .vmulh g sl o => some (g, sl, .vop .mulh o)
  | .vmulhu g sl o => some (g, sl, .vop .mulhu o)
  | .vmulw g sl o => some (g, sl, .vop .mulw o)
  | .vmulwu g sl o => some (g, sl, .vop .mulwu o)
  | .vmacw g sl o => some (g, sl, .vop .macw o)
  | .vmacwu g sl o => some (g, sl, .vop .macwu o)
  | .vdot4b g sl o => some (g, sl, .vop .dot4b o)
  | .vdot4h g sl o => some (g, sl, .vop .dot4h o)
  | .vmmad g sl o => some (g, sl, .vop .mmad o)
  | .bfly g sl o => some (g, sl, .vop .bfly o)
  | .vshuf g sl o => some (g, sl, .vop .shuf o)
  | .vzipl g sl o => some (g, sl, .vop .zipl o)
  | .vziph g sl o => some (g, sl, .vop .ziph o)
  | .vuzpe g sl o => some (g, sl, .vop .uzpe o)
  | .vuzpo g sl o => some (g, sl, .vop .uzpo o)
  | .vext g sl o => some (g, sl, .vop .ext o)
  | .vclmul g sl o => some (g, sl, .vop .clmul o)
  | .vshli g sl o => some (g, sl, .vshi .shl o)
  | .vshri g sl o => some (g, sl, .vshi .shr o)
  | .vsrai g sl o => some (g, sl, .vshi .sra o)
  | .vrotri g sl o => some (g, sl, .vshi .rotr o)
  | .vdupg g sl o => some (g, sl, .vdupg o)
  | .vdeclass g sl vd va long => some (g, sl, .vdeclass vd va long)
  | .vrclr g sl vd va long => some (g, sl, .vrclr vd va long)
  | .kload g sl ks gs => some (g, sl, .kload ks gs)
  | .kzero g sl ks => some (g, sl, .kzero ks)
  | .kexport g sl qa gh => some (g, sl, .kexport qa gh)
  | .vctrInit g sl va ks src fsel => some (g, sl, .vctrInit va ks src fsel)
  | .vctrData g sl vd va vm ks => some (g, sl, .vctrData vd va vm ks)
  | .vecb g sl vd va ks => some (g, sl, .vecb vd va ks)
  | .vghash g sl va ks => some (g, sl, .vghash va ks)
  | .vtag g sl vd va ks => some (g, sl, .vtag vd va ks)
  | .vtagchk g sl pd va vb ks => some (g, sl, .vtagchk pd va vb ks)
  | _ => none

/-- The core as its next bundle finds it: at its boundary, with every result due by then committed (R157, R163). -/
def State.found (s : State) (g : Nat) : Core := (s.toBoundary g).core g

/-- The address of the bundle after one that holds `op` alone at the core's pc (R146, R189). -/
def Core.succOf (c : Core) (op : Op) : Word := c.seqNext c.pc (4 * opSyllables op)

/-- Operation `op`, alone in slot `sl` at core g's pc, issues: the core runs and nothing else is due at its boundary (R142,
R299, R305, R475); the bundle is not annulled (R191); its address is aligned, inside IMEM and of the core's side of the Keeper
regions (R189, R290); it is legal in its slot and among the results in flight (R147, R148, R156, R158, R192); it does not stall
(R142, R161, R162); and no check of R275 makes it fault. -/
def State.issues (s : State) (g : Nat) (sl : Slot) (op : Op) : Bool :=
  let t := s.toBoundary g
  let c := t.core g
  let e := t.env g
  let ops := [(sl, op)]
  (s.core g).live && c.vrun.isNone && (t.boundaryEntry g).isNone && c.replay.isNone
    && !(decide (c.shLeft ≠ 0) && c.shAnnul)
    && decide (c.pc.toNat % 4 = 0) && decide (c.pc.toNat < 0x20000) && (c.inKeeper c.pc.toNat == (c.pl == 2))
    && slotOk op sl && opLegal op && c.dcLegal e c.pc (c.succOf op) 1 ops && !c.bundleStalls e c.pc (c.succOf op) ops
    && !c.opPrivileged e op && c.opTintTrig op == 0 && (op != .retx || c.retxFault.isNone)
    && (c.firstExc e c.pc (c.succOf op) (t.windowExc g c) ops).isNone

/-- What a result-only operation leaves as it was at once: every register file, the control registers, the key slots, the
memories, and what is outstanding. -/
structure Core.Keeps (c c' : Core) : Prop where
  g : c'.g = c.g
  a : c'.a = c.a
  o : c'.o = c.o
  m : c'.m = c.m
  acc : c'.acc = c.acc
  q : c'.q = c.q
  p : c'.p = c.p
  cr : c'.cr = c.cr
  krgn : c'.krgn = c.krgn
  slots : c'.slots = c.slots
  imem : c'.imem = c.imem
  dmem : c'.dmem = c.dmem
  far : c'.far = c.far
  kloads : c'.kloads = c.kloads
  kexp : c'.kexp = c.kexp
  fnext : c'.fnext = c.fnext
  popped : c'.popped = c.popped
  stack : c'.stack = c.stack
  declCnt : c'.declCnt = c.declCnt
  rclrCnt : c'.rclrCnt = c.rclrCnt
  lock : c'.lock = c.lock
  callPend : c'.callPend = c.callPend
  sleep : c'.sleep = c.sleep

/-- Command `i` issues on core g and does nothing but put `new` in flight: every other core and every other part of the block
is as it was at the boundary, and of core g only the pc, the issue bookkeeping and the loop registers move with it. -/
def PutsInFlight (s : State) (g : CoreId) (i : Instr) (new : List Flight) : Prop :=
  ∃ c', exec i s = .next ((s.toBoundary g).setCore g c') ∧ c'.flight = ((s.found g).addFlights new).flight
    ∧ c'.issueCyc = (s.found g).issueCyc + 1 ∧ (s.found g).Keeps c'

/-- The command is an operation of a core that issues now, alone in its bundle. -/
def State.canIssue (s : State) (i : Instr) : Bool :=
  match coreOp i with
  | some (g, sl, op) => s.issues g sl op
  | none => false

/-- What one result does: its latency in issue cycles, how it enters the core when it commits, its arithmetic condition (1 DZ,
2 DOV, 3 MODR), the count it adds to (1 DECL, 2 RCLR), and whether it sets SATF or ACCOV. -/
structure Res where
  lat : Nat
  enters : Core → Core
  cond : Nat := 0
  decl : Nat := 0
  satf : Bool := false
  accov : Bool := false

/-- A result that enters the core and does nothing else but, perhaps, raise a condition. -/
def Res.of (lat : Nat) (enters : Core → Core) (cond : Nat := 0) : Res := ⟨lat, enters, cond, 0, false, false⟩

/-- A result in flight is the one described, issued in issue cycle `n`. -/
structure Flight.Does (f : Flight) (n : Nat) (r : Res) : Prop where
  live : f.live = true
  commit : f.commit = n + r.lat
  cond : f.cond = r.cond
  decl : f.decl = r.decl
  satf : f.satf = r.satf
  accov : f.accov = r.accov
  enters : ∀ c, f.apply c = r.enters c

/-- Command `i` issues on core g, and all that it does is to put the results `l` in flight, in that order. -/
def Puts (s : State) (g : CoreId) (i : Instr) (l : List Res) : Prop :=
  ∃ fl, PutsInFlight s g i fl ∧ fl.length = l.length ∧ ∀ p ∈ fl.zip l, p.1.Does (s.found g).issueCyc p.2

/-- The one result of `i` is a write of `v` with tint `t` to g register `d`. -/
def PutsG (s : State) (g : CoreId) (i : Instr) (lat : Nat) (d : R6) (v : Word) (t : Tint) : Prop :=
  Puts s g i [⟨lat, fun c => c.wrG d.toNat ⟨v, t⟩, 0, 0, false, false⟩]

/-- The one result of `i` is a write of `v` with tint `t` to accumulator `n`, `wraps` when it sets ACCOV. -/
def PutsAcc (s : State) (g : CoreId) (i : Instr) (lat : Nat) (n : R3) (v : Int) (t : Tint) : Prop :=
  Puts s g i [⟨lat, fun c => c.wrAcc n.toNat ⟨BitVec.ofInt 80 v, t⟩, 0, 0, false,
    decide (v < -(2 ^ 79) ∨ (2 ^ 79 : Int) ≤ v)⟩]

/-- Lane i of a bitmask result: the 16-bit predicate with the bits for which `f` holds. -/
def predOf (n : Nat) (f : Nat → Bool) : BitVec 16 :=
  BitVec.ofNat 16 ((List.range n).foldl (fun m i => if f i then m + 2 ^ i else m) 0)

/-- A vector register after a write of the lanes of width `w` that `mask` selects: dn, whose upper half the write clears, or
qn; each half merges the tint unless it is written whole (R150, R159). -/
def Core.wrLanes (c : Core) (n : Nat) (long : Bool) (w mask : Nat) (val : Nat → Nat) (tl th : Tint) : Core :=
  let lanes := (if long then 128 else 64) / w
  let en := laneBytes (w / 8) mask lanes
  let h := halves (ofLanes w ((List.range lanes).map val)) tl th
  if long then c.wrQen n en h.1 h.2 else c.wrDen n en h.1

/-- Command `i` issues on core g and changes nothing outside that core; `P` says what becomes of the core. -/
def Issued (s : State) (g : CoreId) (i : Instr) (P : Core → Core → Prop) : Prop :=
  ∃ c', exec i s = .next ((s.toBoundary g).setCore g c') ∧ c'.issueCyc = (s.found g).issueCyc + 1 ∧ P (s.found g) c'

/-- Command `i` runs on core g and changes no other core and nothing else of the block; `P` says what becomes of core g. -/
def RunsIn (s : State) (g : CoreId) (i : Instr) (P : Core → Core → Prop) : Prop :=
  ∃ t, exec i s = .next t ∧ t = { s.toBoundary g with cores := t.cores } ∧ (∀ h : Nat, h ≠ g.val → t.core h = s.core h) ∧
    (t.core g).issueCyc = (s.found g).issueCyc + 1 ∧ P (s.found g) (t.core g)

/-- The result of an address update by post-modify: none for MODE 0 (R172, R175). -/
def Core.updates (c : Core) (m : MemOp) (size : Nat) : List Res :=
  match c.amod m size with
  | some (some u) => [Res.of 1 (fun k => k.wrA m.ab.toNat u)]
  | _ => []

/-- All that a core's bundle leaves alone but its key slots, far accesses, memories, control registers and what it waits for. -/
structure Core.KeepsFiles (c c' : Core) : Prop where
  g : c'.g = c.g
  a : c'.a = c.a
  o : c'.o = c.o
  m : c'.m = c.m
  acc : c'.acc = c.acc
  q : c'.q = c.q
  p : c'.p = c.p
  imem : c'.imem = c.imem
  krgn : c'.krgn = c.krgn
  fnext : c'.fnext = c.fnext
  stack : c'.stack = c.stack

/-- The results `l` are added to those in flight. -/
def Core.Adds (c c' : Core) (l : List Res) : Prop :=
  ∃ fl, c'.flight = (c.addFlights fl).flight ∧ fl.length = l.length ∧ ∀ p ∈ fl.zip l, p.1.Does c.issueCyc p.2

/-- A shadow of two bundles stands after the core's bundle: whether it is annulled, and what follows it (R190, R202). -/
structure Core.Shadow (c c' : Core) (op : Op) (annul : Bool) (nxt : Word) : Prop where
  pc : c'.pc = c.succOf op
  left : c'.shLeft = 2
  annul : c'.shAnnul = annul
  next : c'.shNext = nxt

/-- No byte and no tint of any core's or cluster's memory differs. -/
def SameMemories (s t : State) : Prop :=
  (∀ g a, (t.core g).imem.get 0 a = (s.core g).imem.get 0 a)
    ∧ (∀ g a, (t.core g).dmem.b.get 0 a = (s.core g).dmem.b.get 0 a ∧ (t.core g).dmem.tint a = (s.core g).dmem.tint a)
    ∧ (∀ c a, (t.clu c).cmem.b.get 0 a = (s.clu c).cmem.b.get 0 a ∧ (t.clu c).cmem.tint a = (s.clu c).cmem.tint a)

/-- Every register outside a list of BAR0 offsets reads as before. -/
def RegsBut (offs : List Nat) (s t : State) : Prop := ∀ off, off ∉ offs → t.rd off = s.rd off

/-- The map of registers is canonical: offsets rise strictly, and no word is listed at its reset value. -/
def State.regsWf (s : State) : Bool :=
  SMap.wf none s.regs && s.regs.all (fun e => e.2 != some (rstWord e.1))

/-- Command `i` answers a next state, of which `P` says what it is. -/
def Does (s : State) (i : Instr) (P : State → Prop) : Prop := ∃ t, exec i s = .next t ∧ P t

/-- Two maps agree but, perhaps, at the keys of a list. -/
def SMap.But {α : Type} (d : α) (l : List Nat) (m n : SMap α) : Prop := ∀ k, k ∉ l → n.get d k = m.get d k

/-- `s` with what interrupt requests change taken from `t`: the sources, and the vectors' messages, pending bits and
holdoffs. -/
def State.signals (s t : State) : State :=
  { s with srcs := t.srcs, msixPba := t.msixPba, msixHold := t.msixHold, out := t.out }

/-- The Warden's next command, and its only one, is `c`, of opcode `op` with `len` bytes of payload: it listens, SEQ follows the last
one, the reserved fields are zero, and the host still waits for the answer (R398, R399, R537). -/
def State.mails (s : State) (op len : Nat) (c : List Byte) : Bool := decide (
  s.mbx.wq = [(s.mbx.gen, c)] ∧ s.mbx.busy = true ∧ s.mbx.held = none ∧ s.wardenRuns = true ∧ s.recovering = false
    ∧ s.wardenListens = true ∧ cmdOp c = op ∧ cmdLen c = len ∧ fieldAt c 2 2 = 0 ∧ fieldAt c 12 4 = 0
    ∧ cmdSeq c = (match s.mbx.lastSeq with
      | some q => q + 1
      | none => 0))

/-- The mailbox once its only command `c` has been answered: the response in RSP_BUF and in the response store (R399, R537). -/
def Mbx.answered (m : Mbx) (c : List Byte) (status : Nat) (payload : List Byte) : Mbx :=
  let r := rspBytes c status payload
  { m with wq := [], rsp := r, busy := false, rspValid := true, lastSeq := some (cmdSeq c), lastCmd := c, lastRsp := r }

/-- The counters that a drop of the frame with reason `code` moves: its ledger's, and those of its SA (R88, R109, R113). -/
def Frame.counters (x : Frame) (code : Nat) : List Nat :=
  let both (a : Nat) : List Nat := [a, a + 4]
  [LEDGER x.side x.port 1, LEDGER x.side x.port 3, LEDGER_DROPPED x.side x.port code, SA_CNT x.sa 0, SA_CNT x.sa 1, SA_CNT x.sa 2,
    SA_CNT x.sa 3, SA_CNT x.sa 4].flatMap both ++ [LEDGER_INFLIGHT x.side x.port]

/-- The registers of the error-record queues of the device. -/
def errorRegs : List Nat := [FAULT_STAT, DERRQ_STAT, DERRQ_OVF, DERRQ_OVF + 4]

/-- A frame's numbers are those of a port of a side, of an SA, and of a core or of the pool cluster of a spilled frame. -/
def Frame.inRange (x : Frame) : Bool :=
  decide (x.side < 2) && decide (x.port < 16) && decide (x.eport < 16) && decide (x.sa < 4096) && decide (x.core < 128)

/-- The frame table is canonical, and every frame of it has its numbers in range. -/
def State.framesInRange (s : State) : Bool := SMap.wf Frame.none s.frames && s.frames.all (fun e => e.2.inRange)

end Sys2Proof.Machine
end

