-- ==== Sys2Proof/Certificates/Slice0/Obligations.lean ====
section
/-! DEFINITION. The statements for the provers. -/

set_option maxRecDepth 4000

open Sys2Proof Sys2Proof.Machine

/-! The block and its queue -/

/-- The command at the front of the queue leaves it and runs on the block with the rest of the queue; on an empty
queue one CCLK passes and nothing else changes (the model's choice, log entries 1 and 2). -/
def Obligations.StepRunsTheFrontCommand : Prop :=
  (∀ (s : State) (i : Instr) (rest : List Instr), s.pending = i :: rest → step s = exec i { s with pending := rest }) ∧
  (∀ s : State, s.pending = [] → step s = .next { s with now := s.now + 1 })

/-- R12, R151, R260, R421, R453: right after reset every register holds its reset value, every register file of a core
and every memory is zero and untinted, no core runs, no command, record, frame or key stands anywhere, the mailbox is
idle, and the block meets the invariants that its steps keep. The lifecycle state OPEN and the empty root store are
the model's choice of a part (log entries 4 and 5). -/
def Obligations.ResetState : Prop :=
  let s := State.reset
  (∀ off : Nat, s.rd off = rstWord off) ∧ s.rd CLK_CTL = 0x80000000 ∧ s.rd MBX_TMO = 100 ∧
    (∀ c : ClId, s.rd (ROT_CTL c) = 0xC00000C8 ∧ s.rd (ARB_PRI c 10) = 0x0B000040) ∧
  (∀ g : CoreId, let c := s.core g
    (∀ n : Nat, c.rdG n = tw0 ∧ c.rdA n = tw0 ∧ c.rdO n = tw0 ∧ c.rdM n = tw0 ∧ c.q.get td0 n = td0 ∧ c.rdAcc n = acc0 ∧
      c.rdP n = p0 ∧ c.dmem.b.get 0 n = 0 ∧ c.dmem.tint n = .clean ∧ c.imem.get 0 n = 0) ∧
    c.run = false ∧ c.far = [] ∧ c.flight = [] ∧ c.slots = []) ∧
  (∀ c : ClId, ∀ a : Nat, (s.clu c).cmem.b.get 0 a = 0 ∧ (s.clu c).cmem.tint a = .clean ∧ (s.clu c).errq = []) ∧
  s.derrq = [] ∧ s.frames = [] ∧ s.vault.keys = [] ∧ s.vault.handles = [] ∧ s.mbx.busy = false ∧ s.mbx.rspValid = false ∧
    s.mbx.timeout = false ∧ s.mbx.gen = 0 ∧
  s.pending = [] ∧ s.regsWf = true ∧ s.framesInRange = true ∧ s.warden.lcTarget = none

/-- R13, R15, R18, R396: the block never stops. Every command answers a next state in every state, and leaves the
commands that wait as they are; so from any state as many steps as commands wait empty the queue. -/
def Obligations.BlockNeverStops : Prop :=
  (∀ (i : Instr) (s : State), Does s i fun t => t.pending = s.pending) ∧
  (∀ s : State, ∃ run : Nat → State, run 0 = s ∧ (∀ n, step (run n) = .next (run (n + 1))) ∧
    (∀ n, (run n).pending = s.pending.drop n) ∧
    (run s.pending.length).pending = [])

/-- R266, R267, R273: every step keeps the memories in canonical form: keys rising, no byte and no tint listed at what
an unlisted one reads as, in every core's DMEM and IMEM, every cluster's CMEM, and the Warden's DMEM. -/
def Obligations.MemoriesStayCanonical : Prop :=
  ∀ s t : State,
    let ok (u : State) : Prop := (∀ g : Nat, (u.core g).dmem.wf = true ∧ SMap.wf 0 (u.core g).imem = true) ∧
        (∀ c : Nat, (u.clu c).cmem.wf = true) ∧ u.warden.dmem.wf = true
    ok s → step s = .next t → ok t

/-- R12, R15: every step keeps the register map canonical: offsets rising, and no register listed at its reset value;
so equal registers are equal data. -/
def Obligations.RegistersStayCanonical : Prop :=
  ∀ s t : State, s.regsWf = true → step s = .next t → t.regsWf = true

/-- R71, R83, R91, R515: every step keeps the frame table canonical, and every frame of it within the block's
numbering: a side, a port, an SA of 4,096, a core or pool cluster's first core, and an egress port. -/
def Obligations.FramesStayInRange : Prop :=
  ∀ s t : State, s.framesInRange = true → step s = .next t → t.framesInRange = true

/-- R420 to R422, R424: fuses only burn. The lifecycle state is read from the eight lifecycle fuses, any pattern but
0x00, 0x01 and 0x03 as RMA; a step moves them from TEST to OPEN, from OPEN to DEPLOYED, or from OPEN or DEPLOYED to
RMA, and never otherwise; it never changes a fused owner hash or lowers a fused minimum SVN, which SVN_COMMIT raises
to the SVNs in service. A lifecycle change that waits for its zeroisation is one of those moves, which every step
keeps. -/
def Obligations.FusesOnlyBurn : Prop :=
  (∀ s t : State,
    let forward (a b : BitVec 8) : Prop := a = b ∨ (a = 0 ∧ b = 1) ∨ (a = 1 ∧ b = 3) ∨ ((a = 1 ∨ a = 3) ∧ b = 7)
    let ok (u : State) : Prop := ∀ f, u.warden.lcTarget = some f → forward u.fuses.lc f
    ok s → step s = .next t → ok t ∧ forward s.fuses.lc t.fuses.lc ∧ (∀ h, s.fuses.owner = some h → t.fuses.owner = some h) ∧
      s.fuses.wardenSvn ≤ t.fuses.wardenSvn ∧ s.fuses.coreSvn ≤ t.fuses.coreSvn) ∧
  (∀ s : State, s.lcState = if s.fuses.lc = 0x00 then 0 else if s.fuses.lc = 0x01 then 1 else if s.fuses.lc = 0x03 then 2 else 3) ∧
  (∀ (s : State) (c : List Byte), s.mails 0x34 0 c → s.lcState = 1 ∨ s.lcState = 2 → Does s .svnCommit fun t =>
    t.fuses.wardenSvn = max s.fuses.wardenSvn s.warden.svn ∧ (∀ i ∈ s.warden.images, i.svn ≤ t.fuses.coreSvn) ∧
      s.fuses.coreSvn ≤ t.fuses.coreSvn ∧
    (t.fuses.coreSvn = s.fuses.coreSvn ∨ ∃ i ∈ s.warden.images, i.svn = t.fuses.coreSvn))

/-! The cores: scalar operations -/

/-- R169: the two-operand scalar operations write their result to gd after one issue cycle, with the OR of the tints.
R169: the operations with an immediate (already extended to 32 bits) and the shifts by an immediate amount. -/
def Obligations.ScalarAlu : Prop :=
  (∀ (s : State) (g : CoreId) (sl : Slot) (d a b : R6),
    let x := (s.found g).rdG a.toNat
    let y := (s.found g).rdG b.toNat
    let t := x.t.or y.t
    let n := y.v.toNat % 32
    (s.canIssue (.add g sl d a b) → PutsG s g (.add g sl d a b) 1 d (x.v + y.v) t) ∧
    (s.canIssue (.sub g sl d a b) → PutsG s g (.sub g sl d a b) 1 d (x.v - y.v) t) ∧
    (s.canIssue (.and g sl d a b) → PutsG s g (.and g sl d a b) 1 d (x.v &&& y.v) t) ∧
    (s.canIssue (.or g sl d a b) → PutsG s g (.or g sl d a b) 1 d (x.v ||| y.v) t) ∧
    (s.canIssue (.xor g sl d a b) → PutsG s g (.xor g sl d a b) 1 d (x.v ^^^ y.v) t) ∧
    (s.canIssue (.andn g sl d a b) → PutsG s g (.andn g sl d a b) 1 d (x.v &&& ~~~y.v) t) ∧
    (s.canIssue (.shl g sl d a b) → PutsG s g (.shl g sl d a b) 1 d (BitVec.ofNat 32 (x.v.toNat * 2 ^ n)) t) ∧
    (s.canIssue (.shr g sl d a b) → PutsG s g (.shr g sl d a b) 1 d (BitVec.ofNat 32 (x.v.toNat / 2 ^ n)) t) ∧
    (s.canIssue (.sra g sl d a b) → PutsG s g (.sra g sl d a b) 1 d (BitVec.ofInt 32 (x.v.toInt / 2 ^ n)) t) ∧
    (s.canIssue (.rotr g sl d a b) → PutsG s g (.rotr g sl d a b) 1 d (x.v >>> n ||| x.v <<< (32 - n)) t) ∧
    (s.canIssue (.min g sl d a b) →
      PutsG s g (.min g sl d a b) 1 d (BitVec.ofInt 32 (if x.v.toInt ≤ y.v.toInt then x.v.toInt else y.v.toInt)) t) ∧
    (s.canIssue (.max g sl d a b) →
      PutsG s g (.max g sl d a b) 1 d (BitVec.ofInt 32 (if x.v.toInt ≤ y.v.toInt then y.v.toInt else x.v.toInt)) t) ∧
    (s.canIssue (.minu g sl d a b) → PutsG s g (.minu g sl d a b) 1 d (if x.v.toNat ≤ y.v.toNat then x.v else y.v) t) ∧
    (s.canIssue (.maxu g sl d a b) → PutsG s g (.maxu g sl d a b) 1 d (if x.v.toNat ≤ y.v.toNat then y.v else x.v) t)) ∧
  (∀ (s : State) (g : CoreId) (sl : Slot) (d a : R6) (imm : Word) (sh : BitVec 5),
    let x := (s.found g).rdG a.toNat
    (s.canIssue (.addi g sl d a imm) → PutsG s g (.addi g sl d a imm) 1 d (x.v + imm) x.t) ∧
    (s.canIssue (.andi g sl d a imm) → PutsG s g (.andi g sl d a imm) 1 d (x.v &&& imm) x.t) ∧
    (s.canIssue (.ori g sl d a imm) → PutsG s g (.ori g sl d a imm) 1 d (x.v ||| imm) x.t) ∧
    (s.canIssue (.xori g sl d a imm) → PutsG s g (.xori g sl d a imm) 1 d (x.v ^^^ imm) x.t) ∧
    (s.canIssue (.cmpeqi g sl d a imm) → PutsG s g (.cmpeqi g sl d a imm) 1 d (if x.v = imm then 1 else 0) x.t) ∧
    (s.canIssue (.cmplti g sl d a imm) →
      PutsG s g (.cmplti g sl d a imm) 1 d (if x.v.toInt < imm.toInt then 1 else 0) x.t) ∧
    (s.canIssue (.cmpltui g sl d a imm) →
      PutsG s g (.cmpltui g sl d a imm) 1 d (if x.v.toNat < imm.toNat then 1 else 0) x.t) ∧
    (s.canIssue (.shli g sl d a sh) →
      PutsG s g (.shli g sl d a sh) 1 d (BitVec.ofNat 32 (x.v.toNat * 2 ^ sh.toNat)) x.t) ∧
    (s.canIssue (.shri g sl d a sh) →
      PutsG s g (.shri g sl d a sh) 1 d (BitVec.ofNat 32 (x.v.toNat / 2 ^ sh.toNat)) x.t) ∧
    (s.canIssue (.srai g sl d a sh) →
      PutsG s g (.srai g sl d a sh) 1 d (BitVec.ofInt 32 (x.v.toInt / 2 ^ sh.toNat)) x.t))

/-- R169: SEL, the six comparisons in both destination forms, and EXT. R169: CLZ writes the number of zeros above the
highest one bit, 32 for zero; POPC writes the number of one bits. R170, R183: divide and remainder after 34 issue
cycles; DZ for a zero divisor, DOV for the one signed overflow. A K-tinted operand raises no condition (R185). -/
def Obligations.ScalarSelectCountDivide : Prop :=
  (∀ (s : State) (g : CoreId) (sl : Slot) (d a b : R6),
    let x := (s.found g).rdG a.toNat
    let y := (s.found g).rdG b.toNat
    let z := (s.found g).rdG d.toNat
    let t := x.t.or y.t
    let compares (i : Bool → Instr) (r : Bool) : Prop :=
      (s.canIssue (i false) → PutsG s g (i false) 1 d (if r then 1 else 0) t) ∧
      (s.canIssue (i true) → Puts s g (i true) [{ lat := 1, enters := fun c => c.wrP d.toNat ⟨if r then 0xFFFF else 0, t⟩ }])
    (s.canIssue (.sel g sl d a b) → PutsG s g (.sel g sl d a b) 1 d (if z.v = 0 then y.v else x.v) (t.or z.t)) ∧
    compares (fun p => .cmpeq g sl p d a b) (x.v.toNat = y.v.toNat) ∧
    compares (fun p => .cmpne g sl p d a b) (x.v.toNat ≠ y.v.toNat) ∧
    compares (fun p => .cmplt g sl p d a b) (x.v.toInt < y.v.toInt) ∧
    compares (fun p => .cmpltu g sl p d a b) (x.v.toNat < y.v.toNat) ∧
    compares (fun p => .cmple g sl p d a b) (x.v.toInt ≤ y.v.toInt) ∧
    compares (fun p => .cmpleu g sl p d a b) (x.v.toNat ≤ y.v.toNat) ∧
    (s.canIssue (.ext g sl 0 d a) → PutsG s g (.ext g sl 0 d a) 1 d ((x.v.truncate 8).signExtend 32) x.t) ∧
    (s.canIssue (.ext g sl 1 d a) → PutsG s g (.ext g sl 1 d a) 1 d ((x.v.truncate 16).signExtend 32) x.t) ∧
    (s.canIssue (.ext g sl 2 d a) → PutsG s g (.ext g sl 2 d a) 1 d (x.v &&& 0xFF) x.t) ∧
    (s.canIssue (.ext g sl 3 d a) → PutsG s g (.ext g sl 3 d a) 1 d (x.v &&& 0xFFFF) x.t)) ∧
  (∀ (s : State) (g : CoreId) (sl : Slot) (d a : R6),
    let x := (s.found g).rdG a.toNat
    (s.canIssue (.clz g sl d a) → ∃ n : Nat, n ≤ 32 ∧ PutsG s g (.clz g sl d a) 1 d (BitVec.ofNat 32 n) x.t ∧
      (∀ i, i < n → x.v.getLsbD (31 - i) = false) ∧ (n < 32 → x.v.getLsbD (31 - n) = true)) ∧
    (s.canIssue (.popc g sl d a) → PutsG s g (.popc g sl d a) 1 d
      (BitVec.ofNat 32 ((List.range 32).filter (fun i => x.v.getLsbD i)).length) x.t)) ∧
  (∀ (s : State) (g : CoreId) (sl : Slot) (d a b : R6),
    let x := (s.found g).rdG a.toNat
    let y := (s.found g).rdG b.toNat
    let t := x.t.or y.t
    let ovf : Prop := x.v = 0x80000000 ∧ y.v = 0xFFFFFFFF
    let res (v : Word) (k : Nat) : List Res :=
      [{ lat := 34, enters := fun c => c.wrG d.toNat ⟨v, t⟩, cond := if t.k then 0 else k }]
    let sq : Int := x.v.toInt.tdiv y.v.toInt
    (s.canIssue (.div g sl d a b) → Puts s g (.div g sl d a b)
      (if y.v = 0 then res 0xFFFFFFFF 1 else if ovf then res 0x80000000 2 else res (BitVec.ofInt 32 sq) 0)) ∧
    (s.canIssue (.rem g sl d a b) → Puts s g (.rem g sl d a b)
      (if y.v = 0 then res x.v 1 else if ovf then res 0 2 else res (BitVec.ofInt 32 (x.v.toInt - sq * y.v.toInt)) 0)) ∧
    (s.canIssue (.divu g sl d a b) → Puts s g (.divu g sl d a b)
      (if y.v = 0 then res 0xFFFFFFFF 1 else res (BitVec.ofNat 32 (x.v.toNat / y.v.toNat)) 0)) ∧
    (s.canIssue (.remu g sl d a b) → Puts s g (.remu g sl d a b)
      (if y.v = 0 then res x.v 1 else res (BitVec.ofNat 32 (x.v.toNat % y.v.toNat)) 0)))

/-- R270, R271: DECLASS and VDECLASS copy with K cleared and are counted in DECL; RCLR and VRCLR copy with R cleared
and are counted in RCLR. -/
def Obligations.TagClearing : Prop :=
  ∀ (s : State) (g : CoreId) (sl : Slot) (d a : R6) (vd va : R5) (long : Bool),
    let x := (s.found g).rdG a.toNat
    let lo := (s.found g).rdLo va.toNat
    let hi := (s.found g).rdHi va.toNat
    let copy (c : Core) (l h : Tint) : Core :=
      if long then (c.wrLo vd.toNat ⟨lo.v, l⟩).wrHi vd.toNat ⟨hi.v, h⟩ else (c.wrLo vd.toNat ⟨lo.v, l⟩).wrHi vd.toNat td0
    (s.canIssue (.declass g sl d a) → Puts s g (.declass g sl d a)
      [{ lat := 1, enters := fun c => c.wrG d.toNat ⟨x.v, ⟨false, x.t.r⟩⟩, decl := 1 }]) ∧
    (s.canIssue (.rclr g sl d a) → Puts s g (.rclr g sl d a)
      [{ lat := 1, enters := fun c => c.wrG d.toNat ⟨x.v, ⟨x.t.k, false⟩⟩, decl := 2 }]) ∧
    (s.canIssue (.vdeclass g sl vd va long) → Puts s g (.vdeclass g sl vd va long)
      [{ lat := 2, enters := fun c => copy c ⟨false, lo.t.r⟩ ⟨false, hi.t.r⟩, decl := 1 }]) ∧
    (s.canIssue (.vrclr g sl vd va long) → Puts s g (.vrclr g sl vd va long)
      [{ lat := 2, enters := fun c => copy c ⟨lo.t.k, false⟩ ⟨hi.t.k, false⟩, decl := 2 }])

/-- R173, R175: LEA, AMOD, and the moves between the g file and the a, o and m files. R175: a circular update stays
within the buffer and is the offset modulo its length; a bit-reversed update changes only the field between the access
size and the length, which advances as the reversed sum. -/
def Obligations.AddressOperations : Prop :=
  (∀ (s : State) (g : CoreId) (sl : Slot) (d a : R6) (rd ab : R4) (off : Word) (m : MemOp),
    let c0 := s.found g
    let x := c0.rdG a.toNat
    let named : TW := if a.toNat < 16 then c0.rdA a.toNat else if a.toNat < 32 then c0.rdO (a.toNat - 16)
      else c0.rdM (a.toNat - 32)
    (s.canIssue (.lea g sl rd ab off) → Puts s g (.lea g sl rd ab off)
      [{ lat := 1, enters := fun c => c.wrA rd.toNat ⟨(c0.rdA ab.toNat).v + off, (c0.rdA ab.toNat).t⟩ }]) ∧
    (s.canIssue (.amod g sl m) → ∃ u : TW, c0.amod m 1 = some (some u) ∧
      Puts s g (.amod g sl m) [{ lat := 1, enters := fun c => c.wrA m.ab.toNat u }]) ∧
    (∀ o : R4, m.mode = .post o → s.canIssue (.amod g sl m) → Puts s g (.amod g sl m)
      [{ lat := 1, enters := fun c => c.wrA m.ab.toNat
          ⟨(c0.rdA m.ab.toNat).v + (c0.rdO o.toNat).v, (c0.rdA m.ab.toNat).t.or (c0.rdO o.toNat).t⟩ }]) ∧
    (s.canIssue (.movta g sl d a) → Puts s g (.movta g sl d a)
      [{ lat := 1, enters := fun c => if d.toNat < 16 then c.wrA d.toNat x else if d.toNat < 32 then c.wrO (d.toNat - 16) x
          else c.wrM (d.toNat - 32) x }]) ∧
    (s.canIssue (.movfa g sl d a) → PutsG s g (.movfa g sl d a) 1 d named.v named.t)) ∧
  ((∀ ab o len size n : Nat, ab < 2 ^ 32 → circNext ab o len size = some n →
    let step : Int := (BitVec.ofNat 32 o).toInt
    let base := ab - ab % pow2ge len
    o < 2 ^ 32 → base + len ≤ 2 ^ 32 →
      0 < len ∧ len ≤ 0x100000 ∧ len % size = 0 ∧ base ≤ n ∧ n < base + len ∧ ((n : Int) - (ab + step)) % len = 0) ∧
  (∀ ab o w z n : Nat, brevNext ab o (2 ^ w) (2 ^ z) = some n →
    z < w ∧ w ≤ 20 ∧ n / 2 ^ w = ab / 2 ^ w ∧ n % 2 ^ z = ab % 2 ^ z ∧
      revBits (w - z) (n / 2 ^ z % 2 ^ (w - z))
        = (revBits (w - z) (ab / 2 ^ z % 2 ^ (w - z)) + revBits (w - z) (o / 2 ^ z % 2 ^ (w - z))) % 2 ^ (w - z)))

/-! The cores: multiply, accumulate and modular operations -/

/-- R178 to R181: the M class but MMAD. Accumulator results wrap modulo 2^80 and set ACCOV when they do (R176). R182,
R183: MMAD is fully reduced modulo MOD_Q; an illegal modulus writes 0 with the condition MODR, which a K-tinted
operand does not raise. In the Montgomery form with MOD_QINV the negated inverse of the modulus, the result times 2^32
is the product, modulo the modulus. -/
def Obligations.MultiplyAccumulate : Prop :=
  (∀ (s : State) (g : CoreId) (sl : Slot) (d a b : R6) (n m : R3) (u v : Bool),
    let c0 := s.found g
    let x := c0.rdG a.toNat
    let y := c0.rdG b.toNat
    let z := c0.rdAcc n.toNat
    let t := x.t.or y.t
    let field (k : Nat) (uns : Bool) (w : BitVec k) : Int := if uns then (w.toNat : Int) else w.toInt
    let half (hi : Bool) (w : Word) : BitVec 16 := if hi then w.extractLsb' 16 16 else w.extractLsb' 0 16
    let prod : Int := field 16 (m.getLsbD 2) (half (m.getLsbD 0) x.v) * field 16 (m.getLsbD 2) (half (m.getLsbD 1) y.v)
    let pair (r : R6) : DWord := (c0.rdG (r.toNat + 1)).v ++ (c0.rdG r.toNat).v
    let pairT (r : R6) : Tint := (c0.rdG r.toNat).t.or (c0.rdG (r.toNat + 1)).t
    (s.canIssue (.mul g sl d a b) → PutsG s g (.mul g sl d a b) 3 d (x.v * y.v) t) ∧
    (s.canIssue (.mac g sl n a b m) → PutsAcc s g (.mac g sl n a b m) 3 n (z.v.toInt + prod) (t.or z.t)) ∧
    (s.canIssue (.msu g sl n a b m) → PutsAcc s g (.msu g sl n a b m) 3 n (z.v.toInt - prod) (t.or z.t)) ∧
    (s.canIssue (.macm g sl n a b m) → Puts s g (.macm g sl n a b m)
      [{ lat := 3, enters := fun c => c.wrAcc n.toNat ⟨BitVec.ofInt 80 (z.v.toInt + prod), t.or z.t⟩,
         accov := decide (z.v.toInt + prod < -(2 ^ 79) ∨ (2 ^ 79 : Int) ≤ z.v.toInt + prod) },
       { lat := 1, enters := fun c => c.wrG (a.toNat + 1) ⟨x.v, t.or z.t⟩ }]) ∧
    (s.canIssue (.accadd g sl n m u) →
      let w := c0.rdAcc m.toNat
      PutsAcc s g (.accadd g sl n m u) 3 n (if u then z.v.toInt - w.v.toInt else z.v.toInt + w.v.toInt) (z.t.or w.t)) ∧
    (s.canIssue (.mulw16 g sl u d a b) → PutsG s g (.mulw16 g sl u d a b) 4 d
      (BitVec.ofInt 32 (field 16 u (half false x.v) * field 16 u (half false y.v))) t) ∧
    (s.canIssue (.mulw32 g sl u d a b) →
      let p : DWord := BitVec.ofInt 64 (field 32 u x.v * field 32 u y.v)
      Puts s g (.mulw32 g sl u d a b)
        [{ lat := 4, enters := fun c => (c.wrG d.toNat ⟨p.extractLsb' 0 32, t⟩).wrG (d.toNat + 1) ⟨p.extractLsb' 32 32, t⟩ }]) ∧
    (s.canIssue (.macw g sl u n a b) →
      PutsAcc s g (.macw g sl u n a b) 4 n (z.v.toInt + field 32 u x.v * field 32 u y.v) (t.or z.t)) ∧
    (s.canIssue (.dot4b g sl u v d a b) →
      let old := c0.rdG d.toNat
      let byte (i : Nat) : Int := field 8 u (x.v.extractLsb' (8 * i) 8) * field 8 v (y.v.extractLsb' (8 * i) 8)
      PutsG s g (.dot4b g sl u v d a b) 4 d (BitVec.ofInt 32 (old.v.toInt + (byte 0 + byte 1 + byte 2 + byte 3)))
        (t.or old.t)) ∧
    (s.canIssue (.dot4h g sl u n a b) →
      let word (i : Nat) : Int := field 16 u ((pair a).extractLsb' (16 * i) 16) * field 16 u ((pair b).extractLsb' (16 * i) 16)
      PutsAcc s g (.dot4h g sl u n a b) 4 n (z.v.toInt + (word 0 + word 1 + word 2 + word 3))
        (((pairT a).or (pairT b)).or z.t)) ∧
    (∀ (rnd sat : Bool) (sh : BitVec 8), s.canIssue (.mfa g sl d n rnd sat sh) →
      let r : Int := (z.v.toInt + (if rnd ∧ 0 < sh.toNat then 2 ^ (sh.toNat - 1) else 0)) / 2 ^ sh.toNat
      let clips : Prop := sat = true ∧ (0x7FFFFFFF < r ∨ r < -0x80000000)
      Puts s g (.mfa g sl d n rnd sat sh)
        [{ lat := 3, enters := fun c => c.wrG d.toNat
             ⟨if clips then (if r < 0 then 0x80000000 else 0x7FFFFFFF) else BitVec.ofInt 32 r, z.t⟩, satf := decide clips }]) ∧
    (∀ fld : BitVec 2, s.canIssue (.mta g sl n a fld) → Puts s g (.mta g sl n a fld)
      [{ lat := 3, enters := fun c =>
           let old := c.rdAcc n.toNat
           let top := old.v.extractLsb' 64 16
           let mid := old.v.extractLsb' 32 32
           let low := old.v.extractLsb' 0 32
           c.wrAcc n.toNat (match fld with
             | 0 => ⟨x.v.signExtend 80, x.t⟩
             | 1 => ⟨top ++ mid ++ x.v, old.t.or x.t⟩
             | 2 => ⟨top ++ x.v ++ low, old.t.or x.t⟩
             | 3 => ⟨x.v.extractLsb' 0 16 ++ mid ++ low, old.t.or x.t⟩) }])) ∧
  (∀ (s : State) (g : CoreId) (sl : Slot) (mont noadd : Bool) (d a b : R6),
    let c0 := s.found g
    let x := c0.rdG a.toNat
    let y := c0.rdG b.toNat
    let z := c0.rdG d.toNat
    let q := (c0.rdCr 9).v.toNat
    let t := (x.t.or y.t).or (if noadd then Tint.clean else z.t)
    let bad : Prop := q < 2 ∨ (mont = true ∧ q % 2 = 0)
    let add := if noadd then 0 else z.v.toNat
    s.canIssue (.mmad g sl mont noadd d a b) → ∃ r : Nat,
      Puts s g (.mmad g sl mont noadd d a b)
        [{ lat := 4, enters := fun c => c.wrG d.toNat ⟨BitVec.ofNat 32 r, t⟩, cond := if bad ∧ t.k = false then 3 else 0 }] ∧
      (bad → r = 0) ∧ (¬bad → r < q) ∧
      (¬bad → mont = false → r = (x.v.toNat * y.v.toNat + add) % q) ∧
      (¬bad → mont = true → (c0.rdCr 10).v.toNat * q % 2 ^ 32 = 2 ^ 32 - 1 →
        r * 2 ^ 32 % q = (x.v.toNat * y.v.toNat + add * 2 ^ 32) % q))

/-! The cores: vector operations -/

/-- R213, R219: the element-wise operations write a function of the lanes of a and b to the lanes that R213 selects,
after 2 or 4 issue cycles; each half takes the OR of the tints of the same halves, the predicate and VL (R218). R219:
the shifts by an immediate, which no predicate governs, and VDUPG. -/
def Obligations.VectorElementwise : Prop :=
  (∀ (s : State) (g : CoreId) (sl : Slot) (o : VR),
    let c0 := s.found g
    let w := 8 * 2 ^ o.ew.toNat
    let x (i : Nat) : BitVec w := BitVec.ofNat w (lane w (c0.rdV o.va.toNat o.long) i)
    let y (i : Nat) : BitVec w := BitVec.ofNat w (lane w (c0.rdV o.vb.toNat o.long) i)
    let n (i : Nat) : Nat := (y i).toNat % w
    let gov := c0.govTint o.pg.toNat
    let half (va vb : TD) : Tint := (va.t.or vb.t).or gov
    let each (c : VR → Instr) (lat : Nat) (val : (i : Nat) → BitVec w) : Prop :=
      s.canIssue (c o) → Puts s g (c o) [Res.of lat (fun k =>
        k.wrLanes o.vd.toNat o.long w (c0.laneMask o.pg.toNat ((if o.long then 128 else 64) / w)) (fun i => (val i).toNat)
          (half (c0.rdLo o.va.toNat) (c0.rdLo o.vb.toNat)) (half (c0.rdHi o.va.toNat) (c0.rdHi o.vb.toNat)))]
    each (.vadd g sl) 2 (fun i => x i + y i) ∧
    each (.vsub g sl) 2 (fun i => x i - y i) ∧
    each (.vand g sl) 2 (fun i => x i &&& y i) ∧
    each (.vor g sl) 2 (fun i => x i ||| y i) ∧
    each (.vxor g sl) 2 (fun i => x i ^^^ y i) ∧
    each (.vandn g sl) 2 (fun i => x i &&& ~~~y i) ∧
    each (.vmin g sl) 2 (fun i => if (x i).toInt ≤ (y i).toInt then x i else y i) ∧
    each (.vmax g sl) 2 (fun i => if (x i).toInt ≤ (y i).toInt then y i else x i) ∧
    each (.vminu g sl) 2 (fun i => if (x i).toNat ≤ (y i).toNat then x i else y i) ∧
    each (.vmaxu g sl) 2 (fun i => if (x i).toNat ≤ (y i).toNat then y i else x i) ∧
    each (.vshl g sl) 2 (fun i => x i <<< n i) ∧
    each (.vshr g sl) 2 (fun i => x i >>> n i) ∧
    each (.vsra g sl) 2 (fun i => BitVec.ofInt w ((x i).toInt / 2 ^ n i)) ∧
    each (.vrotr g sl) 2 (fun i => x i >>> n i ||| x i <<< (w - n i)) ∧
    each (.vmul g sl) 4 (fun i => x i * y i) ∧
    each (.vmulh g sl) 4 (fun i => BitVec.ofInt w ((x i).toInt * (y i).toInt / 2 ^ w)) ∧
    each (.vmulhu g sl) 4 (fun i => BitVec.ofNat w ((x i).toNat * (y i).toNat / 2 ^ w)) ∧
    (s.canIssue (.vmov g sl o) → Puts s g (.vmov g sl o) [Res.of 2 (fun k =>
      k.wrLanes o.vd.toNat o.long w (c0.laneMask o.pg.toNat ((if o.long then 128 else 64) / w)) (fun i => (x i).toNat)
        ((c0.rdLo o.va.toNat).t.or gov) ((c0.rdHi o.va.toNat).t.or gov))]) ∧
    (s.canIssue (.vsel g sl o) → Puts s g (.vsel g sl o) [Res.of 2 (fun k =>
      k.wrLanes o.vd.toNat o.long w (c0.laneMask 0 ((if o.long then 128 else 64) / w))
        (fun i => if (c0.rdP o.pg.toNat).v.getLsbD i then (x i).toNat else (y i).toNat)
        (half (c0.rdLo o.va.toNat) (c0.rdLo o.vb.toNat)) (half (c0.rdHi o.va.toNat) (c0.rdHi o.vb.toNat)))])) ∧
  ((∀ (s : State) (g : CoreId) (sl : Slot) (o : VS),
    let c0 := s.found g
    let w := 8 * 2 ^ o.ew.toNat
    let x (i : Nat) : BitVec w := BitVec.ofNat w (lane w (c0.rdV o.va.toNat o.long) i)
    let n := o.sh.toNat
    let gov := c0.govTint 0
    let each (c : VS → Instr) (val : (i : Nat) → BitVec w) : Prop :=
      s.canIssue (c o) → Puts s g (c o) [Res.of 2 (fun k =>
        k.wrLanes o.vd.toNat o.long w (c0.laneMask 0 ((if o.long then 128 else 64) / w)) (fun i => (val i).toNat)
          ((c0.rdLo o.va.toNat).t.or gov) ((c0.rdHi o.va.toNat).t.or gov))]
    each (.vshli g sl) (fun i => x i <<< n) ∧
    each (.vshri g sl) (fun i => x i >>> n) ∧
    each (.vsrai g sl) (fun i => BitVec.ofInt w ((x i).toInt / 2 ^ n)) ∧
    each (.vrotri g sl) (fun i => x i >>> n ||| x i <<< (w - n))) ∧
  (∀ (s : State) (g : CoreId) (sl : Slot) (o : VG), s.canIssue (.vdupg g sl o) →
    let c0 := s.found g
    let w := 8 * 2 ^ o.ew.toNat
    let x := c0.rdG o.gs.toNat
    let t := x.t.or (c0.govTint o.pg.toNat)
    Puts s g (.vdupg g sl o) [Res.of 2 (fun k =>
      k.wrLanes o.vd.toNat o.long w (c0.laneMask o.pg.toNat ((if o.long then 128 else 64) / w))
        (fun _ => x.v.toNat % 2 ^ w) t t)]))

/-- R219: the vector compares write all 16 bits of a predicate: the relation in each lane that R213 writes, 0
elsewhere. -/
def Obligations.VectorCompare : Prop :=
  ∀ (s : State) (g : CoreId) (sl : Slot) (o : VR),
    let c0 := s.found g
    let w := 8 * 2 ^ o.ew.toNat
    let lanes := (if o.long then 128 else 64) / w
    let x (i : Nat) : BitVec w := BitVec.ofNat w (lane w (c0.rdV o.va.toNat o.long) i)
    let y (i : Nat) : BitVec w := BitVec.ofNat w (lane w (c0.rdV o.vb.toNat o.long) i)
    let t := ((c0.vTint o.va.toNat o.long).or (c0.vTint o.vb.toNat o.long)).or (c0.govTint o.pg.toNat)
    let written (i : Nat) : Bool := decide (i < c0.vlen) && (o.pg == 0 || (c0.rdP o.pg.toNat).v.getLsbD i)
    let each (c : VR → Instr) (rel : Nat → Bool) : Prop :=
      s.canIssue (c o) → Puts s g (c o) [Res.of 2 (fun k =>
        k.wrP o.vd.toNat ⟨predOf lanes (fun i => written i && rel i), t⟩)]
    each (.vcmpeq g sl) (fun i => decide (x i = y i)) ∧
    each (.vcmplt g sl) (fun i => decide ((x i).toInt < (y i).toInt)) ∧
    each (.vcmpltu g sl) (fun i => decide ((x i).toNat < (y i).toNat)) ∧
    each (.vcmple g sl) (fun i => decide ((x i).toInt ≤ (y i).toInt)) ∧
    each (.vcmpleu g sl) (fun i => decide ((x i).toNat ≤ (y i).toNat))

/-- R219, R220: the widening multiplies, the vector dot products and VMMAD. R221: BFLY writes the pair of q registers
with the two butterfly outputs in each lane that R213 writes. -/
def Obligations.VectorMultiplyWide : Prop :=
  (∀ (s : State) (g : CoreId) (sl : Slot) (o : VR),
    let c0 := s.found g
    let w := 8 * 2 ^ o.ew.toNat
    let hi := o.ew.getLsbD 1
    let lo := o.ew.getLsbD 0
    let vd := o.vd.toNat
    let va := o.va.toNat
    let vb := o.vb.toNat
    let gov := c0.govTint o.pg.toNat
    let x (k i : Nat) : BitVec k := BitVec.ofNat k (lane k (c0.rdV va o.long) i)
    let y (k i : Nat) : BitVec k := BitVec.ofNat k (lane k (c0.rdV vb o.long) i)
    let d (k i : Nat) : BitVec k := BitVec.ofNat k (lane k (c0.rdV vd o.long) i)
    let dw (i : Nat) : BitVec (2 * w) := BitVec.ofNat (2 * w) (lane (2 * w) (c0.rdQ vd) i)
    let field (k : Nat) (uns : Bool) (v : BitVec k) : Int := if uns then (v.toNat : Int) else v.toInt
    let all := ((c0.rdLo va).t.or (c0.rdLo vb).t).or gov
    let allD := (all.or (c0.rdLo vd).t).or (c0.rdHi vd).t
    let halfLo := ((c0.rdLo va).t.or (c0.rdLo vb).t).or gov
    let halfHi := ((c0.rdHi va).t.or (c0.rdHi vb).t).or gov
    let wide (c : VR → Instr) (uns : Bool) (add : Bool) : Prop :=
      s.canIssue (c o) → Puts s g (c o) [Res.of 4 (fun k =>
        k.wrLanes vd true (2 * w) (c0.laneMask o.pg.toNat (64 / w))
          (fun i => (BitVec.ofInt (2 * w)
            ((if add then ((dw i).toNat : Int) else 0) + field w uns (x w i) * field w uns (y w i))).toNat)
          (if add then allD else all) (if add then allD else all))]
    let lanes (k : Nat) : Nat := (if o.long then 128 else 64) / k
    let into (c : VR → Instr) (k : Nat) (val : Nat → Nat) (tl th : Tint) (cond : Nat) : Prop :=
      s.canIssue (c o) → Puts s g (c o) [Res.of 4 (fun r =>
        r.wrLanes vd o.long k (c0.laneMask o.pg.toNat (lanes k)) val tl th) cond]
    let sum (k m : Nat) (i : Nat) : Int := (List.range 4).foldl (fun t j =>
      t + field m hi ((x k i).extractLsb' (m * j) m) * field m lo ((y k i).extractLsb' (m * j) m)) 0
    let q := (c0.rdCr 9).v.toNat
    let qi := (c0.rdCr 10).v.toNat
    let bad := modBad q hi
    let anyK := ((c0.vTint va o.long).or (c0.vTint vb o.long)).or gov
    let k := anyK.k || (!lo && (c0.vTint vd o.long).k)
    wide (.vmulw g sl) false false ∧ wide (.vmulwu g sl) true false ∧
    wide (.vmacw g sl) false true ∧ wide (.vmacwu g sl) true true ∧
    into (.vdot4b g sl) 32 (fun i => (BitVec.ofInt 32 ((d 32 i).toNat + sum 32 8 i)).toNat)
      (halfLo.or (c0.rdLo vd).t) (halfHi.or (c0.rdHi vd).t) 0 ∧
    into (.vdot4h g sl) 64 (fun i => (BitVec.ofInt 64 ((d 64 i).toNat + sum 64 16 i)).toNat)
      (halfLo.or (c0.rdLo vd).t) (halfHi.or (c0.rdHi vd).t) 0 ∧
    into (.vmmad g sl) 32
      (fun i => if bad then 0 else mmadVal q qi hi lo (x 32 i).toNat (y 32 i).toNat (if lo then 0 else (d 32 i).toNat))
      (if lo then halfLo else halfLo.or (c0.rdLo vd).t) (if lo then halfHi else halfHi.or (c0.rdHi vd).t)
      (if bad && !k then 3 else 0)) ∧
  (∀ (s : State) (g : CoreId) (sl : Slot) (o : VR), s.canIssue (.bfly g sl o) →
    let c0 := s.found g
    let va := o.va.toNat
    let vb := o.vb.toNat
    let q := (c0.rdCr 9).v.toNat
    let qi := (c0.rdCr 10).v.toNat
    let mont := o.ew.getLsbD 1
    let gs := o.ew.getLsbD 0
    let a (i : Nat) : Nat := lane 32 (c0.rdQ va) i
    let b (i : Nat) : Nat := lane 32 (c0.rdQ (va + 1)) i
    let w (i : Nat) : Nat := lane 32 (c0.rdQ vb) i
    let mm (x y : Nat) : Nat := mmadVal q qi mont true x y 0
    let res (i : Int) : Nat := (i % (q : Int)).toNat
    let out0 (i : Nat) : Nat := if modBad q mont then 0 else if gs then (a i + b i) % q else (a i + mm (b i) (w i)) % q
    let out1 (i : Nat) : Nat := if modBad q mont then 0
      else if gs then mm (res ((a i : Int) - b i)) (w i) else res ((a i : Int) - mm (b i) (w i))
    let gov := c0.govTint o.pg.toNat
    let tl := (((c0.rdLo va).t.or (c0.rdLo vb).t).or gov).or (c0.rdLo (va + 1)).t
    let th := (((c0.rdHi va).t.or (c0.rdHi vb).t).or gov).or (c0.rdHi (va + 1)).t
    let mask := c0.laneMask o.pg.toNat 4
    Puts s g (.bfly g sl o)
      [Res.of 4 (fun k =>
          (k.wrLanes o.vd.toNat true 32 mask out0 tl th).wrLanes (o.vd.toNat + 1) true 32 mask out1 tl th)
        (if modBad q mont && !(tl.k || th.k) then 3 else 0)])

/-- R222: the permutes and VCLMUL ignore VL and the predicates and write their whole destination. R150, R159, R213: a
write of the lanes that R213 selects gives each of them its value and leaves every other lane of qn as it was; a write
of dn clears the upper half; a half that no lane of the write reaches keeps its tint. -/
def Obligations.VectorPermuteAndLanes : Prop :=
  (∀ (s : State) (g : CoreId) (sl : Slot) (o : VR),
    let c0 := s.found g
    let va := o.va.toNat
    let vb := o.vb.toNat
    let w := 8 * 2 ^ o.ew.toNat
    let a := c0.rdV va o.long
    let b := c0.rdV vb o.long
    let n := if o.long then 16 else 8
    let all := (c0.vTint va o.long).or (c0.vTint vb o.long)
    let whole (c : VR → Instr) (lat : Nat) (v : Nat) (t : Tint) : Prop :=
      s.canIssue (c o) → Puts s g (c o) [Res.of lat (fun k =>
        let h := halves v t t
        if o.long then (k.wrLo o.vd.toNat h.1).wrHi o.vd.toNat h.2 else (k.wrLo o.vd.toNat h.1).wrHi o.vd.toNat td0)]
    let off := 4 * o.ew.toNat + o.pg.toNat
    let pairs := a + 2 ^ 128 * b
    let hb (x : Nat) (hi : Bool) : TD := if hi then c0.rdHi x else c0.rdLo x
    let ha := hb va (o.ew.getLsbD 1)
    let hc := hb vb (o.ew.getLsbD 0)
    whole (.vshuf g sl) 4 (ofLanes 8 ((List.range n).map (fun j => if lane 8 b j < n then lane 8 a (lane 8 b j) else 0))) all ∧
    whole (.vzipl g sl) 4 (ofLanes w ((List.range (128 / w)).map (fun i =>
      if i % 2 = 0 then lane w a (i / 2) else lane w b (i / 2)))) all ∧
    whole (.vziph g sl) 4 (ofLanes w ((List.range (128 / w)).map (fun i =>
      if i % 2 = 0 then lane w a (64 / w + i / 2) else lane w b (64 / w + i / 2)))) all ∧
    whole (.vuzpe g sl) 4 (ofLanes w ((List.range (128 / w)).map (fun i => lane w pairs (2 * i)))) all ∧
    whole (.vuzpo g sl) 4 (ofLanes w ((List.range (128 / w)).map (fun i => lane w pairs (2 * i + 1)))) all ∧
    whole (.vext g sl) 4 (ofLanes 8 ((List.range 16).map (fun j => lane 8 pairs (off + j))))
      (if off = 0 then (c0.rdLo va).t.or (c0.rdHi va).t
        else if off = 8 then (c0.rdHi va).t.or (c0.rdLo vb).t
        else if off < 8 then ((c0.rdLo va).t.or (c0.rdHi va).t).or (c0.rdLo vb).t
        else ((c0.rdHi va).t.or (c0.rdLo vb).t).or (c0.rdHi vb).t) ∧
    whole (.vclmul g sl) 5
      ((List.range 64).foldl (fun p i => if hc.v.getLsbD i then p ^^^ (ha.v.toNat * 2 ^ i) else p) 0) (ha.t.or hc.t)) ∧
  (∀ (c0 c : Core) (pg n : Nat) (long : Bool) (e : Fin 4) (val : Nat → Nat) (tl th : Tint),
    let w := 8 * 2 ^ e.val
    let lanes := (if long then 128 else 64) / w
    let sel (i : Nat) : Prop := i < c0.vlen ∧ i < lanes ∧ (pg = 0 ∨ (c0.rdP pg).v.getLsbD i = true)
    let r := c.wrLanes n long w (c0.laneMask pg lanes) val tl th
    (∀ i, sel i → lane w (r.rdQ n) i = val i % 2 ^ w) ∧
    (∀ i, ¬sel i → i < lanes → lane w (r.rdQ n) i = lane w (c.rdQ n) i) ∧
    (long = false → r.rdHi n = td0) ∧
    (∀ m, m ≠ n → r.rdLo m = c.rdLo m ∧ r.rdHi m = c.rdHi m) ∧
    ((∀ i, sel i → 64 ≤ w * i) → (r.rdLo n).t = (c.rdLo n).t) ∧
    (long = true → (∀ i, sel i → w * i < 64) → (r.rdHi n).t = (c.rdHi n).t) ∧
    ((∀ i, w * i < 64 → sel i) → (r.rdLo n).t = tl) ∧
    ((∃ i, sel i ∧ w * i < 64) → ¬(∀ i, w * i < 64 → sel i) → (r.rdLo n).t = (c.rdLo n).t.or tl))

/-! The cores: control flow, loops and control registers -/

/-- R187, R190: a branch leaves two delay slots; then the target follows when it is taken, else the successor of the
second slot. The slots issue annulled only when A is 1 and the branch is not taken. CALL and JR write the link. R143,
R199: NOP puts nothing in flight; PFLUSH is to clear the branch target buffer at the end of the next issue cycle; PBAR
writes PRED_CTL.BAR and no other control register. -/
def Obligations.Branches : Prop :=
  (∀ (s : State) (g : CoreId) (sl : Slot) (annul hint : Bool) (src link : R6) (d18 : BitVec 18) (d12 : BitVec 12),
    let c0 := s.found g
    let x := (c0.rdG src.toNat).v
    let p := (c0.rdP src.toNat).v
    let far := c0.pc + d18.signExtend 32 * 4
    let near := c0.pc + d12.signExtend 32 * 4
    let linked (c c' : Core) (op : Op) (n : Nat) : Prop := ∃ f : Flight, c'.flight = (c.addFlights [f]).flight ∧
      f.Does c.issueCyc (Res.of 1 (fun k => k.wrG n ⟨c.afterTwo (c.succOf op), Tint.clean⟩))
    let cond (i : Instr) (f : BcF) (taken : Prop) [Decidable taken] : Prop := s.canIssue i →
      Issued s g i (fun c c' => c.Keeps c' ∧ c'.flight = c.flight ∧
        c.Shadow c' (.bc f annul hint src d12) (annul && decide (¬taken))
          (if taken then near else c.afterTwo (c.succOf (.bc f annul hint src d12))))
    (s.canIssue (.br g sl d18) → Issued s g (.br g sl d18) (fun c c' =>
      c.Keeps c' ∧ c'.flight = c.flight ∧ c.Shadow c' (.br d18) false far)) ∧
    (s.canIssue (.call g sl d18) → Issued s g (.call g sl d18) (fun c c' =>
      c.Keeps c' ∧ linked c c' (.call d18) 63 ∧ c.Shadow c' (.call d18) false far)) ∧
    (s.canIssue (.jr g sl src link) → Issued s g (.jr g sl src link) (fun c c' =>
      c.Keeps c' ∧ linked c c' (.jr src link) link.toNat ∧ c.Shadow c' (.jr src link) false x)) ∧
    cond (.bz g sl annul hint src d12) .bz (x = 0) ∧
    cond (.bnz g sl annul hint src d12) .bnz (x ≠ 0) ∧
    cond (.bltz g sl annul hint src d12) .bltz (x.toInt < 0) ∧
    cond (.bgez g sl annul hint src d12) .bgez (0 ≤ x.toInt) ∧
    cond (.bpa g sl annul hint src d12) .bpa (p ≠ 0) ∧
    cond (.bpn g sl annul hint src d12) .bpn (p = 0)) ∧
  (∀ (s : State) (g : CoreId) (sl : Slot) (on : Bool),
    (s.canIssue (.nop g sl) → Puts s g (.nop g sl) []) ∧
    (s.canIssue (.pflush g sl) → Issued s g (.pflush g sl) (fun c c' =>
      c.Keeps c' ∧ c'.flight = c.flight ∧ c'.flushAt = some (c.issueCyc + 1))) ∧
    (s.canIssue (.pbar g sl on) → Issued s g (.pbar g sl on) (fun c c' =>
      c'.flight = c.flight ∧ c'.g = c.g ∧ c'.dmem = c.dmem ∧ c'.rdCr 6 = ⟨if on then 1 else 0, Tint.clean⟩ ∧
      ∀ n, n ≠ 6 → c'.rdCr n = c.rdCr n)))

/-- R201, R202: LOOP and LOOPI set the count, start and end of their level, clear the inner levels and leave two
set-up slots; LCLR clears the counts in its mask. R203: at the end of a body the active levels are taken from the
inner to the outer one: a level with passes left goes back to its start with one pass less, a level at its last pass
ends; the last test decides the bundle that follows. -/
def Obligations.Loops : Prop :=
  (∀ (s : State) (g : CoreId) (sl : Slot) (lv : BitVec 2) (src : R6) (cnt : BitVec 6) (mask : R3) (disp : BitVec 12),
    let c0 := s.found g
    let n := lv.toNat
    let x := c0.rdG src.toNat
    let stop := c0.pc + disp.zeroExtend 32 * 4
    let setUp (c c' : Core) (op : Op) (count : TW) (nxt : Word) : Prop :=
      c.Keeps c' ∧ c'.flight = c.flight ∧ c.Shadow c' op false nxt ∧
      c'.lc.get tw0 n = count ∧ c'.ls.get tw0 n = ⟨c.afterTwo (c.succOf op), Tint.clean⟩ ∧ c'.le.get tw0 n = ⟨stop, Tint.clean⟩ ∧
      (∀ m, n < m → m ≤ 2 → c'.lc.get tw0 m = tw0) ∧ (∀ m, m < n → c'.lc.get tw0 m = c.lc.get tw0 m) ∧
      (∀ m, m ≠ n → c'.ls.get tw0 m = c.ls.get tw0 m ∧ c'.le.get tw0 m = c.le.get tw0 m)
    (s.canIssue (.loop g sl lv src disp) → Issued s g (.loop g sl lv src disp) (fun c c' =>
      setUp c c' (.loop lv src disp) ⟨x.v &&& 0xFFFFFF, x.t⟩
        (if x.v &&& 0xFFFFFF = 0 then c.succAt stop else c.afterTwo (c.succOf (.loop lv src disp))))) ∧
    (s.canIssue (.loopi g sl lv cnt disp) → Issued s g (.loopi g sl lv cnt disp) (fun c c' =>
      setUp c c' (.loopi lv cnt disp) ⟨cnt.zeroExtend 32, Tint.clean⟩ (c.afterTwo (c.succOf (.loopi lv cnt disp))))) ∧
    (s.canIssue (.lclr g sl mask) → Issued s g (.lclr g sl mask) (fun c c' =>
      c.Keeps c' ∧ c'.flight = c.flight ∧ c'.pc = c.succOf (.lclr mask) ∧ c'.ls = c.ls ∧ c'.le = c.le ∧
      ∀ m, c'.lc.get tw0 m = if m < 3 ∧ mask.getLsbD m = true then tw0 else c.lc.get tw0 m))) ∧
  (∀ (c : Core) (pc succ : Word) (t : Nat),
    let r := c.loopTest pc succ t 3
    let ends (n : Nat) : Prop := (c.lc.get tw0 n).v ≠ 0 ∧ (c.le.get tw0 n).v = pc
    let again (n : Nat) : Prop := ends n ∧ (c.lc.get tw0 n).v ≠ 1
    (∀ n, n < 3 → again n → (∀ m, n < m → m < 3 → ¬again m) →
      r.2.1 = (c.ls.get tw0 n).v ∧ (r.1.lc.get tw0 n).v = (c.lc.get tw0 n).v - 1 ∧ (r.1.lc.get tw0 n).t = (c.lc.get tw0 n).t ∧
      (∀ m, n < m → m < 3 → ends m → (r.1.lc.get tw0 m).v = 0) ∧ (∀ m, m < n → r.1.lc.get tw0 m = c.lc.get tw0 m)) ∧
    ((∀ n, n < 3 → ¬again n) → r.2.1 = succ ∧ ∀ n, n < 3 → ends n → (r.1.lc.get tw0 n).v = 0) ∧
    (∀ n, ¬ends n → r.1.lc.get tw0 n = c.lc.get tw0 n) ∧ c.Keeps r.1 ∧ r.1.flight = c.flight)

/-- R152 to R154, R556: MFC writes the control register's value and tint to gd after one issue cycle. R152, R214,
R230, R310 to R313: what MTC leaves in the control register it names, and in no other. -/
def Obligations.ControlRegisters : Prop :=
  (∀ (s : State) (g : CoreId) (sl : Slot) (d n : R6), s.canIssue (.mfc g sl d n) →
    let c0 := s.found g
    let stored : Prop := n.toNat ∈ [0, 1, 2, 3, 4, 5, 6, 7, 8, 9, 10, 11, 19, 20, 32, 33, 34, 36, 42, 43, 44, 48]
    ∃ v : TW, Puts s g (.mfc g sl d n) [Res.of 1 (fun c => c.wrG d.toNat v)] ∧
      (stored → v = c0.rdCr n.toNat) ∧
      (n = 12 → v = ⟨BitVec.ofNat 32 (g.val * 256 + g.val / 8 * 16 + g.val % 8), Tint.clean⟩) ∧
      (n = 13 → v = ⟨BitVec.ofNat 32 ((s.toBoundary g).now - c0.rstAt), Tint.clean⟩) ∧
      (n = 15 → v = ⟨c0.issueCnt.truncate 32, Tint.clean⟩) ∧ (n = 17 → v = ⟨c0.stallCnt.truncate 32, Tint.clean⟩) ∧
      (n = 21 → v = ⟨c0.redirCnt.truncate 32, Tint.clean⟩) ∧ (n = 38 → v = ⟨c0.declCnt.truncate 32, Tint.clean⟩) ∧
      (n = 40 → v = ⟨c0.rclrCnt.truncate 32, Tint.clean⟩) ∧
      (∀ k, k < 3 → n.toNat = 23 + k → v = c0.lc.get tw0 k) ∧ (∀ k, k < 3 → n.toNat = 26 + k → v = c0.ls.get tw0 k) ∧
      (∀ k, k < 3 → n.toNat = 29 + k → v = c0.le.get tw0 k)) ∧
  (∀ (s : State) (g : CoreId) (sl : Slot) (n a : R6), s.canIssue (.mtc g sl n a) → n ≠ 46 → n ≠ 47 →
    let x := (s.found g).rdG a.toNat
    let kept (mask : Word) : TW := ⟨x.v &&& mask, Tint.clean⟩
    Issued s g (.mtc g sl n a) (fun c c' =>
      c'.flight = c.flight ∧ c'.g = c.g ∧ c'.q = c.q ∧ c'.p = c.p ∧ c'.acc = c.acc ∧ c'.dmem = c.dmem ∧ c'.slots = c.slots ∧
      (∀ m, m ≠ n.toNat → c'.rdCr m = c.rdCr m) ∧
      (crRO n.toNat = true → c'.rdCr n.toNat = c.rdCr n.toNat) ∧
      (n = 0 → c'.rdCr 0 = kept 0xF03) ∧ (n = 1 → c'.rdCr 1 = kept 0x80FFFFFF) ∧
      (n = 2 ∨ n = 3 ∨ n = 9 ∨ n = 10 ∨ n = 48 → c'.rdCr n.toNat = ⟨x.v, Tint.clean⟩) ∧
      (n = 4 → c'.rdCr 4 = kept 0xFFFFFFC0) ∧
      (n = 5 → c'.rdCr 5 = ⟨x.v &&& 0xF, x.t⟩) ∧ (n = 6 → c'.rdCr 6 = ⟨x.v &&& 1, x.t⟩) ∧
      (n = 7 → c'.rdCr 7 = ⟨BitVec.ofNat 32 (min x.v.toNat
        ((if (c.rdCr 32).v.getLsbD 2 then 128 else 64) / 2 ^ (3 + (c.rdCr 32).v.toNat % 4))), x.t.or (c.rdCr 32).t⟩) ∧
      (n = 8 → c'.rdCr 8 = kept 0xF) ∧ (n = 32 → c'.rdCr 32 = ⟨x.v &&& 7, x.t⟩) ∧ (n = 43 → c'.rdCr 43 = kept 0xFF) ∧
      (n = 19 → (c'.rdCr 19).v &&& 0x700 = x.v &&& 0x700 ∧ (c'.rdCr 19).v &&& 0x1F = (c.rdCr 19).v &&& 0x1F &&& ~~~x.v)))

/-! The cores: loads and stores -/

/-- R160, R171, R172, R266: a DMEM load writes the extended memory value with its word's tint after three issue
cycles, and a post-modify mode updates its address register after one. R160, R171, R266, R267: a DMEM store writes the
low bytes of its register at its address and no other byte; a whole 64-bit word takes the tint of the data, a part of
a word merges it. -/
def Obligations.DmemLoadsAndStores : Prop :=
  (∀ (s : State) (g : CoreId) (sl : Slot) (rd : R6) (m : MemOp),
    let c0 := s.found g
    let ea := (c0.ea m).toNat
    let off := ea - 0x100000
    let byte (i : Nat) : Byte := c0.dmem.b.get 0 (off + i)
    let t := c0.dmem.t.get Tint.clean (off / 8)
    let scalar (i : Instr) (size : Nat) (v : Word) : Prop := s.canIssue i → region ea = .dmem →
      Puts s g i (Res.of 3 (fun c => c.wrG rd.toNat ⟨v, t⟩) :: c0.updates m size)
    let dword (k : Nat) : TD :=
      ⟨byte (k + 7) ++ byte (k + 6) ++ byte (k + 5) ++ byte (k + 4) ++ byte (k + 3) ++ byte (k + 2) ++ byte (k + 1) ++ byte k,
        c0.dmem.t.get Tint.clean ((off + k) / 8)⟩
    scalar (.ldb g sl rd m) 1 ((byte 0).signExtend 32) ∧
    scalar (.ldbu g sl rd m) 1 ((byte 0).zeroExtend 32) ∧
    scalar (.ldh g sl rd m) 2 ((byte 1 ++ byte 0).signExtend 32) ∧
    scalar (.ldhu g sl rd m) 2 ((byte 1 ++ byte 0).zeroExtend 32) ∧
    scalar (.ldw g sl rd m) 4 (byte 3 ++ byte 2 ++ byte 1 ++ byte 0) ∧
    (s.canIssue (.ldd g sl rd m) → region ea = .dmem → Puts s g (.ldd g sl rd m)
      (Res.of 3 (fun c => (c.wrLo rd.toNat (dword 0)).wrHi rd.toNat td0) :: c0.updates m 8)) ∧
    (s.canIssue (.ldq g sl rd m) → region ea = .dmem → Puts s g (.ldq g sl rd m)
      (Res.of 3 (fun c => (c.wrLo rd.toNat (dword 0)).wrHi rd.toNat (dword 8)) :: c0.updates m 16))) ∧
  (∀ (s : State) (g : CoreId) (sl : Slot) (rd : R6) (m : MemOp),
    let c0 := s.found g
    let ea := (c0.ea m).toNat
    let off := ea - 0x100000
    let x := c0.rdG rd.toNat
    let lo := c0.rdLo rd.toNat
    let hi := c0.rdHi rd.toNat
    let stores (i : Instr) (size : Nat) (data : Nat) (tint : Nat → Tint) : Prop := s.canIssue i → region ea = .dmem →
      Issued s g i (fun c c' => c.KeepsFiles c' ∧ c'.cr = c.cr ∧ c'.slots = c.slots ∧ c'.far = c.far ∧
        c.Adds c' (c0.updates m size) ∧
        (∀ a, c'.dmem.b.get 0 a =
          if off ≤ a ∧ a < off + size then BitVec.ofNat 8 (data / 256 ^ (a - off)) else c.dmem.b.get 0 a) ∧
        (∀ w, c'.dmem.t.get Tint.clean w = if off / 8 ≤ w ∧ w ≤ (off + size - 1) / 8 then tint w else c.dmem.t.get Tint.clean w))
    let merge (w : Nat) : Tint := x.t.or (c0.dmem.t.get Tint.clean w)
    stores (.stb g sl rd m) 1 x.v.toNat merge ∧
    stores (.sth g sl rd m) 2 x.v.toNat merge ∧
    stores (.stw g sl rd m) 4 x.v.toNat merge ∧
    stores (.std g sl rd m) 8 lo.v.toNat (fun _ => lo.t) ∧
    stores (.stq g sl rd m) 16 (lo.v.toNat + 2 ^ 64 * hi.v.toNat) (fun w => if w = off / 8 then lo.t else hi.t))

/-- R161: a load or store outside DMEM is a far access, which enters the list of those outstanding with its address,
size, direction and data; it changes no register and no byte of memory when it issues. R223, R224: VLDS and VSTS
access the first lane that is selected from VEI.ELEM on in the CCLK of their issue; a bundle with no lane left to
access is complete at once, with VEI.ELEM 0 and its registers and memories as they were. -/
def Obligations.FarAccesses : Prop :=
  (∀ (s : State) (g : CoreId) (sl : Slot) (rd : R6) (m : MemOp),
    let c0 := s.found g
    let ea := c0.ea m
    let x := TD.ofW (c0.rdG rd.toNat)
    let far (i : Instr) (size : Nat) (wr : Bool) (dst : FarDst) (lo hi : TD) : Prop := s.canIssue i → region ea.toNat ≠ .dmem →
      Issued s g i (fun c c' => c.KeepsFiles c' ∧ c'.cr = c.cr ∧ c'.slots = c.slots ∧ c'.dmem = c.dmem ∧
        c.Adds c' (c0.updates m size) ∧
        ∃ f : Far, c'.far = c.far ++ [f] ∧ f.addr = ea ∧ f.size = size ∧ f.wr = wr ∧ f.dst = dst ∧ f.lo = lo ∧ f.hi = hi ∧
          f.pl = c.pl ∧ f.at_ = (s.toBoundary g).now ∧ f.granted = none ∧ f.perf = false)
    far (.ldb g sl rd m) 1 false (.g rd.toNat .b) td0 td0 ∧ far (.ldbu g sl rd m) 1 false (.g rd.toNat .bu) td0 td0 ∧
    far (.ldh g sl rd m) 2 false (.g rd.toNat .h) td0 td0 ∧ far (.ldhu g sl rd m) 2 false (.g rd.toNat .hu) td0 td0 ∧
    far (.ldw g sl rd m) 4 false (.g rd.toNat .w) td0 td0 ∧ far (.ldd g sl rd m) 8 false (.dq rd.toNat false) td0 td0 ∧
    far (.ldq g sl rd m) 16 false (.dq rd.toNat true) td0 td0 ∧
    far (.stb g sl rd m) 1 true .none x td0 ∧ far (.sth g sl rd m) 2 true .none x td0 ∧ far (.stw g sl rd m) 4 true .none x td0 ∧
    far (.std g sl rd m) 8 true .none (c0.rdLo rd.toNat) td0 ∧
    far (.stq g sl rd m) 16 true .none (c0.rdLo rd.toNat) (c0.rdHi rd.toNat)) ∧
  (∀ (s : State) (g : CoreId) (sl : Slot) (o : VM),
    let c0 := s.found g
    let w := 8 * 2 ^ o.ew.toNat
    let k := 2 ^ o.ew.toNat
    let lanes := (if o.long then 128 else 64) / w
    let sel (i : Nat) : Bool := decide (i < lanes) && decide (c0.velem ≤ i) && decide (i < c0.vlen) &&
      (o.pg == 0 || (c0.rdP o.pg.toNat).v.getLsbD i)
    let ea (i : Nat) : Word := (c0.rdA o.ab.toNat).v + BitVec.ofNat 32 i * (c0.rdO o.os.toNat).v
    let first (i : Nat) : Prop := sel i = true ∧ ∀ j, j < i → sel j = false
    let inDmem (i : Nat) (wr : Bool) : Prop :=
      region (ea i).toNat = .dmem ∧ (ea i).toNat % k = 0 ∧ c0.mayAccess c0.pl (ea i).toNat k wr = true
    let off (i : Nat) : Nat := (ea i).toNat - 0x100000
    (s.canIssue (.vlds g sl o) → (∀ i, sel i = false) → c0.far.any (fun f => f.elem) = false →
      RunsIn s g (.vlds g sl o) (fun c c' =>
      c.KeepsFiles c' ∧ c'.dmem = c.dmem ∧ c'.far = c.far ∧ c'.vrun = none ∧ c'.rdCr 8 = tw0)) ∧
    (s.canIssue (.vsts g sl o) → (∀ i, sel i = false) → c0.far.any (fun f => f.elem) = false →
      RunsIn s g (.vsts g sl o) (fun c c' =>
      c.KeepsFiles c' ∧ c'.dmem = c.dmem ∧ c'.far = c.far ∧ c'.vrun = none ∧ c'.rdCr 8 = tw0)) ∧
    (∀ i, s.canIssue (.vlds g sl o) → first i → inDmem i false → c0.lock.active = false → c0.lock.timedOut = false →
      RunsIn s g (.vlds g sl o) (fun c c' =>
        c'.g = c.g ∧ c'.a = c.a ∧ c'.dmem = c.dmem ∧ c'.far = c.far ∧
        lane w (c'.rdQ o.vr.toNat) i = c.dmem.val (off i) k ∧
        (∀ j, j < lanes → j ≠ i → lane w (c'.rdQ o.vr.toNat) j = lane w (c.rdQ o.vr.toNat) j) ∧
        (∀ n, n ≠ o.vr.toNat → c'.rdLo n = c.rdLo n ∧ c'.rdHi n = c.rdHi n) ∧ (o.long = false → c'.rdHi o.vr.toNat = td0) ∧
        (c'.vrun = none ∨ ∃ r, c'.vrun = some r ∧ r.next = i + 1))) ∧
    (∀ i, s.canIssue (.vsts g sl o) → first i → inDmem i true → c0.lock.active = false → c0.lock.timedOut = false →
      RunsIn s g (.vsts g sl o) (fun c c' =>
        c.KeepsFiles c' ∧ c'.far = c.far ∧ c'.dmem.val (off i) k = lane w (c.rdQ o.vr.toNat) i ∧
        (∀ a, a < off i ∨ off i + k ≤ a → c'.dmem.b.get 0 a = c.dmem.b.get 0 a) ∧
        (c'.vrun = none ∨ ∃ r, c'.vrun = some r ∧ r.next = i + 1))))

/-- R161, R267, R297, R348, R357: the oldest far access of a core leaves the list when it completes: a load enters its
destination, a store changes the bytes it names and no other byte; a CMEM beat that is not granted waits; a window
that does not answer ends a load with 0, discards a store, and raises cause 15. The completion times are the model's
(log entry 20). -/
def Obligations.FarCompletion : Prop :=
  ∀ (s : State) (g : CoreId) (f : Far) (fs : List Far), (s.core g).far = f :: fs →
    let c := s.core g
    let cl := g.val / 8
    let run := exec (.farAccessComplete g .ok) s
    let plainCore : Prop := c.vrun = none ∧ c.entry = none ∧ f.elem = false ∧ c.lock.ending = false
    let others : Prop := ∀ h : Nat, h / 8 = cl → ∀ x ∈ (s.core h).far, x.granted = none ∨ x.perf = true ∨ h = g.val ∧ x = f
    let off := f.addr.toNat - 0x1000000
    let entered (t : State) (lo hi : TD) : Prop :=
      let v := c.deliver f lo hi
      (t.core g).far = fs ∧ (t.core g).g = v.g ∧ (t.core g).q = v.q ∧ (t.core g).a = c.a ∧ (t.core g).p = c.p ∧
        (t.core g).dmem = c.dmem ∧ (t.core g).cr = c.cr ∧ (t.core g).pc = c.pc
    let datum (i : Nat) : Byte := BitVec.ofNat 8
      ((if i < 8 then f.lo.v.toNat / 256 ^ i else f.hi.v.toNat / 256 ^ (i - 8)))
    (region f.addr.toNat = .cmem → f.granted = none → run = .next s) ∧
    (∀ k, region f.addr.toNat = .cmem → f.granted = some k → f.wr = false → f.perf = true → plainCore → others →
      ∃ t, run = .next t ∧ entered t f.lo f.hi ∧ t.clu cl = s.clu cl ∧ t.now = max s.now (2 * k + 8)) ∧
    (∀ k, region f.addr.toNat = .cmem → f.granted = some k → f.wr = true → f.perf = false → f.dst = .none → f.size ≤ 8 ∨
      f.size = 16 →
      f ∉ fs → plainCore → others → ∃ t, run = .next t ∧ entered t td0 td0 ∧ t.now = max s.now (2 * k + 2) ∧
        ∀ a, (t.clu cl).cmem.b.get 0 a =
          if off ≤ a ∧ a < off + f.size then datum (a - off) else (s.clu cl).cmem.b.get 0 a) ∧
    (region f.addr.toNat = .imem → f.wr = false → plainCore → ∃ t, run = .next t ∧
      entered t ⟨BitVec.ofNat 64 (leNat (c.imem.getRange 0 f.addr.toNat (min f.size 8))), Tint.clean⟩
        ⟨BitVec.ofNat 64 (leNat (c.imem.getRange 0 (f.addr.toNat + 8) 8)), Tint.clean⟩ ∧ t.cl = s.cl) ∧
    (region f.addr.toNat ≠ .cmem → region f.addr.toNat ≠ .imem → s.answers g f.addr.toNat = true → f.wr = false →
      run = .next (((s.farRead g f).2.setCore g (((s.farRead g f).2.core g).deliver f (s.farRead g f).1.1 (s.farRead g f).1.2)).farDone g f)) ∧
    (region f.addr.toNat ≠ .cmem → region f.addr.toNat ≠ .imem → s.answers g f.addr.toNat = true → f.wr = true →
      f.perf = false → f.banks = [] → run = .next ((s.farWrite g f).farDone g f)) ∧
    (region f.addr.toNat ≠ .cmem → region f.addr.toNat ≠ .imem → s.answers g f.addr.toNat = false → run = .next s) ∧
    (region f.addr.toNat ≠ .cmem → region f.addr.toNat ≠ .imem → plainCore → ∃ t, exec (.farAccessTimeout g) s = .next t ∧
      (t.core g).far = fs ∧ (t.core g).g = (c.deliver f td0 td0).g ∧ (t.core g).q = (c.deliver f td0 td0).q ∧
      (t.core g).rdCr 44 = ⟨f.addr, Tint.clean⟩ ∧ (t.core g).imp15 = some f.addr ∧ t.now = max s.now (f.at_ + 8000) ∧
      ((s.clu cl).errq.length < 8 → ∃ r ∈ (t.clu cl).errq, r.cls = 14 ∧ r.index = g.val ∧ r.info0 = f.addr))

/-! The cores: key slots and cipher operations -/

/-- R239 to R241: KLOAD starts loading a slot, KZERO empties one, KEXPORT passes 32 bytes of two q registers under a
handle. R239, R241, R242, R257: a KLOAD that completes leaves its slot READY with the context's key, or EMPTY with the
reason in LOADERR; a KEXPORT that completes stores its secret under the bound handle, or records why not in
KEXP_STAT.ERR, and raises source 9. -/
def Obligations.KeySlotOperations : Prop :=
  (∀ (s : State) (g : CoreId) (sl : Slot) (ks : R4) (gs gh : R6) (qa : R5),
    let c0 := s.found g
    let now := (s.toBoundary g).now
    let others (c c' : Core) : Prop := ∀ n, n ≠ ks.toNat → c'.slot n = c.slot n
    (s.canIssue (.kload g sl ks gs) → Issued s g (.kload g sl ks gs) (fun c c' =>
      c.KeepsFiles c' ∧ c'.flight = c.flight ∧ c'.dmem = c.dmem ∧ others c c' ∧
      (c'.slot ks.toNat).st = 1 ∧ (c'.slot ks.toNat).idx = (c0.rdG gs.toNat).v.toNat ∧
      c'.kloads = c.kloads ++ [⟨ks.toNat, (c0.rdG gs.toNat).v.toNat, c.pl == 2, now⟩])) ∧
    (s.canIssue (.kzero g sl ks) → Issued s g (.kzero g sl ks) (fun c c' =>
      c.KeepsFiles c' ∧ c'.flight = c.flight ∧ c'.dmem = c.dmem ∧ others c c' ∧ c'.slot ks.toNat = KeySlot.empty)) ∧
    (s.canIssue (.kexport g sl qa gh) → Issued s g (.kexport g sl qa gh) (fun c c' =>
      c.KeepsFiles c' ∧ c'.flight = c.flight ∧ c'.dmem = c.dmem ∧ c'.slots = c.slots ∧
      c'.kexp = c.kexp ++ [⟨BitVec.ofNat 256 (c0.rdQ qa.toNat + 2 ^ 128 * c0.rdQ (qa.toNat + 1)), (c0.rdG gh.toNat).v, now⟩]))) ∧
  (∀ (s : State) (g : CoreId),
    let c := s.core g
    let files (t : State) : Prop := (t.core g).g = c.g ∧ (t.core g).q = c.q ∧ (t.core g).dmem = c.dmem ∧ (t.core g).pc = c.pc
    (c.kloads = [] → ∀ ecc, exec (.kloadComplete g ecc) s = .next s) ∧
    (∀ l ls, c.kloads = l :: ls → s.vault.zeroAt = 0 → (c.slot l.ks).st = 1 → (c.slot l.ks).idx = l.idx →
      let x := (s.clu (g.val / 8)).skb.get SkbCtx.empty l.idx
      ∃ t, exec (.kloadComplete g .ok) s = .next t ∧ (t.core g).kloads = ls ∧ files t ∧ t.now = max s.now (l.at_ + 20) ∧
        (∀ n, n ≠ l.ks → (t.core g).slot n = c.slot n) ∧
        let k := (t.core g).slot l.ks
        (x.live = true → (x.keeper = true → l.keeper = true) →
          k.st = 2 ∧ k.key = x.key ∧ k.h = x.h ∧ k.ivb = x.ivb ∧ k.dir = x.dir ∧ k.idx = l.idx) ∧
        (x.live = false → k = { KeySlot.empty with loaderr := 1 }) ∧
        (x.live = true → x.keeper = true → l.keeper = false → k = { KeySlot.empty with loaderr := 2 })) ∧
    (c.kexp = [] → exec (.kexportComplete g) s = .next s) ∧
    (∀ x xs, c.kexp = x :: xs → ∃ t, exec (.kexportComplete g) s = .next t ∧ (t.core g).kexp = xs ∧ files t ∧
      let h := s.vault.handles.get none x.handle.toNat
      let err := ((t.core g).rdCr 37).v
      let takes : Prop := s.vault.zeroAt = 0 ∧ s.exportsBefore g x < 4 ∧ ∃ k, h = some k ∧ k.bound = some g.val
      (takes → err = 0 ∧ ∃ k, t.vault.handles.get none x.handle.toNat = some k ∧ k.secret = some x.secret) ∧
      (¬takes → t.vault = s.vault) ∧ (s.vault.zeroAt ≠ 0 → err = 3) ∧ (s.vault.zeroAt = 0 → 4 ≤ s.exportsBefore g x → err = 2) ∧
      (s.vault.zeroAt = 0 → s.exportsBefore g x < 4 → ¬takes → err = 1)))

/-- R236, R237, R246 to R254: the cipher operations on a key slot. VCTR INIT makes the IV from the descriptor's PN or
from q(VA), the tag mask E(K, IV || 1), and starts at counter block 2 with a zero accumulator; VCTR DATA encrypts the
counter block and steps the counter; VECB encrypts q(VA); VGHASH folds q(VA) into the accumulator; VTAG and VTAGCHK
finish the tag. -/
def Obligations.CipherOperations : Prop :=
  ∀ (s : State) (g : CoreId) (sl : Slot) (va vb vd vm : R5) (ks : R4) (fsel pd : R3),
    let c0 := s.found g
    let k0 := c0.slot ks.toNat
    let a := c0.rdQ va.toNat
    let aes (block : Nat) : Nat := aesQuad k0.keyBytes block
    let ra := k0.accR || ((c0.vTint va.toNat true).r)
    let tag := ghashMul (k0.acc.toNat ^^^ a) k0.h.toNat ^^^ k0.tmask.toNat
    let others (c c' : Core) : Prop := c.KeepsFiles c' ∧ c'.dmem = c.dmem ∧ ∀ n, n ≠ ks.toNat → c'.slot n = c.slot n
    let fixed (c' : Core) : Prop := (c'.slot ks.toNat).key = k0.key ∧ (c'.slot ks.toNat).h = k0.h ∧
      (c'.slot ks.toNat).ivb = k0.ivb ∧ (c'.slot ks.toNat).dir = k0.dir
    let starts (c' : Core) (iv : BitVec 96) : Prop := fixed c' ∧ (c'.slot ks.toNat).st = 3 ∧ (c'.slot ks.toNat).iv = iv ∧
      (c'.slot ks.toNat).tmask = BitVec.ofNat 128 (aes (ctrBlock iv 1)) ∧ (c'.slot ks.toNat).ctr = 2 ∧
      (c'.slot ks.toNat).acc = 0 ∧ (c'.slot ks.toNat).accR = false
    let whole (n : Nat) (v : Nat) (tl th : Tint) (lat : Nat) : Res := Res.of lat (fun k =>
      (k.wrLo n (halves v tl th).1).wrHi n (halves v tl th).2)
    (s.canIssue (.vctrInit g sl va ks true fsel) → Issued s g (.vctrInit g sl va ks true fsel) (fun c c' =>
      others c c' ∧ c'.flight = c.flight ∧ starts c' (BitVec.ofNat 96 a))) ∧
    (∀ d : Desc, c0.popped[fsel.toNat]? = some d → s.canIssue (.vctrInit g sl va ks false fsel) →
      Issued s g (.vctrInit g sl va ks false fsel) (fun c c' =>
        others c c' ∧ c'.flight = c.flight ∧ starts c' (ivOf k0.ivb (d.w2.toNat + 2 ^ 32 * d.w3.toNat)))) ∧
    (s.canIssue (.vctrData g sl vd va vm ks) → Issued s g (.vctrData g sl vd va vm ks) (fun c c' =>
      others c c' ∧ fixed c' ∧ (c'.slot ks.toNat).ctr = k0.ctr + 1 ∧ (c'.slot ks.toNat).acc = k0.acc ∧
      c.Adds c' [whole vd.toNat ((a ^^^ aes (ctrBlock k0.iv k0.ctr)) &&& c0.rdQ vm.toNat)
        ⟨(c0.rdLo va.toNat).t.k, k0.dir⟩ ⟨(c0.rdHi va.toNat).t.k, k0.dir⟩ 16])) ∧
    (s.canIssue (.vecb g sl vd va ks) → Issued s g (.vecb g sl vd va ks) (fun c c' =>
      others c c' ∧ fixed c' ∧ (c'.slot ks.toNat).ctr = k0.ctr ∧
      c.Adds c' [whole vd.toNat (aes a) ⟨true, (c0.vTint va.toNat true).r⟩ ⟨true, (c0.vTint va.toNat true).r⟩ 16])) ∧
    (s.canIssue (.vghash g sl va ks) → Issued s g (.vghash g sl va ks) (fun c c' =>
      others c c' ∧ fixed c' ∧ c'.flight = c.flight ∧ (c'.slot ks.toNat).accR = ra ∧
      (c'.slot ks.toNat).acc = BitVec.ofNat 128 (ghashMul (k0.acc.toNat ^^^ a) k0.h.toNat))) ∧
    (s.canIssue (.vtag g sl vd va ks) → Issued s g (.vtag g sl vd va ks) (fun c c' =>
      others c c' ∧ fixed c' ∧ (c'.slot ks.toNat).st = 2 ∧ c.Adds c' [whole vd.toNat tag ⟨false, ra⟩ ⟨false, ra⟩ 5])) ∧
    (s.canIssue (.vtagchk g sl pd va vb ks) → Issued s g (.vtagchk g sl pd va vb ks) (fun c c' =>
      others c c' ∧ fixed c' ∧ (c'.slot ks.toNat).st = 2 ∧
      c.Adds c' [Res.of 5 (fun k => k.wrP pd.toNat
        ⟨if tag = c0.rdQ vb.toNat then 0xFFFF else 0, ⟨false, ra || (c0.vTint vb.toNat true).r⟩⟩)]))

/-! The cores: bundles, exceptions, interrupts and sleep -/

/-- R141, R299: a bundle event runs the bundle that IMEM holds at the pc: where it holds one operation in its slot,
that operation's own command; but first the core takes what is due at the boundary, SYSCALL or KCALL, then cause 13,
15, 7 and a Lens halt. A core that is held, asleep or waiting in an entry does nothing. The place of SYSCALL and KCALL
in that order is the model's (log entry 10). R141, R157: every operation of a bundle computes its results from the
registers and key slots as the bundle found them, whatever else the bundle holds, and the bundle itself changes no
register of the g, a, o, m, accumulator, vector and predicate files. -/
def Obligations.BundleIssue : Prop :=
  (∀ (s : State) (g : CoreId),
    let c := s.found g
    let t := s.toBoundary g
    let live : Prop := (s.core g).live = true ∧ c.vrun = none
    let run := exec (.bundleIssue g .ok .ok) s
    (∀ i sl op, coreOp i = some (g, sl, op) → s.canIssue i = true → c.fetch c.pc.toNat = some ⟨[(sl, op)], 4 * opSyllables op⟩ →
      run = exec i s) ∧
    ((s.core g).live = false → run = .next s) ∧
    (∀ code sub gate, live → c.callPend = some (code, sub, gate) →
      run = .next (t.enter g ⟨false, code, sub, none, c.pc, if code = 9 then some gate else none⟩)) ∧
    (∀ sub a, live → c.callPend = none → c.imp13 = some (sub, a) → run = .next (t.except g 13 sub (some a))) ∧
    (∀ a, live → c.callPend = none → c.imp13 = none → c.imp15 = some a → run = .next (t.except g 15 0 (some a))) ∧
    (∀ x, live → c.callPend = none → c.imp13 = none → c.imp15 = none → c.imp7 = some x → run = .next (t.except g 7 0 none)) ∧
    (live → c.callPend = none → c.imp13 = none → c.imp15 = none → c.imp7 = none → c.haltReq = true → c.asyncOk = true →
      run = .next ((t.setCore g { c with haltReq := false }).except g 16 0 none))) ∧
  (∀ (c : Core) (e : Env) (b : Bundle), c.replay = none → c.vrun = none → b.ops.any (fun o => o.2 == .retx) = false →
    b.ops.any (fun o => opRun o.2) = false →
    let c' := c.issueCore e b
    c'.flight = (c.addFlights (b.ops.flatMap (fun o => c.opFlights c e o.1 c.pc (c.seqNext c.pc b.len) o.2))).flight ∧
    c'.g = c.g ∧ c'.a = c.a ∧ c'.o = c.o ∧ c'.m = c.m ∧ c'.acc = c.acc ∧ c'.q = c.q ∧ c'.p = c.p ∧ c'.issueCyc = c.issueCyc + 1)

/-- R147, R189, R191, R275, R289, R292: a command of a core whose bundle may not issue raises the first exception that
applies: misaligned target, access outside IMEM or across the Keeper boundary, illegal bundle, privileged instruction,
then TintFault. An annulled bundle takes its issue cycle and leaves every register and memory as it was. -/
def Obligations.BundleFaults : Prop :=
  ∀ (s : State) (i : Instr) (g : CoreId) (sl : Slot) (op : Op), coreOp i = some (g, sl, op) →
    let t := s.toBoundary g
    let c := s.found g
    let e := t.env g
    let ops := [(sl, op)]
    let succ := c.succOf op
    (s.core g).live = true → c.vrun = none → t.boundaryEntry g = none → c.replay = none →
    let annulled : Bool := decide (c.shLeft ≠ 0) && c.shAnnul
    let aligned : Prop := annulled = false ∧ c.pc.toNat % 4 = 0
    let inside : Prop := aligned ∧ c.pc.toNat < 0x20000 ∧ (c.inKeeper c.pc.toNat == (c.pl == 2)) = true
    let legal : Prop := inside ∧ slotOk op sl = true ∧ opLegal op = true ∧ c.dcLegal e c.pc succ 1 ops = true
    let ready : Prop := legal ∧ c.bundleStalls e c.pc succ ops = false
    (annulled = true → ∃ c', exec i s = .next (t.setCore g c') ∧ c.KeepsFiles c' ∧ c'.dmem = c.dmem ∧ c'.cr = c.cr ∧
      c'.slots = c.slots ∧ c'.far = c.far ∧ c'.issueCyc = c.issueCyc + 1 ∧ ∀ f ∈ c'.flight, f.live = true → f ∈ c.flight) ∧
    (annulled = false → c.pc.toNat % 4 ≠ 0 → exec i s = .next (t.except g 5 0 none)) ∧
    (aligned → 0x20000 ≤ c.pc.toNat ∨ (c.inKeeper c.pc.toNat == (c.pl == 2)) = false → exec i s = .next (t.except g 6 0 none)) ∧
    (inside → slotOk op sl = false ∨ opLegal op = false ∨ c.dcLegal e c.pc succ 1 ops = false →
      exec i s = .next (t.except g 4 0 none)) ∧
    (ready → c.opPrivileged e op = true → exec i s = .next (t.except g 3 0 none)) ∧
    (ready → c.opPrivileged e op = false → c.opTintTrig op ≠ 0 →
      exec i s = .next (t.tintFault g (slotCode sl) (c.opTintTrig op)))

/-- R301, R303, R304: an entry at User or Supervisor level with a valid TSBP saves the TSB and starts the handler:
STATUS, CAUSE, AEPC and the pc take their entry values, the loops end, VEI is 0, and every result still in flight is
in the TSB and no longer in flight. Nothing else of DMEM and of the core's registers differs, and no other core does.
R296, R307, R308: at Keeper level an entry aborts, and leaves no value in any register but the key slots; with EXL at
1 or an invalid TSBP it is a double fault, which writes its record and sets DFL; with DFL at 1, or bank 7 of DMEM not
the core's, it is a third fault, which resets and fences the core. -/
def Obligations.ExceptionEntry : Prop :=
  (∀ (s : State) (g : Nat) (x : Accept),
    let c := s.core g
    c.pl ≠ 2 → c.tsbOk = true → (x.sync = true → c.exl = false ∧ c.dfl = false) →
    let t := s.enter g x
    let u := t.core g
    let base := (c.rdCr 3).v.toNat - 0x100000
    let ta := if c.vrun = none ∧ c.replay ≠ none then c.issueCyc + 1 else c.issueCyc
    let pend := c.flight.filter (fun f => f.live && decide (ta < f.commit))
    let clean (v : Word) : TW := ⟨v, Tint.clean⟩
    let head (k : Nat) (v : Nat) : Prop := u.dmem.word (base + 8 * k) = ⟨BitVec.ofNat 64 v, Tint.clean⟩
    let saved (k : Nat) (r : TW) : Prop := u.dmem.word (base + 8 * k) = ⟨r.v.zeroExtend 64, r.t⟩
    let cause := (if x.int then 2 ^ 31 else 0) + x.sub % 2 ^ 16 * 256 + x.code % 256
    u.rdCr 0 = clean ((c.rdCr 0).v &&& 0xB00 ||| 0x400 ||| (if x.gate = none then 1 else 2)) ∧
    u.rdCr 1 = clean (BitVec.ofNat 32 cause) ∧ u.rdCr 2 = clean x.aepc ∧ u.rdCr 8 = tw0 ∧
    (∀ a, x.faddr = some a → u.rdCr 44 = clean a) ∧ (x.faddr = none → u.rdCr 44 = c.rdCr 44) ∧
    (∀ a, x.gate = some a → u.pc = a ∧ u.keeperAt = s.now) ∧
    (x.gate = none → x.int = true → u.pc = (c.rdCr 4).v + BitVec.ofNat 32 (0x40 * x.code)) ∧
    (x.gate = none → x.int = false → u.pc = BitVec.ofNat 32 ((if c.slotB then 0x10000 else 0) + 0x40 * x.code)) ∧
    (∀ n, u.lc.get tw0 n = tw0) ∧ u.ls = c.ls ∧ u.le = c.le ∧ u.shLeft = 0 ∧ u.flight = [] ∧ u.lock.active = false ∧
    u.g = c.g ∧ u.a = c.a ∧ u.o = c.o ∧ u.m = c.m ∧ u.acc = c.acc ∧ u.q = c.q ∧ u.p = c.p ∧ u.slots = c.slots ∧ u.imem = c.imem ∧
    (∀ n, n ∉ [0, 1, 2, 8, 19, 44] → u.rdCr n = c.rdCr n) ∧ (∀ h, h ≠ g → t.core h = s.core h) ∧
    head 0 (c.rdCr 0).v.toNat ∧ head 1 x.aepc.toNat ∧ head 2 cause ∧ head 5 (c.rdCr 8).v.toNat ∧
    head 3 (if c.shLeft = 0 then 0
      else c.shLeft % 4 + (if c.shAnnul then 4 else 0) + c.shNext.toNat * 2 ^ 32) ∧
    (∀ n, n < 3 → saved (6 + n) (c.lc.get tw0 n) ∧ saved (9 + n) (c.ls.get tw0 n) ∧ saved (12 + n) (c.le.get tw0 n)) ∧
    (∀ j f, pend[j]? = some f →
      u.dmem.word (base + 0x80 + 0x30 * j + 0x10) = f.v0 ∧ u.dmem.word (base + 0x80 + 0x30 * j + 0x18) = f.v1 ∧
      (u.dmem.word (base + 0x80 + 0x30 * j)).v.toNat % 64 = (f.commit - ta) % 64 ∧
      (u.dmem.word (base + 0x80 + 0x30 * j)).v.toNat / 2 ^ 12 % 16 = f.file % 16 ∧
      (u.dmem.word (base + 0x80 + 0x30 * j)).v.toNat / 2 ^ 16 % 64 = f.num % 64) ∧
    (∀ a, a < base ∨ base + 0x80 + 0x30 * pend.length ≤ a → u.dmem.b.get 0 a = c.dmem.b.get 0 a ∧ u.dmem.tint a = c.dmem.tint a) ∧
    (c.farBusy = false →
      u.ready = s.now + ((pend.map (fun f => f.commit - ta)).foldl max 0) + 8 + 3 * pend.length)) ∧
  (∀ (s : State) (g : Nat) (x : Accept),
    let c := s.core g
    let t := s.enter g x
    let u := t.core g
    let clean (v : Word) : TW := ⟨v, Tint.clean⟩
    let base := if c.slotB then 0x10000 else 0
    let word (k : Nat) : TD := u.dmem.word (0x1FF00 + 8 * k)
    let plainWord (n : Nat) : TD := ⟨BitVec.ofNat 64 n, Tint.clean⟩
    let faults : Prop := x.sync = true ∧ c.exl = true ∨ c.tsbOk = false
    let noted (cls : Nat) : Prop := (s.clu (g / 8)).errq.length < 8 → ∃ r ∈ (t.clu (g / 8)).errq, r.cls = cls ∧ r.index = g
    (c.pl = 2 →
      u.rdCr 0 = clean ((c.rdCr 0).v &&& 0xB00 ||| 0x401) ∧ u.rdCr 1 = clean (BitVec.ofNat 32 (x.code * 256 + 14)) ∧
      (∀ a, region (c.rdCr 3).v.toNat = .dmem → a = (c.rdCr 3).v.toNat - 0x100000 + 8 →
        u.rdCr 2 = clean (BitVec.ofNat 32 (c.dmem.val a 4))) ∧
      u.rdCr 44 = tw0 ∧ u.rdCr 8 = tw0 ∧ u.pc = BitVec.ofNat 32 (base + 0x380) ∧ u.flight = [] ∧
      (∀ n, u.rdG n = tw0 ∧ u.rdA n = tw0 ∧ u.rdO n = tw0 ∧ u.rdM n = tw0 ∧ u.rdAcc n = acc0 ∧ u.rdLo n = td0 ∧ u.rdHi n = td0 ∧
        u.rdP n = p0 ∧ u.lc.get tw0 n = tw0 ∧ u.ls.get tw0 n = tw0 ∧ u.le.get tw0 n = tw0) ∧
      u.slots = c.slots ∧ u.dmem = c.dmem ∧ (c.farBusy = false → u.ready = s.now + 8) ∧ noted 11) ∧
    (c.pl ≠ 2 → (x.sync = true → c.dfl = false) → faults → c.ownsBank 7 = true →
      u.rdCr 0 = clean ((c.rdCr 0).v &&& 0xB00 ||| 0xC01) ∧
      u.rdCr 1 = clean (BitVec.ofNat 32
        ((x.code % 256 + (if x.int then 256 else 0) + (if c.tsbOk then 0 else 512)) * 256 + 1)) ∧
      u.rdCr 2 = clean x.aepc ∧ u.rdCr 8 = tw0 ∧ (∀ n, u.lc.get tw0 n = tw0) ∧ u.pc = BitVec.ofNat 32 (base + 0x40) ∧
      u.flight = [] ∧ u.g = c.g ∧ u.a = c.a ∧ u.q = c.q ∧ u.p = c.p ∧ u.acc = c.acc ∧ u.slots = c.slots ∧
      word 0 = plainWord (c.rdCr 0).v.toNat ∧ word 1 = plainWord x.aepc.toNat ∧ word 2 = plainWord x.causeWord ∧
      word 3 = plainWord (c.rdCr 3).v.toNat ∧ word 4 = plainWord (u.rdCr 44).v.toNat ∧ word 5 = plainWord (c.rdCr 8).v.toNat ∧
      (∀ n, n < 3 → (word (6 + n)).v.toNat = (c.lc.get tw0 n).v.toNat ∧ (word (9 + n)).v.toNat = (c.ls.get tw0 n).v.toNat ∧
        (word (12 + n)).v.toNat = (c.le.get tw0 n).v.toNat) ∧
      word 15 = plainWord (c.flight.filter (fun f => f.live)).length ∧ (∀ k, 16 ≤ k → k < 32 → word k = td0) ∧
      (∀ a, a < 0x1FF00 ∨ 0x20000 ≤ a → u.dmem.b.get 0 a = c.dmem.b.get 0 a ∧ u.dmem.tint a = c.dmem.tint a) ∧
      (c.farBusy = false → u.ready = s.now + 16) ∧ noted 12) ∧
    (c.pl ≠ 2 → x.sync = true ∧ c.dfl = true ∨ faults ∧ c.ownsBank 7 = false →
      u.run = false ∧ u.resetSub = 3 ∧ u.flight = [] ∧ (∀ n, u.rdCr n = Core.reset.rdCr n) ∧ u.slots = [] ∧ u.dmem = c.dmem ∧
        u.imem = c.imem ∧ (g < 96 → t.rotState g = 6)))

/-- R293, R294, R477: SYSCALL and KCALL issue and leave a call that the next boundary takes, with AEPC the bundle's
successor; SLEEP begins a sleep, LIGHT unless it asks for DEEP with nothing outstanding and the core out of service.
R293, R294, R297, R303: a SYSCALL with a valid TSBP and EXL and DFL at 0 reaches, at the boundary after its bundle,
the vector of cause 8 at Supervisor level, and a KCALL its gate at Keeper level; AEPC, the TSB and CAUSE hold what the
entry saves. -/
def Obligations.SystemCalls : Prop :=
  (∀ (s : State) (g : CoreId) (sl : Slot) (code : BitVec 16) (rgn : BitVec 2) (gate : BitVec 6) (depth : BitVec 2),
    let c0 := s.found g
    let same (c c' : Core) : Prop := c.KeepsFiles c' ∧ c'.flight = c.flight ∧ c'.dmem = c.dmem ∧ c'.slots = c.slots ∧ c'.far = c.far
    let w := (c0.krgn.get 0 (4 * (if c0.slotB then 1 else 0) + rgn.toNat)).toNat
    let at_ := (if c0.slotB then 0x10000 else 0) + 64 * (w / 2 ^ 21 % 1024 + gate.toNat)
    let idle : Prop := c0.flight = [] ∧ c0.far = [] ∧ c0.kloads = [] ∧ c0.kexp = [] ∧ ((s.toBoundary g).env g).inService = false
    (s.canIssue (.syscall g sl code) → Issued s g (.syscall g sl code) (fun c c' =>
      same c c' ∧ c'.cr = c.cr ∧ c'.pc = c.succOf (.syscall code) ∧ c'.callPend = some (8, code.toNat, 0))) ∧
    (s.canIssue (.kcall g sl rgn gate) → Issued s g (.kcall g sl rgn gate) (fun c c' =>
      same c c' ∧ c'.cr = c.cr ∧ c'.pc = c.succOf (.kcall rgn gate) ∧
      c'.callPend = some (9, rgn.toNat * 256 + gate.toNat, BitVec.ofNat 32 at_))) ∧
    (s.canIssue (.sleep g sl depth) → Issued s g (.sleep g sl depth) (fun c c' =>
      same c c' ∧ c'.pc = c.succOf (.sleep depth) ∧ (∀ n, n ≠ 11 → c'.rdCr n = c.rdCr n) ∧
      ∃ d, c'.sleep = some ⟨d, (s.toBoundary g).now + 1⟩ ∧ c'.rdCr 11 = ⟨BitVec.ofNat 32 (d * 2 ^ 24), Tint.clean⟩ ∧
        (depth = 0 → d = 1) ∧ (depth = 1 → idle → d = 2) ∧ (c0.far ≠ [] → d = 1)))) ∧
  (∀ (s : State) (g : CoreId) (sl : Slot) (code : BitVec 16) (rgn : BitVec 2) (gate : BitVec 6),
    let c0 := s.found g
    let base := (c0.rdCr 3).v.toNat - 0x100000
    let clean (v : Word) : TW := ⟨v, Tint.clean⟩
    let w := (c0.krgn.get 0 (4 * (if c0.slotB then 1 else 0) + rgn.toNat)).toNat
    let image := if c0.slotB then 0x10000 else 0
    let enters (i : Instr) (succ : Word) (status cause : Word) (pc : Word) : Prop :=
      s.canIssue i → c0.tsbOk = true → c0.exl = false → c0.dfl = false →
      ∃ t u, exec i s = .next t ∧ exec (.bundleIssue g .ok .ok) t = .next u ∧
        let c := u.core g
        c.rdCr 0 = clean ((c0.rdCr 0).v &&& 0xB00 ||| status) ∧ c.rdCr 1 = clean cause ∧ c.rdCr 2 = clean succ ∧ c.pc = pc ∧
        c.callPend = none ∧ (c.dmem.word base).v.toNat = (c0.rdCr 0).v.toNat ∧ (c.dmem.word (base + 8)).v.toNat = succ.toNat ∧
        (c.dmem.word (base + 16)).v.toNat = cause.toNat
    enters (.syscall g sl code) (c0.succOf (.syscall code)) 0x401 (BitVec.ofNat 32 (code.toNat * 256 + 8)) (BitVec.ofNat 32 (image + 0x200)) ∧
    enters (.kcall g sl rgn gate) (c0.succOf (.kcall rgn gate)) 0x402
      (BitVec.ofNat 32 ((rgn.toNat * 256 + gate.toNat) * 256 + 9))
      (BitVec.ofNat 32 (image + 64 * (w / 2 ^ 21 % 1024 + gate.toNat))))

/-- R305, R306: RETX restores from the TSB at TSBP: STATUS, the loop registers with their tints, VEI, the shadow, the
pending results and the next bundle, with the slots of SLOT_DONE suppressed when REPLAY is 1. It changes no general
register and no memory. -/
def Obligations.ReturnFromException : Prop :=
  ∀ (s : State) (g : CoreId) (sl : Slot), s.canIssue (.retx g sl) →
    let c0 := s.found g
    let w (k : Nat) : TD := c0.dmem.word ((c0.rdCr 3).v.toNat - 0x100000 + 8 * k)
    let n := (w 4).v.toNat / 2 ^ 24 % 64
    let replay : Bool := (w 4).v.getLsbD 16
    let low (t : TD) : Word := t.v.extractLsb' 0 32
    Issued s g (.retx g sl) (fun c c' =>
      c.KeepsFiles c' ∧ c'.dmem = c.dmem ∧ c'.slots = c.slots ∧ c'.far = c.far ∧ c'.acc = c.acc ∧
      c'.rdCr 0 = ⟨low (w 0) &&& 0xF03, Tint.clean⟩ ∧ c'.rdCr 8 = ⟨low (w 5) &&& 0xF, Tint.clean⟩ ∧
      (∀ m, m ≠ 0 → m ≠ 8 → c'.rdCr m = c.rdCr m) ∧ c'.pc = low (w 1) ∧
      (∀ k, k < 3 → c'.lc.get tw0 k = ⟨low (w (6 + k)) &&& 0xFFFFFF, (w (6 + k)).t⟩ ∧
        c'.ls.get tw0 k = ⟨low (w (9 + k)), (w (9 + k)).t⟩ ∧
        c'.le.get tw0 k = ⟨low (w (12 + k)), (w (12 + k)).t⟩) ∧
      c'.shLeft = (w 3).v.toNat % 4 ∧ c'.shAnnul = (w 3).v.getLsbD 2 ∧ c'.shNext = (w 3).v.extractLsb' 32 32 ∧
      (replay = false → c'.replay = none) ∧
      (replay = true → ∃ l, c'.replay = some l ∧ ∀ k, k < 10 → (k ∈ l ↔ (w 4).v.getLsbD k = true)) ∧
      c'.ready = (s.toBoundary g).now + 8 + 3 * n ∧
      (∀ j, j < n → ∃ f ∈ c'.flight, f.live = true ∧ f.v0 = w (16 + 6 * j + 2) ∧ f.v1 = w (16 + 6 * j + 3) ∧
        f.commit = c'.issueCyc + (if replay then 1 else 0) + (w (16 + 6 * j)).v.toNat % 64 ∧
        f.file = (w (16 + 6 * j)).v.toNat / 2 ^ 12 % 16 ∧ f.num = (w (16 + 6 * j)).v.toNat / 2 ^ 16 % 64))

/-- R157, R159, R164, R181, R271: the oldest result whose commit point has come enters the registers that it names,
sets its flags, is counted where it clears a tag, and is no longer in flight; a result that is not due stays. -/
def Obligations.ResultCommit : Prop :=
  ∀ (s : State) (g : CoreId) (ecc : Ecc),
    let c := s.core g
    let run := exec (.resultCommit g ecc) s
    (c.flight = [] → run = .next s) ∧
    (∀ f fs, c.flight = f :: fs → c.issueCyc < f.commit → run = .next s) ∧
    (∀ f fs, c.flight = f :: fs → f.commit ≤ c.issueCyc → f.live = true → f.dload = none ∨ ecc = .ok →
      ∃ t, run = .next t ∧
        let u := t.core g
        let v := f.apply c
        u.flight = fs ∧ u.g = v.g ∧ u.a = v.a ∧ u.o = v.o ∧ u.m = v.m ∧ u.acc = v.acc ∧ u.q = v.q ∧ u.p = v.p ∧
        u.declCnt = c.declCnt + (if f.decl = 1 then 1 else 0) ∧ u.rclrCnt = c.rclrCnt + (if f.decl = 2 then 1 else 0) ∧
        (f.accov = true → (u.rdCr 19).v.getLsbD 3 = true) ∧ (f.satf = true → (u.rdCr 19).v.getLsbD 4 = true) ∧
        (∀ k, f.cond = k + 1 → k < 3 → (u.rdCr 19).v.getLsbD k = true) ∧
        (f.accov = false → f.satf = false → f.cond = 0 → u.cr = c.cr ∧ u.imp7 = c.imp7) ∧
        u.dmem = c.dmem ∧ u.imem = c.imem ∧ u.slots = c.slots ∧ u.pc = c.pc ∧ (∀ h : Nat, h ≠ g.val → t.core h = s.core h))

/-- R298, R299, R319, R320: a core that may accept takes the source presented to it, which is eligible, of the highest
PRI and then of the lowest ID: it becomes ACTIVE with this owner and heads the stack, and the entry has INT 1 and its
ID. With none presented the core takes ID 255 and SPURIOUS counts. A core that may not accept is as before. That the
source is chosen at the acceptance is the model's (log entry 17). R322: an end of interrupt, by its command or by MTC
to EVC_EOI after its bundle, clears ACTIVE of a source that this core owns and takes its entry from the stack,
counting in EOI_OOO when it was not on top; any other ID counts in EOI_STRAY. -/
def Obligations.InterruptDelivery : Prop :=
  (∀ (s : State) (g : CoreId),
    let t := s.toBoundary g
    let c := s.found g
    let run := exec (.interruptAccept g) s
    let spur := EVC_CNT (g.val / 8) (g.val % 8) 1
    let pri (i : Nat) : Nat := (t.rd (srcAddr (idKey g i) 0)).fld SRC_CFG_PRI
    let may : Prop := (s.core g).live = true ∧ (s.core g).atBoundary = true ∧ t.boundaryEntry g = none
    (may → c.asyncOk = false ∨ c.gie = false → run = .next s) ∧
    (∀ i, t.presented g = some i → t.eligible g i = true ∧ i < 255 ∧
      ∀ j, j < 255 → t.eligible g j = true → pri j < pri i ∨ pri j = pri i ∧ i ≤ j) ∧
    (∀ i, may → c.asyncOk = true → c.gie = true → t.presented g = some i →
      ∃ u, run = .next (u.enter g ⟨true, i, 0, none, c.pc, none⟩) ∧
        let x := t.src (idKey g i)
        let y := u.src (idKey g i)
        y.act = true ∧ y.pend = false ∧ y.owner = g.val % 8 ∧ y.occ = 0 ∧ (u.core g).stack = ⟨i, pri i, x.occ⟩ :: c.stack ∧
        (∀ k, k ≠ idKey g i → u.src k = t.src k) ∧ RegsBut [] t u) ∧
    (may → c.asyncOk = true → c.gie = true → t.presented g = none →
      ∃ u, run = .next (u.enter g ⟨true, 255, 0, none, c.pc, none⟩) ∧ u.rd64 spur = (t.rd64 spur + 1) % 2 ^ 64 ∧
        (u.core g).stack = c.stack ∧ u.srcs = t.srcs ∧ RegsBut [spur, spur + 4] t u)) ∧
  (∀ (s : State) (g : CoreId) (sl : Slot) (a : R6) (v : Word),
    let cnt (k : Nat) : Nat := EVC_CNT (g.val / 8) (g.val % 8) k
    let ended (s t : State) (id : Nat) : Prop :=
      let x := s.src (idKey g id)
      let own : Prop := id < 255 ∧ x.act = true ∧ x.owner = g.val % 8
      (own → t.src (idKey g id) = { x with act := false, owner := 0 } ∧ (∀ k, k ≠ idKey g id → t.src k = s.src k) ∧
        (t.core g).stack = (s.core g).stack.filter (fun e => e.id != id) ∧
        ((∃ e r, (s.core g).stack = e :: r ∧ e.id = id) → RegsBut [] s t) ∧
        (¬(∃ e r, (s.core g).stack = e :: r ∧ e.id = id) → t.rd64 (cnt 2) = (s.rd64 (cnt 2) + 1) % 2 ^ 64 ∧
          RegsBut [cnt 2, cnt 2 + 4] s t)) ∧
      (¬own → t.rd64 (cnt 0) = (s.rd64 (cnt 0) + 1) % 2 ^ 64 ∧ RegsBut [cnt 0, cnt 0 + 4] s t ∧ t.srcs = s.srcs ∧
        (t.core g).stack = (s.core g).stack)
    (∃ t, exec (.evcEoi g v) s = .next t ∧ ended s t (v.toNat % 256)) ∧
    (s.canIssue (.mtc g sl 46 a) → ∃ c' t, exec (.mtc g sl 46 a) s = .next t ∧ (s.found g).Keeps c' ∧
      ended ((s.toBoundary g).setCore g c') t (((s.found g).rdG a.toNat).v.toNat % 256) ∧ (t.core g).g = (s.found g).g ∧
      (t.core g).issueCyc = (s.found g).issueCyc + 1))

/-- R358, R359: LOCKSEQ, by its commands or by MTC after its bundle: BEGIN starts a sequence with BROKEN and BEATS 0
unless one is active; END ends it, at once or when its last access is performed, and its banks are free; 64 FCLK after
its first acquisition it is broken. -/
def Obligations.LockedSequences : Prop :=
  ∀ (s : State) (g : CoreId) (sl : Slot) (a : R6),
    let begun (c c' : Core) : Prop := (c.lock.active = false → c'.lock = { Lock.none with active := true }) ∧
      (c.lock.active = true → c'.lock = c.lock)
    let freed (t : State) : Prop := ∀ e ∈ (t.clu (g.val / 8)).holder, e.2 ≠ g.val + 1
    let ended (c c' : Core) (t : State) : Prop :=
      (c.lock.active = true → c.far.any (fun f => f.locked) = false → c'.lock.active = false ∧ c'.lock.held = [] ∧
        c'.lock.broken = c.lock.broken ∧ c'.lock.beats = c.lock.beats ∧ freed t) ∧
      (c.lock.active = true → c.far.any (fun f => f.locked) = true → c'.lock = { c.lock with ending := true }) ∧
      (c.lock.active = false → c'.lock = { c.lock with timedOut := false })
    let same (c c' : Core) : Prop := c'.g = c.g ∧ c'.q = c.q ∧ c'.dmem = c.dmem ∧ c'.far = c.far ∧ c'.cr = c.cr
    let x := ((s.found g).rdG a.toNat).v
    (∃ t, exec (.lockseqBegin g) s = .next t ∧ begun (s.core g) (t.core g) ∧ same (s.core g) (t.core g)) ∧
    (∃ t, exec (.lockseqEnd g) s = .next t ∧ ended (s.core g) (t.core g) t ∧ same (s.core g) (t.core g)) ∧
    ((s.core g).lock.active = true → (s.core g).lock.first ≠ 0 → ∃ t, exec (.lockseqTimeout g) s = .next t ∧
      (t.core g).lock.active = false ∧ (t.core g).lock.broken = true ∧ (t.core g).lock.held = [] ∧ (t.core g).lock.timedOut = true ∧
      freed t ∧ (∀ f ∈ (t.core g).far, f.locked = false) ∧ t.now = max s.now (2 * ((s.core g).lock.first + 63))) ∧
    ((s.core g).lock.active = false → exec (.lockseqTimeout g) s = .next s) ∧
    (s.canIssue (.mtc g sl 47 a) → ∃ t, exec (.mtc g sl 47 a) s = .next t ∧ same (s.found g) (t.core g) ∧
      (t.core g).issueCyc = (s.found g).issueCyc + 1 ∧
      (x.getLsbD 1 = true → ended (s.found g) (t.core g) t) ∧
      (x.getLsbD 1 = false → x.getLsbD 0 = true → begun (s.found g) (t.core g)) ∧
      (x.getLsbD 1 = false → x.getLsbD 0 = false → (t.core g).lock = (s.found g).lock))

/-- R476 to R480: a presented source with its AON_WAKE bit, or the sleep timer, wakes a sleeping core: it issues 8
CCLK later from LIGHT and 800 from DEEP, or in the next CCLK when the wake meets the request cycle, and SLEEP_STAT
records why. R295, R296, R299, R426: a core past its Keeper time aborts with SUB 31 at the next boundary; a Lens halt
enters with cause 16 where the core may accept it, waits where it may not, and in DEPLOYED is refused with source 50.
-/
def Obligations.SleepAndWake : Prop :=
  (∀ (s : State) (g : CoreId),
    let c := s.core g
    let stat (u : State) : Word := ((u.core g).rdCr 11).v
    let woken (x : Sleep) (at_ : Nat) (u : State) : Prop :=
      let w := max at_ x.at_
      (u.core g).sleep = none ∧ u.now = w ∧
      (u.core g).ready = (if w = x.at_ then w + 1 else w + (if x.depth = 2 then 800 else 8)) ∧
      (stat u).getLsbD 31 = decide (w = x.at_) ∧ (stat u) &&& 0x3000000 = (c.rdCr 11).v &&& 0x3000000 ∧
      (u.core g).g = c.g ∧ (u.core g).pc = c.pc ∧ (u.core g).flight = c.flight ∧ (u.core g).dmem = c.dmem ∧
      (∀ n, n ≠ 11 → (u.core g).rdCr n = c.rdCr n)
    (c.sleep = none → exec (.coreWake g) s = .next s ∧ exec (.sleepTimerExpire g) s = .next s) ∧
    (∀ x i, c.sleep = some x → s.presented g = some i → (s.rd (AON_WAKE g (i / 32))).getLsbD (i % 32) = true →
      ∃ u, exec (.coreWake g) s = .next u ∧ woken x s.now u ∧ (stat u).getLsbD 8 = true ∧ stat u &&& 0xFF = BitVec.ofNat 32 i ∧
        (stat u).getLsbD 30 = false ∧ u.rd (AON_WSRC g) = BitVec.ofNat 32 (2 ^ 31 + i) ∧ RegsBut [AON_WSRC g] s u) ∧
    (∀ i, s.presented g = some i → (s.rd (AON_WAKE g (i / 32))).getLsbD (i % 32) = false → exec (.coreWake g) s = .next s) ∧
    (∀ x, c.sleep = some x → (c.rdCr 48).v ≠ 0 → ∃ u, exec (.sleepTimerExpire g) s = .next u ∧
      woken x (max s.now (x.at_ + 20 * (c.rdCr 48).v.toNat)) u ∧ (stat u).getLsbD 30 = true ∧ (stat u).getLsbD 8 = false ∧
      RegsBut [] s u) ∧
    (∀ x, c.sleep = some x → (c.rdCr 48).v = 0 → exec (.sleepTimerExpire g) s = .next s)) ∧
  (∀ (s : State) (g : CoreId),
    let c := s.core g
    let quiet : Prop := c.live = true ∧ c.vrun = none ∧ c.flight = [] ∧ c.callPend = none ∧ c.imp13 = none ∧ c.imp15 = none ∧
      c.imp7 = none
    let image := if c.slotB then 0x10000 else 0
    (c.pl ≠ 2 → exec (.keeperTimeLimit g) s = .next s) ∧
    (quiet → c.pl = 2 → ∃ u, exec (.keeperTimeLimit g) s = .next u ∧
      (u.core g).rdCr 1 = ⟨BitVec.ofNat 32 (31 * 256 + 14), Tint.clean⟩ ∧
      (u.core g).pl = 1 ∧ (u.core g).exl = true ∧ (u.core g).pc = BitVec.ofNat 32 (image + 0x380) ∧ (u.core g).g = [] ∧
      (u.core g).q = [] ∧ (u.core g).acc = [] ∧ c.keeperAt + c.keeperLimit.toNat < u.now) ∧
    (s.lcState = 2 → exec (.lensHalt g) s = .next (s.raiseDev 50)) ∧
    (s.lcState ≠ 2 → c.run = false → exec (.lensHalt g) s = .next s) ∧
    (s.lcState ≠ 2 → quiet → c.asyncOk = true → c.tsbOk = true → ∃ u, exec (.lensHalt g) s = .next u ∧
      (u.core g).rdCr 1 = ⟨BitVec.ofNat 32 16, Tint.clean⟩ ∧ (u.core g).rdCr 2 = ⟨c.pc, Tint.clean⟩ ∧ (u.core g).pl = 1 ∧
      (u.core g).pc = BitVec.ofNat 32 (image + 0x400) ∧ (u.core g).haltReq = false ∧ (u.core g).g = c.g) ∧
    (s.lcState ≠ 2 → quiet → c.run = true → c.asyncOk = false → ∃ u, exec (.lensHalt g) s = .next u ∧
      (u.core g).haltReq = true ∧ (u.core g).pc = c.pc ∧ (u.core g).g = c.g ∧ (u.core g).cr = c.cr))

/-! Keys, mailbox, images and lifecycle -/

/-- R399, R400, R536 to R538, R545: GO takes the next generation, sets BUSY and raises source 60, and the Warden that
listens takes the command of 16 + LEN bytes; a GO before the ACK only counts in MBX_STRAY. ACK clears RSP_VALID and
TIMEOUT. After MBX_TMO ms of BUSY the timeout ends it. A command whose SEQ is neither the next nor a repeat gets
BAD_SEQ, a repeat the stored response, one of another LEN BAD_LEN, and one that its lifecycle state bars BAD_STATE. -/
def Obligations.MailboxTransport : Prop :=
  ∀ (s : State) (c : List Byte),
    let m := s.mbx
    let quiet : Prop := m.busy = false ∧ m.rspValid = false ∧ m.timeout = false
    let len := leNat (m.cmd.getRange 0 8 4)
    let bytes := m.cmd.getRange 0 0 (16 + min len 16400)
    let m1 := { m with gen := (m.gen + 1) % 256, busy := true, goAt := s.now }
    let told (t : State) : Prop := t = { s.signals t with mbx := t.mbx }
    let waits : Prop := m.wq = [(m.gen, c)] ∧ m.busy = true ∧ m.held = none ∧ s.wardenListens = true ∧ cmdOp c = 0x02
    let reply (r : List Byte) : Mbx := { m with wq := [], rsp := r, busy := false, rspValid := true }
    (¬quiet → Does s .mbxGo fun t => t.rd64 (HOSTIF_CNT 4) = (s.rd64 (HOSTIF_CNT 4) + 1) % 2 ^ 64 ∧
      RegsBut [HOSTIF_CNT 4, HOSTIF_CNT 4 + 4] s t ∧ t = { s with regs := t.regs }) ∧
    (quiet → s.wardenListens = false → Does s .mbxGo fun t => told t ∧ t.mbx = m1 ∧
      (t.src (devKey 60)).occ = min ((s.src (devKey 60)).occ + 1) 255) ∧
    (quiet → s.wardenListens = true → m.wq = [] → cmdOp bytes ∈ opcodes → Does s .mbxGo fun t => told t ∧
      t.mbx = { m1 with wq := [(m1.gen, bytes)] } ∧ (t.src (devKey 60)).occ = min ((s.src (devKey 60)).occ + 1) 255) ∧
    Does s .mbxAck (fun t => t = { s with mbx := { m with rspValid := false, timeout := false } }) ∧
    (m.busy = true → Does s .mbxTimeout fun t => t = { s.signals t with now := t.now, mbx := t.mbx } ∧ t.srcs = s.srcs ∧
      t.now = max s.now (m.goAt + 2000000 * max 10 ((s.rd MBX_TMO).toNat % 65536)) ∧
      t.mbx = { m with busy := false, timeout := true }) ∧
    (m.busy = false → Does s .mbxTimeout fun t => t = s) ∧
    (waits → ∀ q, m.lastSeq = some q → cmdSeq c ≠ q + 1 →
      (cmdSeq c ≠ q ∨ c ≠ m.lastCmd → Does s .getRandom fun t => told t ∧ t.mbx = reply (rspBytes c 3 [])) ∧
      (cmdSeq c = q → c = m.lastCmd → Does s .getRandom fun t => told t ∧ t.mbx = reply m.lastRsp)) ∧
    (waits → m.lastSeq = none → cmdSeq c = 0 → cmdLen c ≠ 4 → Does s .getRandom fun t => told t ∧ t.mbx = m.answered c 2 []) ∧
    (waits → m.lastSeq = none → cmdSeq c = 0 → cmdLen c = 4 → s.lcState = 0 ∨ s.lcState = 3 →
      Does s .getRandom fun t => told t ∧ t.mbx = m.answered c 4 [])

/-- R2, R83 to R86, R401, R402, R407, R430, R434: GET_INFO answers the identification, LC_STAT, the Warden's and the
cores' SVN and VAULT_STAT; GET_RANDOM n bytes of the public port; GET_CHALLENGE the nonce of the next signed command;
SA_STATUS the SA's registers; IDENT_GET this device's keys. The bytes of the keys are the model's free values (log
entry 8). -/
def Obligations.MailboxReports : Prop :=
  ∀ (s : State) (c : List Byte),
    let p := c.drop 16
    let sa := fieldAt p 0 2
    let n := fieldAt p 0 4
    let up : Prop := s.lcState = 1 ∨ s.lcState = 2
    let free (k : Nat) : List Byte := (List.range k).flatMap fun i => toLE 8 (Config.freeDWord (s.free + i)).toNat
    let told (t : State) (payload : List Byte) : Prop := t.mbx = s.mbx.answered c 0 payload ∧ t.srcs = s.srcs
    let just (t : State) : Prop := t = { s.signals t with mbx := t.mbx }
    let drew (k : Nat) (t : State) : Prop := t = { s.signals t with mbx := t.mbx, vault := t.vault, free := s.free + k } ∧
      t.vault = { s.vault with requests := s.vault.requests + k, challenge := t.vault.challenge }
    let w (a : Nat) : List Byte := toLE 4 (s.rd a).toNat
    let d (a : Nat) : List Byte := toLE 8 (s.rd64 a)
    (s.mails 0x01 0 c → Does s .getInfo fun t => just t ∧ told t (toLE 4 idcode.toNat ++ toLE 4 s.lcStat.toNat ++
      toLE 4 s.warden.svn ++ toLE 4 s.fuses.coreSvn ++ toLE 4 s.vaultStat.toNat)) ∧
    (s.mails 0x02 4 c → up → 8 ≤ n → n ≤ 4096 → n % 8 = 0 → s.trngOk = true → Does s .getRandom fun t =>
      drew (n / 8) t ∧ t.vault.challenge = s.vault.challenge ∧ told t (free (n / 8))) ∧
    (s.mails 0x02 4 c → up → n < 8 ∨ 4096 < n ∨ n % 8 ≠ 0 → Does s .getRandom fun t => just t ∧ t.mbx = s.mbx.answered c 5 []) ∧
    (s.mails 0x03 0 c → s.trngOk = true → Does s .getChallenge fun t => drew 4 t ∧ told t (free 4) ∧
      t.vault.challenge = some (BitVec.ofNat 256 (leNat (free 4)))) ∧
    (s.mails 0x03 0 c → s.trngOk = false → Does s .getChallenge fun t => just t ∧ t.mbx = s.mbx.answered c 11 []) ∧
    (s.mails 0x16 2 c → up → sa < 4096 → s.saBusy sa = false → Does s .saStatus fun t => just t ∧
      told t (w (SA_CFG sa) ++ w (SA_HOME sa) ++ w (SA_KEY sa) ++ w (SA_STAT sa) ++ d (SA_NEXT_PN sa 0) ++ d (SA_PN_LIMIT sa 0) ++
        d (SA_NEXT_PN sa 1) ++ d (SA_PN_LIMIT sa 1))) ∧
    (s.mails 0x16 2 c → up → sa < 4096 → s.saBusy sa = true → Does s .saStatus fun t => just t ∧ t.mbx = s.mbx.answered c 8 []) ∧
    (s.mails 0x24 0 c → up → ∀ seed, s.root.ident = some seed → ∀ prov, s.root.prov = some prov → Does s .identGet fun t => just t ∧
      told t (fitTo 0 2592 (Config.mldsaPublic (toBE 32 seed.toNat)) ++ fitTo 0 1568 (Config.mlkemKeys (toBE 64 prov.toNat)).1)) ∧
    (s.mails 0x24 0 c → up → s.root.ident = none ∨ s.root.prov = none → Does s .identGet fun t => just t ∧
      t.mbx = s.mbx.answered c 10 [])

/-- R80, R83 to R86, R401, R403, R412, R445, R517: SA_CREATE writes the SA's registers and the first free of the 8
lookup positions; SA_DELETE clears VALID, the lookup entry and both KVs and retires the live keys; SA_UPDATE writes
the homes, the epoch and the window, with the live keys first in each added home; SA_PROTECT writes REPL_STAT and, to
and from MODE 2, VALID. For an SA of MODE 1 the messages of log entry 66 go too. R410 to R412, R414 to R416:
KEY_IMPORT unwraps the key, which enters the vault, every home cluster at the lowest index free in all of them, and
then the SA's registers; KE_RESPOND and KE_FINISH do the same with the key that they derive; KE_INIT opens a handle
with DK K-tinted in its buffer; KE_ABORT closes one; KEY_ACTIVATE writes ACTIVE and KEY_RETIRE clears KV and starts
the retirement. The functions of FIPS 203 and 204 are constants of the model (log entry 8). -/
def Obligations.SaAndKeyCommands : Prop :=
  (∀ (s : State) (c : List Byte) (i : Nat),
    let p := c.drop 16
    let b (o : Nat) : Nat := fieldAt p o 1
    let sa := fieldAt p 0 2
    let up : Prop := (s.lcState = 1 ∨ s.lcState = 2) ∧ sa < 4096 ∧ s.saBusy sa = false
    let answer (t : State) : Prop := t.mbx = s.mbx.answered c 0 []
    let key := s.rd (SA_KEY sa)
    let live := [false, true].filter fun k => keyLive key k
    let old := homesOf (s.rd (SA_HOME sa))
    let new := (List.range (b 2 + 1)).map fun n => b (4 + n)
    let gone := (old.filter fun h => !new.contains h).eraseDups
    let work (homes : List Nat) (erase delete : Bool) : List Retire :=
      live.map fun k => ⟨sa, k, keySkb key k, s.retireAt sa, homes, erase, delete⟩
    (s.mails 0x10 40 c → up → b 11 = 0 → saArgsOk p = true → s.saExists sa = false → s.epochOk (b 7) = true → s.replMode sa ≠ 1 →
      (lookupPos (b 2) (b 8) (b 9) (fieldAt p 16 8)).find? (fun i => s.fld (LKUP_CTL i) LKUP_CTL_VALID == 0) = some i →
      Does s .saCreate fun t => answer t ∧
        t.vault = { s.vault with ivid := s.vault.ivid.set none sa (some (BitVec.ofNat 64 (fieldAt p 24 8))) } ∧
        t = { s.signals t with regs := t.regs, wlog := t.wlog, wlogAt := t.wlogAt, bitmap := t.bitmap, mbx := t.mbx, vault := t.vault } ∧
        t.srcs = s.srcs ∧ SMap.But 0 [2 * sa, 2 * sa + 1] s.bitmap t.bitmap ∧
        t.bitmap.get 0 (2 * sa) = 0 ∧ t.bitmap.get 0 (2 * sa + 1) = 0 ∧
        t.fld (SA_CFG sa) SA_CFG_VALID = 1 ∧ t.fld (SA_CFG sa) SA_CFG_DIR = b 2 ∧ t.fld (SA_CFG sa) SA_CFG_FORMAT = b 3 ∧
        t.fld (SA_CFG sa) SA_CFG_REPLAY_MODE = b 4 ∧ t.fld (SA_CFG sa) SA_CFG_INTEG_ONLY = b 5 ∧
        t.fld (SA_CFG sa) SA_CFG_EGRESS_PORT = b 6 ∧ t.fld (SA_CFG sa) SA_CFG_EPOCH = b 7 ∧
        t.fld (LKUP_CTL i) LKUP_CTL_VALID = 1 ∧ t.fld (LKUP_CTL i) LKUP_CTL_SIDE = b 2 ∧
          t.fld (LKUP_CTL i) LKUP_CTL_KEY_TYPE = b 8 ∧
        t.fld (LKUP_CTL i) LKUP_CTL_PORT = b 9 ∧ t.fld (LKUP_CTL i) LKUP_CTL_SA_INDEX = sa ∧ t.rd64 (LKUP_KEY i) = fieldAt p 16 8 ∧
        t.fld (SA_HOME sa) SA_HOME_HOME_COUNT = b 10 ∧ t.fld (SA_HOME sa) SA_HOME_HOME0 = b 12 ∧
        t.fld (SA_HOME sa) SA_HOME_HOME1 = b 13 ∧ t.fld (SA_HOME sa) SA_HOME_HOME2 = b 14 ∧
          t.fld (SA_HOME sa) SA_HOME_HOME3 = b 15 ∧
        t.rd (SA_KEY sa) = 0 ∧ t.rd (SA_STAT sa) = 0 ∧ t.rd (SA_REPLAY_WIN sa) = BitVec.ofNat 32 (fieldAt p 32 4) ∧
        t.rd (SA_PN_WARN sa) = BitVec.ofNat 32 (fieldAt p 36 4) ∧
        (∀ k : Fin 2, t.rd64 (SA_NEXT_PN sa k) = 1 ∧ t.rd64 (SA_PN_LIMIT sa k) = 0) ∧
        RegsBut ([SA_CFG sa, SA_HOME sa, SA_KEY sa, SA_STAT sa, SA_REPLAY_WIN sa, SA_PN_WARN sa, LKUP_CTL i, LKUP_KEY i, LKUP_KEY i + 4]
          ++ (List.range 2).flatMap fun k => [SA_NEXT_PN sa k, SA_NEXT_PN sa k + 4, SA_PN_LIMIT sa k, SA_PN_LIMIT sa k + 4]) s t) ∧
    (s.mails 0x11 2 c → up → s.saExists sa = true → s.replMode sa ≠ 1 → s.saEntry sa = some i → Does s .saDelete fun t => answer t ∧
      t = { s.signals t with regs := t.regs, wlog := t.wlog, wlogAt := t.wlogAt, mbx := t.mbx, vault := t.vault } ∧
        t.srcs = s.srcs ∧
      t.vault = { s.vault with ivid := t.vault.ivid, retiring := s.vault.retiring ++ work old true true } ∧
      t.vault.ivid = (if live = [] then s.vault.ivid.set none sa none else s.vault.ivid) ∧
      t.rd (SA_CFG sa) = s.rd (SA_CFG sa) &&& 0x7FFFFFFF ∧ t.rd (LKUP_CTL i) = 0 ∧ t.rd64 (LKUP_KEY i) = 0 ∧
        t.rd (REPL_STAT sa) = 0 ∧
      keyLive (t.rd (SA_KEY sa)) false = false ∧ keyLive (t.rd (SA_KEY sa)) true = false ∧
      RegsBut [SA_CFG sa, SA_KEY sa, SA_STAT sa, LKUP_CTL i, LKUP_KEY i, LKUP_KEY i + 4, REPL_STAT sa] s t) ∧
    (s.mails 0x12 12 c → up → homesOk (b 2) (homeBytes p 4) = true → s.saExists sa = true → s.epochOk (b 3) = true →
      (∀ k ∈ live, ∀ h ∈ new, h ∉ old → ((s.clu h).ctx (keySkb key k)).live = false ∧ keySkb key k ∉ (s.clu h).restore) →
      Does s .saUpdate fun t => answer t ∧
        t = { s.signals t with regs := t.regs, wlog := t.wlog, wlogAt := t.wlogAt, mbx := t.mbx, cl := t.cl, vault := t.vault } ∧
        t.srcs = s.srcs ∧ t.vault = { s.vault with retiring := s.vault.retiring ++ (if gone = [] then [] else work gone false false) } ∧
        (∀ h : Fin 12, t.clu h = { s.clu h with skb := (t.clu h).skb } ∧ (h.val ∉ new ∨ h.val ∈ old →
          (t.clu h).skb = (s.clu h).skb) ∧
          ∀ k : Bool, ∀ x, s.vault.keys.get none (2 * sa + b2n k) = some x → keyLive key k = true →
            (∀ y, s.vault.keys.get none (2 * sa + b2n (!k)) = some y → y.idx ≠ x.idx) →
            h.val ∈ new → h.val ∉ old → (t.clu h).ctx x.idx = s.keyCtx sa k x) ∧
        t.fld (SA_HOME sa) SA_HOME_HOME_COUNT = b 2 ∧ t.fld (SA_HOME sa) SA_HOME_HOME0 = b 4 ∧
          t.fld (SA_HOME sa) SA_HOME_HOME1 = b 5 ∧
        t.fld (SA_HOME sa) SA_HOME_HOME2 = b 6 ∧ t.fld (SA_HOME sa) SA_HOME_HOME3 = b 7 ∧ t.fld (SA_CFG sa) SA_CFG_EPOCH = b 3 ∧
        t.rd (SA_CFG sa) &&& 0xFFF00FFF = s.rd (SA_CFG sa) &&& 0xFFF00FFF ∧
          t.rd (SA_REPLAY_WIN sa) = BitVec.ofNat 32 (fieldAt p 8 4) ∧
        RegsBut [SA_HOME sa, SA_CFG sa, SA_REPLAY_WIN sa] s t) ∧
    (s.mails 0x42 4 c → up → b 2 ≤ 2 → b 3 ≤ 1 → s.saExists sa = true → s.root.kekRepl.isSome = true → Does s .saProtect fun t =>
      t.mbx = s.mbx.answered c 0 [] ∧ t.cl = s.cl ∧ t.vault = s.vault ∧ t.srcs = s.srcs ∧
      t.fld (REPL_STAT sa) REPL_STAT_MODE = b 2 ∧ t.fld (REPL_STAT sa) REPL_STAT_RING_DIR = b 3 ∧
      t.fld (REPL_STAT sa) REPL_STAT_PEER = s.fld (RING_SPILL_DIR (b 3)) RING_SPILL_DIR_TARGET ∧
      t.fld (SA_CFG sa) SA_CFG_VALID = (if b 2 = 2 then 0 else if s.replMode sa = 2 then 1 else s.fld (SA_CFG sa) SA_CFG_VALID) ∧
      t.rd (SA_CFG sa) &&& 0x7FFFFFFF = s.rd (SA_CFG sa) &&& 0x7FFFFFFF ∧ t.rd (SA_KEY sa) = key ∧
      (b 2 ≠ 1 → RegsBut [REPL_STAT sa, SA_CFG sa] s t ∧ t.ring = s.ring) ∧
      (b 2 = 1 → s.ring.seqOf.get 0 sa < t.ring.seqOf.get 0 sa ∧ t.ring.resyncSeq.get 0 sa = t.ring.seqOf.get 0 sa))) ∧
  (∀ (s : State) (c : List Byte) (idx : Nat),
    let p := c.drop 16
    let b (o : Nat) : Nat := fieldAt p o 1
    let up : Prop := s.lcState = 1 ∨ s.lcState = 2
    let free (o k : Nat) : List Byte := (List.range k).flatMap fun i => toLE 8 (Config.freeDWord (s.free + o + i)).toNat
    let usable (r : KeyReq) : Prop := s.keyReq (toLE 2 r.sa ++ [BitVec.ofNat 8 (b2n r.key), BitVec.ofNat 8 r.an] ++ toLE 8 r.np ++ toLE 8 r.lim) = .inr r
    let r0 : KeyReq := ⟨fieldAt p 0 2, b 2 == 1, b 3, fieldAt p 4 8, fieldAt p 12 8⟩
    let fits (sa : Nat) : Prop :=
      let open_ (j : Nat) : Prop := ∀ h ∈ homesOf (s.rd (SA_HOME sa)), ((s.clu h).ctx j).live = false ∧ j ∉ (s.clu h).restore
      idx < 1024 ∧ open_ idx ∧ ∀ j, j < idx → ¬open_ j
    let installed (r : KeyReq) (plain : List Byte) (t : State) : Prop :=
      let i := 2 * r.sa + b2n r.key
      let x : KeyCopy := ⟨BitVec.ofNat 256 (beNat (bytesAt plain 0 32)), BitVec.ofNat 96 (beNat (bytesAt plain 32 12)),
        BitVec.ofNat 32 (beNat (bytesAt plain 44 4)), idx⟩
      let w := t.rd (SA_KEY r.sa)
      let o := s.rd (SA_KEY r.sa)
      t.vault.keys = s.vault.keys.set none i (some x) ∧ i ∉ t.vault.zeroKeys ∧ t.vault.ivid = s.vault.ivid ∧
      (∀ h : Fin 12, t.clu h = { s.clu h with skb := (t.clu h).skb } ∧ SMap.But SkbCtx.empty [idx] (s.clu h).skb (t.clu h).skb ∧
        (t.clu h).ctx idx = if h.val ∈ homesOf (s.rd (SA_HOME r.sa)) then s.keyCtx r.sa r.key x else (s.clu h).ctx idx) ∧
      t.flag VAULT_STAT VAULT_STAT_ZEROISED = false ∧ t.rd64 (SA_NEXT_PN r.sa (b2n r.key)) = r.np ∧
      t.rd64 (SA_PN_LIMIT r.sa (b2n r.key)) = r.lim ∧ t.bitmap.get 0 i = 0 ∧ t.flag (SA_STAT r.sa) SA_STAT_STOPPED = false ∧
      keyLive w r.key = true ∧ keyAn w r.key = r.an ∧ keySkb w r.key = idx ∧ w.fld SA_KEY_ACTIVE = o.fld SA_KEY_ACTIVE ∧
      keyLive w (!r.key) = keyLive o (!r.key) ∧ keyAn w (!r.key) = keyAn o (!r.key) ∧ keySkb w (!r.key) = keySkb o (!r.key) ∧
      (s.replMode r.sa ≠ 1 → RegsBut [VAULT_STAT, SA_KEY r.sa, SA_STAT r.sa, SA_NEXT_PN r.sa (b2n r.key), SA_NEXT_PN r.sa (b2n r.key) + 4,
        SA_PN_LIMIT r.sa (b2n r.key), SA_PN_LIMIT r.sa (b2n r.key) + 4] s t)
    let answer (r : KeyReq) (payload : List Byte) (t : State) : Prop :=
      (s.replMode r.sa ≠ 1 → t.mbx = s.mbx.answered c 0 payload ∧ t.ring = s.ring) ∧
      (s.replMode r.sa = 1 → t.mbx.held = some (s.mbx.gen, rspBytes c 0 payload) ∧ t.mbx.busy = true)
    let kernel (g n : Nat) (t : State) : Prop := (t.src (prKey g 10)).occ = min ((s.src (prKey g 10)).occ + 1) 255 ∧
      t.core g = { s.core g with declCnt := (s.core g).declCnt + Config.freeDWord (s.free + n) } ∧
        SMap.But Core.reset [g] s.cores t.cores
    let sa := fieldAt p 0 2
    let k := b 2 == 1
    let w0 := s.rd (SA_KEY sa)
    let named : Prop := sa < 4096 ∧ b 2 ≤ 1 ∧ s.saBusy sa = false ∧ keyLive w0 k = true
    (s.mails 0x13 76 c → up → b 2 ≤ 1 → usable r0 → fits r0.sa → ∀ kek, s.root.kekImport = some kek →
      ∀ plain, aesUnwrapBytes kek (bytesAt p 20 56) = some plain →
      Does s .keyImport fun t => installed r0 plain t ∧ answer r0 (toLE 2 idx) t ∧ t.cores = s.cores ∧
        t.vault.handles = s.vault.handles) ∧
    (s.mails 0x13 76 c → up → b 2 ≤ 1 → usable r0 → ∀ kek, s.root.kekImport = some kek →
      aesUnwrapBytes kek (bytesAt p 20 56) = none →
      Does s .keyImport fun t => t = { s.signals t with mbx := t.mbx } ∧ t.mbx = s.mbx.answered c 7 []) ∧
    (s.mails 0x14 3 c → up → named → s.flag (SA_CFG sa) SA_CFG_DIR = false → Does s .keyActivate fun t =>
      t.rd (SA_KEY sa) &&& 0x6F0FFFFF = w0 &&& 0x6F0FFFFF ∧ (t.rd (SA_KEY sa)).fld SA_KEY_ACTIVE = b2n k ∧
      t.flag (SA_STAT sa) SA_STAT_STOPPED = false ∧ t.vault = s.vault ∧ t.cl = s.cl ∧ t.cores = s.cores ∧
      (s.replMode sa ≠ 1 → RegsBut [SA_KEY sa, SA_STAT sa] s t) ∧
      (s.replMode sa ≠ 1 ∨ w0.fld SA_KEY_ACTIVE = b2n k → t.mbx = s.mbx.answered c 0 []) ∧
      (s.replMode sa = 1 → w0.fld SA_KEY_ACTIVE ≠ b2n k → t.mbx.held = some (s.mbx.gen, rspBytes c 0 []))) ∧
    (s.mails 0x14 3 c → up → named → s.flag (SA_CFG sa) SA_CFG_DIR = true → Does s .keyActivate fun t =>
      t = { s.signals t with mbx := t.mbx } ∧ t.mbx = s.mbx.answered c 5 []) ∧
    (s.mails 0x15 3 c → up → named → s.flag (SA_CFG sa) SA_CFG_DIR = true ∨ w0.fld SA_KEY_ACTIVE ≠ b2n k →
      Does s .keyRetire fun t =>
      answer ⟨sa, k, 0, 0, 0⟩ [] t ∧ keyLive (t.rd (SA_KEY sa)) k = false ∧ keyLive (t.rd (SA_KEY sa)) (!k) = keyLive w0 (!k) ∧
      (s.replMode sa ≠ 1 → RegsBut [SA_KEY sa, SA_STAT sa] s t) ∧ t.cl = s.cl ∧ t.cores = s.cores ∧
        t.vault = { s.vault with retiring := s.vault.retiring ++
        [⟨sa, k, keySkb w0 k, s.retireAt sa, homesOf (s.rd (SA_HOME sa)), true, false⟩] }) ∧
    (s.mails 0x15 3 c → up → named → s.flag (SA_CFG sa) SA_CFG_DIR = false → w0.fld SA_KEY_ACTIVE = b2n k →
      Does s .keyRetire fun t =>
      t = { s.signals t with mbx := t.mbx } ∧ t.mbx = s.mbx.answered c 8 []) ∧
    (∀ g, s.keCore = some g → ∀ slot, s.freeSlot = some slot → ∀ seed, s.identSeed = some seed → up → b 2 ≤ 1 → usable r0 →
      s.trngOk = true →
      s.lineTrusts (bytesAt p 20 2592) = true →
      let pk := bytesAt p 20 2592
      let kk := Config.mlkemKeys (free 0 8)
      let ek := fitTo 0 1568 kk.1
      let h := 16 * s.vault.nextHandle + slot + 1
      let v := (s.unbind g).vault
      let ek2 := bytesAt p 2612 1568
      let e := Config.mlkemEncaps ek2 (free 0 4)
      let ct := fitTo 0 1568 e.2
      (s.mails 0x20 2612 c → Does s .keInit fun t =>
        t.vault = { v with requests := v.requests + 12, nextHandle := v.nextHandle + 1, handles := v.handles.set none h (some
          ⟨true, r0.sa, r0.key, r0.an, r0.np, r0.lim, s.now, some g, pk, ek, none, Mem.zero.storeAll 0 (fitTo 0 3168 kk.2) ⟨true, false⟩⟩) } ∧
        t.mbx = s.mbx.answered c 0 (toLE 4 h ++ ek ++ fitTo 0 4627 (Config.mldsaSign seed (msgI ek pk) (free 8 4))) ∧
          kernel g 12 t ∧
        t.regs = s.regs ∧ t.cl = s.cl ∧ t.free = s.free + 13) ∧
      (s.mails 0x21 8807 c → fits r0.sa → Config.mldsaVerify pk (msgI ek2 s.dsaPk) (bytesAt p 4180 4627) = true →
        Does s .keRespond fun t =>
        installed r0 (s.kePlain r0 e.1 ek2 ct) t ∧ kernel g 8 t ∧ t.vault.handles = v.handles ∧
        answer r0 (toLE 2 idx ++ toLE 2 0 ++ ct ++ fitTo 0 4627 (Config.mldsaSign seed (msgR ek2 ct pk) (free 4 4))) t)) ∧
    (s.mails 0x22 6199 c → up → ∀ h, s.vault.handles.get none (fieldAt p 0 4) = some h → ∀ g, s.keCore = some g →
      let r : KeyReq := ⟨h.sa, h.key, h.an, h.nextPn, h.limit⟩
      let ct := bytesAt p 4 1568
      usable r → fits r.sa → s.trngOk = true → Config.mldsaVerify h.peer (msgR h.ek ct s.dsaPk) (bytesAt p 1572 4627) = true →
      Does s .keFinish fun t => installed r (s.kePlain r (Config.mlkemDecaps (h.buf.bytes 0 3168) ct) h.ek ct) t ∧ kernel g 0 t ∧
        t.vault.handles.get none (fieldAt p 0 4) = none ∧ answer r (toLE 2 idx) t) ∧
    (s.mails 0x23 4 c → up → ∀ h, s.vault.handles.get none (fieldAt p 0 4) = some h → Does s .keAbort fun t =>
      t = { s.signals t with mbx := t.mbx, vault := { s.vault with handles := s.vault.handles.set none (fieldAt p 0 4) none } } ∧
      t.mbx = s.mbx.answered c 0 [] ∧ t.srcs = s.srcs))

/-- R401, R402, R415, R420, R431, R433: PEER_TRUST adds or removes a key hash that the owner signs; OWNER_PROVISION
unwraps the KEKs into the root store and, the first time in OPEN, fuses the owner's hash; each consumes the nonce.
PRIN_SET writes PRIN_CTL and the root store's copy, and in DEPLOYED only clears bits. SVN_COMMIT raises the fused
minimums to the SVNs in service. The FIPS functions are constants of the model (log entry 8). R401, R417, R418, R444,
R446, R540: IMAGE_STAGE fills the staged image; IMAGE_COMMIT of a valid image writes its flash area with ACTION 1,
starts a hot restart from the slot that did not boot for a Warden image, and starts the Mirror update for a core
image; COST_LOAD puts a table in a slot that holds none and commits it. A flash write that does not end leaves its
area without a valid header and answers NO_RESOURCE. -/
def Obligations.SignedAndImageCommands : Prop :=
  (∀ (s : State) (c : List Byte),
    let p := c.drop 16
    let up : Prop := s.lcState = 1 ∨ s.lcState = 2
    let v0 := { s.vault with challenge := none }
    let hash : BitVec 512 := BitVec.ofNat 512 (beNat (bytesAt p 4 64))
    let use := fieldAt p 0 1
    let add : Prop := fieldAt p 1 1 = 0
    let line := s.vault.trustLine
    let trusted (v : Vault) : Prop :=
      (use = 0 → add → hash ∉ line → v = { v0 with trustLine := line ++ [hash] }) ∧ (use = 0 → add → hash ∈ line → v = v0) ∧
      (use = 0 → ¬add → hash ∉ v.trustLine ∧ (∀ h ∈ line, h ≠ hash → h ∈ v.trustLine) ∧ v = { v0 with trustLine := v.trustLine }) ∧
      (use = 1 → add → v = { v0 with trustEast := some hash }) ∧ (use = 2 → add → v = { v0 with trustWest := some hash }) ∧
      (use = 1 → ¬add → v = if s.vault.trustEast = some hash then { v0 with trustEast := none } else v0) ∧
      (use = 2 → ¬add → v = if s.vault.trustWest = some hash then { v0 with trustWest := none } else v0)
    let pk := bytesAt p 0 2592
    let wkey (seed : List Byte) : List Byte :=
      (kdf (Config.mlkemDecaps (Config.mlkemKeys seed).2 (bytesAt p 2592 1568)) (ascii "ZPRV" ++ sha3Bytes pk) 48).take 32
    let kek (l : List Byte) (o : Nat) : BitVec 256 := BitVec.ofNat 256 (beNat (bytesAt l o 32))
    let ctl := BitVec.ofNat 32 (fieldAt p 0 4)
    (∀ o, s.fuses.owner = some o → s.mails 0x41 4727 c → up → fieldAt p 2 2 = 0 → use ≤ 2 → fieldAt p 1 1 ≤ 1 →
      s.nonceOk p 68 = true →
      Config.mldsaVerifyBy o (s.signedMsg 0x41 p 100) (bytesAt p 100 4627) = true → ¬(use = 0 ∧ add ∧ hash ∉ line ∧
        64 ≤ line.length) →
      Does s .peerTrust fun t => t = { s.signals t with vault := t.vault, mbx := s.mbx.answered c 0 [] } ∧ trusted t.vault) ∧
    (s.mails 0x41 4727 c → up → fieldAt p 2 2 = 0 → use ≤ 2 → fieldAt p 1 1 ≤ 1 → s.nonceOk p 68 = false →
      Does s .peerTrust fun t => t = { s.signals t with vault := v0, mbx := s.mbx.answered c 7 [] }) ∧
    (∀ seed, s.provSeed = some seed → ∀ g, s.keCore = some g →
      ∀ keks, aesUnwrapBytes (BitVec.ofNat 256 (beNat (wkey seed))) (bytesAt p 4160 72) = some keks →
      s.mails 0x50 8891 c → up → s.nonceOk p 4232 = true →
      Config.mldsaVerify pk (s.signedMsg 0x50 p 4264) (bytesAt p 4264 4627) = true → s.fuses.owner = none ∨
        s.fuses.owner = some (sha3 pk) →
      Does s .ownerProvision fun t => t.mbx = s.mbx.answered c 0 [] ∧ t.vault.challenge = none ∧
        t.root = { s.root with kekImport := some (kek keks 0), kekRepl := some (kek keks 32), valid := true, latch := 0 } ∧
        t.fuses = { s.fuses with owner := if s.fuses.owner = none ∧ s.lcState = 1 then some (sha3 pk) else s.fuses.owner } ∧
        t.rd TAMPER_CTL = s.rd TAMPER_CTL &&& 0xFFFFF0FF ∧ RegsBut [TAMPER_CTL] s t ∧
        (t.src (prKey g 10)).occ = min ((s.src (prKey g 10)).occ + 1) 255 ∧ t.cl = s.cl) ∧
    (s.mails 0x40 4 c → up → fieldAt p 0 4 < 16 → Does s .prinSet fun t =>
      let new := if s.lcState = 2 then s.rd PRIN_CTL &&& ctl else ctl
      t = { s.signals t with regs := t.regs, root := { s.root with prinCtl := new }, mbx := s.mbx.answered c 0 (toLE 4 new.toNat) } ∧
      t.rd PRIN_CTL = new ∧ RegsBut [PRIN_CTL] s t) ∧
    (s.mails 0x34 0 c → up → Does s .svnCommit fun t =>
      let f := { s.fuses with wardenSvn := t.fuses.wardenSvn, coreSvn := t.fuses.coreSvn }
      t = { s.signals t with fuses := f, mbx := s.mbx.answered c 0 (toLE 4 s.warden.svn ++ toLE 4 t.fuses.coreSvn) } ∧
      t.fuses.wardenSvn = max s.fuses.wardenSvn s.warden.svn ∧ s.fuses.coreSvn ≤ t.fuses.coreSvn ∧
      (∀ i ∈ s.warden.images, i.svn ≤ t.fuses.coreSvn) ∧ (t.fuses.coreSvn = s.fuses.coreSvn ∨
        ∃ i ∈ s.warden.images, i.svn = t.fuses.coreSvn))) ∧
  (∀ (s : State) (c : List Byte) (clu : ClId),
    let p := c.drop 16
    let o := fieldAt p 0 4
    let bs := p.drop 4
    let img := s.warden.staged.getRange 0 0 o
    let action := fieldAt p 4 1
    let t0 := imgType img
    let fine : Prop := o ≤ 524288 ∧ s.imgValid t0 img = true ∧ fieldAt p 5 3 = 0
    let slot := fieldAt p 0 1
    let err := costErr (fitTo 0 2048 bs)
    let epoch := leNat ((bs.drop 8).take 4)
    let twin : Prop := s.flag (COST_STAT (1 - slot)) COST_STAT_VALID = true ∧ s.fld (COST_STAT (1 - slot)) COST_STAT_EPOCH = epoch
    let put (b : List Byte) : Flash := if t0 = 1 then { s.flash with core := b } else if s.warden.slotB then { s.flash with wardenA := b } else { s.flash with wardenB := b }
    let ok := toLE 4 (imgSvn img) ++ toLE 4 (imgEpoch img)
    (20 ≤ cmdLen c → cmdLen c ≤ 16388 → cmdLen c % 16 = 4 → s.mails 0x31 (cmdLen c) c → o % 16 = 0 → o + bs.length ≤ 524288 →
      Does s .imageStage fun t =>
      t = { s.signals t with warden := { s.warden with staged := s.warden.staged.setRange 0 o bs }, mbx := s.mbx.answered c 0 [] }) ∧
    (s.mails 0x32 8 c → fine → t0 = 1 → action = 1 → s.lcState ≠ 3 → Does s .imageCommit fun t =>
      t = { s.signals t with flash := put img, mbx := s.mbx.answered c 0 ok }) ∧
    (s.mails 0x32 8 c → fine → t0 = 0 → action = 0 → Does s .imageCommit fun t =>
      t = { s.signals t with flash := put img, warden := { s.warden with restarting := true }, mbx := s.mbx.answered c 0 ok }) ∧
    (s.mails 0x32 8 c → fine → t0 = 1 → action = 0 → s.lcState ≠ 3 → s.mirrorArgs (imgEpoch img) = true →
      s.flag MIRROR_STAT MIRROR_STAT_ACTIVE = false → Does s .imageCommit fun t =>
      t = { s.signals t with regs := t.regs, warden := t.warden, mbx := s.mbx.answered c 0 ok } ∧
      t.warden = { s.warden with images := s.warden.images ++ [coreImageOf img], oldStep := t.warden.oldStep } ∧
      t.warden.oldStep.get 12500000 clu = s.rd (ROT_STEPR clu) ∧ t.rd (ROT_STEPR clu) = 150000 ∧
      t.flag MIRROR_STAT MIRROR_STAT_ACTIVE = true ∧ t.fld MIRROR_STAT MIRROR_STAT_NEW_EPOCH = imgEpoch img ∧
      RegsBut (MIRROR_STAT :: (List.range 12).map ROT_STEPR) s t) ∧
    (s.mails 0x32 8 c → fine → t0 = 1 → action = 0 → s.lcState ≠ 3 → s.mirrorArgs (imgEpoch img) = false →
      Does s .imageCommit fun t =>
      t = { s.signals t with mbx := s.mbx.answered c 5 [] }) ∧
    (36 ≤ cmdLen c → cmdLen c ≤ 1060 → s.mails 0x30 (cmdLen c) c → s.lcState ≠ 3 → slot ≤ 1 → fieldAt p 1 3 = 0 → bs.length ≤ 2048 →
      s.flag (COST_STAT slot) COST_STAT_VALID = false → Does s .costLoad fun t =>
      t = { s.signals t with regs := t.regs, wlog := t.wlog, wlogAt := t.wlogAt, flash := t.flash, mbx := t.mbx } ∧
      t.mbx = s.mbx.answered c 0 (toLE 4 (t.rd (COST_STAT slot)).toNat) ∧
      (∀ i : Fin 512, t.rd (COST slot i) = BitVec.ofNat 32 (fieldAt bs (4 * i) 4)) ∧
      RegsBut (COST_STAT slot :: (List.range 512).map fun i => COST slot i) s t ∧
      (err = 0 → ¬twin → t.flag (COST_STAT slot) COST_STAT_VALID = true ∧ t.fld (COST_STAT slot) COST_STAT_ERR = 0 ∧
        t.fld (COST_STAT slot) COST_STAT_EPOCH = epoch % 256 ∧
          t.flash = if slot = 0 then { s.flash with cost := bs } else s.flash) ∧
      (err ≠ 0 ∨ twin → t.flag (COST_STAT slot) COST_STAT_VALID = false ∧ t.flash = s.flash ∧
        t.fld (COST_STAT slot) COST_STAT_ERR = if err = 0 then 7 else err)) ∧
    (36 ≤ cmdLen c → cmdLen c ≤ 1060 → s.mails 0x30 (cmdLen c) c → s.lcState ≠ 3 → slot = 0 → fieldAt p 1 3 = 0 → bs.length ≤ 2048 →
      s.flag (COST_STAT 0) COST_STAT_VALID = false → err = 0 → ¬twin → Does s .flashWriteTimeout fun t =>
      t = { s.signals t with flash := { s.flash with cost := [] }, mbx := s.mbx.answered c 6 [] }) ∧
    (s.mails 0x32 8 c → fine → t0 = 0 → action = 0 → Does s .flashWriteTimeout fun t =>
      t = { s.signals t with flash := put [], mbx := s.mbx.answered c 6 [] }))

/-- R403, R412, R416: a background retirement ends no earlier than its time: its context leaves each of its clusters,
with every slot loaded from it, and its vault copy where that is to be erased; the last one of a deletion ends the SA.
A handle 60 s after its KE_INIT is closed with source 49. R264, R407, R408, R424: a Keeper's read of a random port
takes a fresh word, K-tinted from the secret port, or 0 tinted {1, 1} while the ports fail; below Keeper it is an
access fault. A health failure stops both ports, recovery restores them, and a reseed starts the count again. -/
def Obligations.VaultUpkeep : Prop :=
  (∀ (s : State) (sa : BitVec 12) (k : Bool) (r : Retire) (slot : R4) (n : Nat) (h : KeHandle),
    let left := s.vault.retiring.erase r
    let ends : Prop := r.delete = true ∧ left.any (fun x => x.sa == r.sa) = false
    (s.vault.retiring.find? (fun r => r.sa == sa.toNat && r.key == k) = some r → s.wardenRuns = true → s.vault.zeroAt = 0 →
      Does s (.keyRetireComplete sa k) fun t =>
        t = { s with now := max s.now r.at_, cores := t.cores, cl := t.cl, vault := t.vault } ∧
        (∀ g : CoreId, t.core g = { s.core g with slots := (t.core g).slots } ∧ ∀ m : Fin 16, (t.core g).slot m =
          if g.val / 8 ∈ r.homes ∧ ((s.core g).slot m).st ≠ 0 ∧
            ((s.core g).slot m).idx = r.idx then { KeySlot.empty with loaderr := 3 }
          else (s.core g).slot m) ∧
        (∀ c : Fin 12, SMap.But SkbCtx.empty [r.idx] (s.clu c).skb (t.clu c).skb ∧ (t.clu c).cmem = (s.clu c).cmem ∧
          (t.clu c).skb.get SkbCtx.empty r.idx = if c.val ∈ r.homes then SkbCtx.empty else (s.clu c).skb.get SkbCtx.empty r.idx) ∧
        t.vault = { s.vault with
          retiring := left,
          keys := if r.erase then s.vault.keys.set none (2 * r.sa + b2n k) none else s.vault.keys,
          ivid := if ends then s.vault.ivid.set none r.sa none else s.vault.ivid }) ∧
    (s.vault.handles.find? (fun e => match e.2 with
        | some x => decide ((e.1 - 1) % 16 = slot.toNat) && x.init
        | none => false) = some (n, some h) →
      Does s (.keHandleTimeout slot) fun t =>
        t = { s.signals t with now := max s.now (h.at_ + 120000000000), vault := { s.vault with handles := s.vault.handles.set none n none } } ∧
        (t.src (devKey 49)).occ = min ((s.src (devKey 49)).occ + 1) 255)) ∧
  (∀ (s : State) (g : CoreId) (rd : R5),
    let c := s.core g
    let ok : Prop := s.flag VAULT_STAT VAULT_STAT_TRNG_OK = true ∧ s.vault.zeroAt = 0
    let got (w : TD) (t : State) : Prop := t.core g = (c.wrLo rd.toNat w).wrHi rd.toNat td0 ∧
        SMap.But Core.reset [g.val] s.cores t.cores
    let read (secret : Bool) (t : State) : Prop :=
      (c.pl = 2 → ok → got ⟨Config.freeDWord s.free, ⟨secret, false⟩⟩ t ∧
        t = { s with cores := t.cores, free := s.free + 1, vault := { s.vault with requests := s.vault.requests + 1 } }) ∧
      (c.pl = 2 → ¬ok → got ⟨0, ⟨true, true⟩⟩ t ∧ t = { s with cores := t.cores }) ∧
      (c.pl ≠ 2 → t = s.enter g ⟨false, 6, 0, some (if secret then 0xC000008 else 0xC000000), c.pc, none⟩)
    (c.run = true → Does s (.trngPub g rd) (read false) ∧ Does s (.trngSec g rd) (read true)) ∧
    Does s .trngHealthFail (fun t => t.rd VAULT_STAT = s.rd VAULT_STAT &&& 0x3FFFFFFF ∧ RegsBut [VAULT_STAT] s t ∧
      t = { s.signals t with regs := t.regs } ∧ t.srcs = s.srcs ∧
      (s.flag VAULT_STAT VAULT_STAT_TRNG_OK = false → t.out = s.out ∧ t.msixPba = s.msixPba)) ∧
    Does s .trngRecover (fun t => if s.flag VAULT_STAT VAULT_STAT_TRNG_OK then t = s
      else t.rd VAULT_STAT = s.rd VAULT_STAT ||| 0xC0000000 ∧ RegsBut [VAULT_STAT] s t ∧
        t = { s with regs := t.regs, vault := { s.vault with requests := 0, seededAt := s.now } }) ∧
    Does s .drbgReseed (fun t => if s.flag VAULT_STAT VAULT_STAT_DRBG_SEEDED then
        t = { s with now := t.now, vault := { s.vault with requests := 0, seededAt := t.now } } ∧
          t.now = if s.vault.requests < 65536 then max s.now (s.vault.seededAt + 200000000) else s.now
      else t = s))

/-- R242, R273, R401, R422 to R425, R428: zeroisation starts on a breach of an enabled loop, ZEROISE, a signed
lifecycle row and SCAN_REQ in TEST or RMA: no register, DMEM or CMEM word stays tinted, every slot and SKB is empty,
the vault holds no key, handle, trust list or challenge, the DMA channels stop and the transmitters idle; the root
store goes when it is in scope. DONE then applies a warm reset. -/
def Obligations.Zeroisation : Prop :=
  ∀ (s : State) (loop : BitVec 2) (c : List Byte),
    let a := ZEROISE_STAT
    let lanes := (List.range 2).flatMap fun i => (List.range 16).flatMap fun p => [LANE_STAT i p, PORT_STAT i p]
    let dmas := (List.range 12).flatMap fun i => (List.range 16).map fun n => DMA_CTL i n
    let began (cause : Nat) (root : Bool) (t : State) : Prop :=
      t.flag a ZEROISE_STAT_RUNNING = true ∧ t.flag a ZEROISE_STAT_DONE = false ∧ t.flag a ZEROISE_STAT_ROOT = root ∧
      t.fld a ZEROISE_STAT_CAUSE = cause ∧ t.fld a ZEROISE_STAT_COUNT = min (s.fld a ZEROISE_STAT_COUNT + 1) 65535 ∧
      t.flag VAULT_STAT VAULT_STAT_ZEROISED = true ∧ t.root = (if root then s.root.clear else s.root) ∧
      (∀ g : CoreId, let x := s.core g; let y := t.core g
        y.g = untint x.g ∧ y.a = untint x.a ∧ y.o = untint x.o ∧ y.m = untint x.m ∧ y.acc = untint x.acc ∧ y.q = untint x.q ∧
        y.p = untint x.p ∧ y.cr = untint x.cr ∧ y.dmem = x.dmem.zeroTinted ∧ y.imem = x.imem ∧ y.pc = x.pc ∧ y.lock.active = false ∧
        ∀ n : Fin 16, y.slot n = { KeySlot.empty with loaderr := 4 }) ∧
      (∀ k : Fin 12, (t.clu k).skb = [] ∧ (t.clu k).cmem.t = [] ∧
        ((∀ g : CoreId, g.val / 8 = k.val → (s.core g).far = []) → (t.clu k).cmem = (s.clu k).cmem.zeroTinted)) ∧
      t.vault.keys = [] ∧ t.vault.handles = [] ∧ t.vault.trustLine = [] ∧ t.vault.trustEast = none ∧ t.vault.trustWest = none ∧
      t.vault.challenge = none ∧ t.vault.retiring = [] ∧ t.vault.zeroAt = s.now + 1 ∧ t.vault.ivid = s.vault.ivid ∧
      (∀ (i : Fin 2) (p : Fin 16), t.flag (LANE_STAT i p) LANE_STAT_TX_IDLE = true ∧
        t.flag (PORT_STAT i p) PORT_STAT_LINK_UP = false) ∧
      (∀ (i : Fin 12) (n : Fin 16), t.flag (DMA_CTL i n) DMA_CTL_EN = false) ∧
      RegsBut ([a, VAULT_STAT] ++ lanes ++ dmas) s t ∧ t.now = s.now ∧ t.fuses = s.fuses ∧ t.derrq = s.derrq
    let runs := s.flag a ZEROISE_STAT_RUNNING
    let p := c.drop 16
    let row : Prop := (s.lcState = 0 ∧ fieldAt p 0 1 = 1) ∨ ((s.lcState = 1 ∨ s.lcState = 2) ∧ fieldAt p 0 1 = 3)
    let signer := if s.lcState = 0 then Config.vilbokenHash else s.fuses.owner.getD Config.vilbokenHash
    (bitN (s.fld TAMPER_CTL TAMPER_CTL_EN) loop.toNat = true → runs = false →
      Does s (.tamperBreach loop) fun t => began 1 true t ∧ t.fld a ZEROISE_STAT_LOOPS = 2 ^ loop.toNat) ∧
    (bitN (s.fld TAMPER_CTL TAMPER_CTL_EN) loop.toNat = true → runs = true → Does s (.tamperBreach loop) fun t =>
      t.root = s.root.clear ∧ t.flag a ZEROISE_STAT_ROOT = true ∧ bitN (t.fld a ZEROISE_STAT_LOOPS) loop.toNat = true ∧
      t = { s with root := t.root, regs := t.regs } ∧ RegsBut [a] s t) ∧
    (bitN (s.fld TAMPER_CTL TAMPER_CTL_EN) loop.toNat = false → Does s (.tamperBreach loop) fun t => t = s) ∧
    (s.lcState = 0 ∨ s.lcState = 3 → runs = false → Does s .scanReq fun t => began 4 true t ∧ t.vault.scanReq = true) ∧
    (s.lcState = 1 ∨ s.lcState = 2 → Does s .scanReq fun t => t = s.raiseDev 50) ∧
    (s.mails 0x52 4 c → fieldAt c 16 1 ≤ 1 → fieldAt c 17 3 = 0 → runs = false → Does s .zeroise fun t =>
      began 2 (fieldAt c 16 1 == 1) t ∧ t.mbx = { s.mbx with wq := [] }) ∧
    (s.mails 0x51 4663 c → s.lcState ≠ 3 → fieldAt c 17 3 = 0 → row → s.nonceOk p 4 = true →
      Config.mldsaVerifyBy signer (s.signedMsg 0x51 p 36) (bytesAt p 36 4627) = true → runs = false → Does s .lcAdvance fun t =>
      began 3 true t ∧ t.warden.lcTarget = some (if fieldAt p 0 1 = 1 then 0x01 else 0x07) ∧ t.mbx = { s.mbx with wq := [] }) ∧
    (s.mails 0x51 4663 c → s.lcState = 1 → fieldAt c 17 3 = 0 → fieldAt p 0 1 = 2 → s.fuses.owner.isSome = true →
      s.root.kekImport.isSome = true → s.nonceOk p 4 = true →
      Config.mldsaVerifyBy signer (s.signedMsg 0x51 p 36) (bytesAt p 36 4627) = true → Does s .lcAdvance fun t =>
      t.fuses = { s.fuses with lc := 0x03 } ∧ t.root = s.root ∧ t.fld RST_STAT RST_STAT_CAUSE = 6 ∧ t.vault.keys = [] ∧
      ∀ g : CoreId, (t.core g).g = [] ∧ (t.core g).dmem = Mem.zero) ∧
    Does s .vbatTamperBreach (fun t => if s.root.tamperEn % 16 = 0 then t = s else
      t = { s with root := t.root, free := s.free + 1 } ∧ t.root = { Root.empty with latch := t.root.latch } ∧
      s.root.latch ||| t.root.latch = t.root.latch ∧
        t.root.latch ||| s.root.latch ||| s.root.tamperEn % 16 = s.root.latch ||| s.root.tamperEn % 16) ∧
    (runs = true → s.clk.deferred ≠ 1 → s.clk.deferred ≠ 3 → Does s .zeroiseDone fun t =>
      t.now = max s.now (s.vault.zeroAt - 1 + 10000) ∧ t.flag a ZEROISE_STAT_RUNNING = false ∧ t.flag a ZEROISE_STAT_DONE = true ∧
      t.fld a ZEROISE_STAT_CAUSE = s.fld a ZEROISE_STAT_CAUSE ∧ t.fld a ZEROISE_STAT_COUNT = s.fld a ZEROISE_STAT_COUNT ∧
      t.rd TAMPER_CTL = s.rd TAMPER_CTL ∧ t.root = s.root ∧ t.fuses = { s.fuses with lc := s.warden.lcTarget.getD s.fuses.lc } ∧
      t.fld RST_STAT RST_STAT_CAUSE = (if s.warden.lcTarget.isSome then 6 else 7) ∧ t.flag FAULT_STAT FAULT_STAT_ZEROISE = true ∧
      t.vault.keys = [] ∧ t.mbx = Mbx.reset ∧ t.warden = Warden.reset ∧
      t.vault.scan = (s.vault.scan || (s.vault.scanReq && (t.lcState == 0 || t.lcState == 3))) ∧
      ∀ g : CoreId, (t.core g).g = [] ∧ (t.core g).dmem = Mem.zero ∧ (t.core g).slots = []) ∧
    (runs = false → Does s .zeroiseDone fun t => t = s)

/-- R397, R406, R417 to R419, R446, R453, R459, R489: the Warden boots the valid slot of the greater SVN and BUILD,
sets TAMPER_CTL.EN and PRIN_CTL from the root store, instantiates the generator and makes absent seeds; with no valid
slot it stays in ROM recovery. A lockstep mismatch stops it, records class 19 and, the first in 1 s, restarts it hot;
a hot restart runs the same steps and leaves the cores running. ALIVE_KICK keeps ALIVE toggling, and 2 ms without one
ends it. -/
def Obligations.WardenBoot : Prop :=
  ∀ (s : State),
    let w := s.warden
    let recovers (t : State) : Prop := t.flag LC_STAT LC_STAT_RECOVERY = true ∧ t.warden.rom = true ∧ t.root = s.root ∧
        t.cores = s.cores ∧ t.flash = s.flash
    let absent : Prop := (s.lcState = 1 ∨ s.lcState = 2) ∧ (s.root.ident = none ∨ s.root.prov = none)
    let free (o k : Nat) : List Byte := (List.range k).flatMap fun i => toLE 8 (Config.freeDWord (s.free + o + i)).toNat
    let starts (b : Bool) (t : State) : Prop :=
      let img := if b then s.flash.wardenB else s.flash.wardenA
      t.warden.up = true ∧ t.warden.rom = false ∧ t.warden.halted = false ∧ t.warden.restarting = false ∧ t.warden.slotB = b ∧
      t.warden.svn = imgSvn img ∧ t.warden.imem = imgBody img ∧ t.warden.dmem = Mem.zero ∧ t.warden.kickAt = s.now + 1 ∧
      t.flag LC_STAT LC_STAT_RECOVERY = false ∧ t.fld TAMPER_CTL TAMPER_CTL_EN = s.root.tamperEn % 16 ∧
        t.rd PRIN_CTL = s.root.prinCtl ∧
      t.flag VAULT_STAT VAULT_STAT_TRNG_OK = true ∧ t.flag VAULT_STAT VAULT_STAT_DRBG_SEEDED = true ∧
      (¬absent → t.root = s.root) ∧
      (absent → t.root = { s.root with ident := t.root.ident, prov := t.root.prov, valid := true } ∧
        t.root.ident = some (BitVec.ofNat 256 (beNat (free 0 4))) ∧ t.root.prov = some (BitVec.ofNat 512 (beNat (free 4 8)))) ∧
      t.flash = s.flash ∧ t.fuses = s.fuses
    let may : Prop := w.up = false ∧ s.clk.hold = false ∧ s.vault.zeroAt = 0 ∧ w.rom = false ∧ w.halted = false
    let idle : Prop := s.mbx.busy = false
    let again : Prop := w.mismatchAt ≠ 0 ∧ s.now + 1 < w.mismatchAt + 2000000000
    (may → idle → s.bootSlot = none → Does s .wardenBoot fun t => recovers t ∧ t.flag LC_STAT LC_STAT_ROOT_LOST = !s.root.valid) ∧
    (∀ b, s.bootSlot = some b → may → idle → s.imgValid 1 s.flash.core = false → w.images = [] →
      Does s .wardenBoot fun t => starts b t ∧
      t.flag LC_STAT LC_STAT_ROOT_LOST = !s.root.valid ∧ t.cores = s.cores ∧
      (s.root.latch % 16 ≠ 0 → t.fld TAMPER_CTL TAMPER_CTL_LATCH = s.root.latch % 16 ∧ t.fld ZEROISE_STAT ZEROISE_STAT_CAUSE = 5)) ∧
    (∀ b, s.bootSlot = some b → may → idle → s.imgValid 1 s.flash.core = true → costErr s.flash.cost = 0 →
      Does s .wardenBoot fun t => starts b t ∧
      t.warden.images = [coreImageOf s.flash.core] ∧
      ∀ g : CoreId, s.rotState g = 3 → s.domain g = 2 → (s.rotOf g).starting = false → (t.core g).run = true ∧
        (t.rotOf g).starting = true ∧ t.rotState g = 3) ∧
    (¬may → Does s .wardenBoot fun t => t = s) ∧
    (∀ b, s.bootSlot = some b → w.restarting = true → s.vault.zeroAt = 0 → idle → w.kickAt ≠ 0 →
      Does s .wardenHotRestart fun t => starts b t ∧
      t = { s with regs := t.regs, warden := t.warden, vault := t.vault, root := t.root, free := t.free } ∧
      t.warden.images = w.images ∧ RegsBut [LC_STAT, TAMPER_CTL, PRIN_CTL, VAULT_STAT] s t) ∧
    (s.bootSlot = none → w.restarting = true → s.vault.zeroAt = 0 → idle → Does s .wardenHotRestart fun t => recovers t ∧
      RegsBut [LC_STAT] s t) ∧
    (w.restarting = false ∨ s.vault.zeroAt ≠ 0 → Does s .wardenHotRestart fun t => t = s) ∧
    (w.halted = false → w.up = true ∨ w.rom = true → s.derrq.length < 16 → Does s .lockstepMismatch fun t =>
      t.warden = { w with halted := true, restarting := decide (¬again), mismatchAt := s.now + 1 } ∧ t.wardenRuns = false ∧
      t.mbx = { s.mbx with wq := [], held := none } ∧ t.flag FAULT_STAT FAULT_STAT_CRITICAL = true ∧ RegsBut [FAULT_STAT] s t ∧
      (∃ r ∈ t.derrq, t.derrq = s.derrq ++ [r] ∧ r.cls = 19 ∧ r.sev = 3 ∧ r.kind = 10 ∧ r.time = s.timebase ∧
        r.action = if again then 0 else 7) ∧
      t.cores = s.cores ∧ t.cl = s.cl) ∧
    (w.halted = true ∨ w.up = false ∧ w.rom = false → Does s .lockstepMismatch fun t => t = s) ∧
    (w.up = true → w.halted = false →
      Does s .aliveKick fun t => t = { s with warden := { w with kickAt := s.now + 1, late := false } } ∧
      (w.restarting = false → t.alive = true)) ∧
    (w.up = true → w.halted = false → w.kickAt ≠ 0 → Does s .aliveTimeout fun t =>
      t = { s with now := t.now, warden := { w with late := true } } ∧ t.now = max s.now (w.kickAt - 1 + 4000000) ∧ t.alive = false)

/-! Rotation, errors, power and clocks -/

/-- R437, R462, R464: a rotation step, timed or by STEP_NOW, returns the spare to service and drains the forced core
or the next one in turn; it stalls on a spare with a KE handle or on a core not yet back, and ends early as R437 has
it. FORCE names a core. MIRROR_SWAP waits for the next RELEASE. R151, R210, R291, R438, R439, R441, R443, R444, R448,
R464: a drained core enters TEST under per-core reset; BIST passes it to RELOAD with source 54 or fences it; RELEASE
loads it and starts it at vector 0 of its slot; ROT_RDY makes it SPARE or IN_SERVICE; each limit that passes first,
and STATE 5, fences it: its frames and sources are lost to it, the spare takes its place and its domain is powered off
with a record. BTB_KEY, KRGN and the end of the Mirror update act as given. -/
def Obligations.Rotation : Prop :=
  (∀ (s : State) (c : ClId) (n : R3) (g : CoreId),
    let on := s.blockOn (ROT_CTL c)
    let x := s.clu c
    let ms := (List.range 8).map fun i => 8 * c.val + i
    let spare := ms.find? fun h => s.rotState h == 4
    let bound := match spare with
      | some h => (s.vault.boundTo h).isSome
      | none => false
    let st (h : Nat) : Nat := if spare = some h ∧ bound = false then 0 else s.rotState h
    let stalled : Prop := bound = true ∨ spare = none ∧ ∃ h ∈ ms, s.rotState h = 1 ∨ s.rotState h = 2 ∨ s.rotState h = 3
    let ends : Prop := (s.fld (ROT_CTL c) ROT_CTL_KEEP_SPARE = 0 ∧ ∃ h ∈ ms, st h = 5 ∨ st h = 6) ∨
        (ms.filter fun h => st h == 0).length < 2
    let out := s.fld (ROT_STAT c) ROT_STAT_OUT_CORE
    let force := 8 * c.val + s.fld (ROT_CTL c) ROT_CTL_FORCE_CORE
    let turn := ((List.range 8).map fun i => 8 * c.val + (out + 1 + i) % 8).find? fun h => st h == 0
    let d := if x.forcePend = true ∧ st force = 0 ∧ spare ≠ some force then some force else turn
    let took : Option Nat := if stalled ∨ ends then none else d
    let stepped (t : State) : Prop :=
      (∀ i : Fin 8, t.rotState (8 * c.val + i.val) = if took = some (8 * c.val + i.val) then 1 else st (8 * c.val + i.val)) ∧
      t.flag (ROT_STAT c) ROT_STAT_STALLED = decide stalled ∧ t.fld (ROT_STAT c) ROT_STAT_OUT_CORE = (match took with
        | some h => h % 8
        | none => out) ∧
      t.fld (ROT_STAT c) ROT_STAT_STEPS = (s.fld (ROT_STAT c) ROT_STAT_STEPS + 1) % 65536 ∧
        (t.clu c).forcePend = (x.forcePend && took.isNone) ∧
      RegsBut (ROT_STAT c :: (List.range 8).map (ROT_CORE c)) s t ∧ SMap.But Cluster.reset [c.val] s.cl t.cl ∧
      t = { s with now := t.now, regs := t.regs, rot := t.rot, cl := t.cl }
    (on = true → s.flag (ROT_CTL c) ROT_CTL_EN = true → Does s (.rotStep c) fun t => stepped t ∧
      t.now = max s.now (x.stepAt + 20 * max 150000 (s.rd (ROT_STEPR c)).toNat) ∧
      t.clu c = { x with stepAt := t.now, forcePend := (t.clu c).forcePend }) ∧
    (on = true → s.flag (ROT_CTL c) ROT_CTL_EN = false → Does s (.rotStep c) fun t => t = s) ∧
    (on = true → Does s (.stepNow c) fun t => stepped t ∧ t.now = s.now ∧ t.clu c = { x with forcePend := (t.clu c).forcePend }) ∧
    (on = true → Does s (.force c n) fun t => t.fld (ROT_CTL c) ROT_CTL_FORCE_CORE = n.toNat ∧
      t.clu c = { x with forcePend := true } ∧
      t.rd (ROT_CTL c) &&& 0xF8FFFFFF = s.rd (ROT_CTL c) &&& 0xF8FFFFFF ∧ RegsBut [ROT_CTL c] s t ∧
      SMap.But Cluster.reset [c.val] s.cl t.cl ∧ t = { s with regs := t.regs, cl := t.cl }) ∧
    (on = false → (Does s (.rotStep c) fun t => t = s) ∧ (Does s (.stepNow c) fun t => t = s) ∧
      (Does s (.force c n) fun t => t = s)) ∧
    Does s (.mirrorSwap g) (fun t => t.flag (ROT_CORE (g.val / 8) (g.val % 8)) ROT_CORE_MIRROR_SWAP = true ∧
      t.rd (ROT_CORE (g.val / 8) (g.val % 8)) = s.rd (ROT_CORE (g.val / 8) (g.val % 8)) ||| 0x10000000 ∧
      RegsBut [ROT_CORE (g.val / 8) (g.val % 8)] s t ∧ t = { s with regs := t.regs })) ∧
  (∀ (s : State) (g : CoreId) (lok mok b : Bool) (v : Word) (x : R4) (n : BitVec 2),
    let c := s.core g
    let k := g.val / 8
    let a := ROT_CORE k (g.val % 8)
    let st := s.rotState g
    let spare := ((List.range 8).map fun i => 8 * k + i).find? fun h => s.rotState h == 4
    let alone (t : State) : Prop := ∀ h : CoreId, h ≠ g → t.core h = { s.core h with far := (t.core h).far }
    let fenced (cls info0 : Nat) (t : State) : Prop :=
      t.rotState g = 5 ∧ (t.core g).run = false ∧ (t.core g).far = [] ∧ (t.core g).fnext = [] ∧ (t.core g).popped = [] ∧
        (t.core g).stack = [] ∧
      t.flag FAULT_STAT FAULT_STAT_CAPACITY = true ∧ (∀ f : Nat, (s.frame f).atCore = true → (s.frame f).core = g.val →
        (t.frame f).atCore = false) ∧
      (t.core g).g = c.g ∧ (t.core g).q = c.q ∧ (t.core g).dmem = c.dmem ∧ alone t ∧ t.fuses = s.fuses ∧
      (s.pwrq = [] → s.domain g = 2 → t.domain g = 3 ∧ ∃ r, t.pwrq = [⟨false, g.val, some (some k, r)⟩] ∧ r.cls = cls ∧ r.kind = 1 ∧
        r.index = g.val ∧
        r.action = 3 ∧ r.info0 = BitVec.ofNat 32 info0) ∧
      (∀ h, spare = some h → st = 0 → t.rotState h = 0)
    let same (t : State) : Prop := t = s
    (st = 1 → s.qdepth g = 0 → Does s (.rotDrainDone g) fun t => t.rotState g = 2 ∧ alone t ∧ let y := t.core g
      y.run = false ∧ y.g = [] ∧ y.a = [] ∧ y.o = [] ∧ y.m = [] ∧ y.acc = [] ∧ y.q = [] ∧ y.p = [] ∧ y.cr = crReset ∧ y.slots = [] ∧
        y.flight = [] ∧
      y.far = [] ∧ y.stack = [] ∧ y.btbKey = [] ∧ y.btb = [] ∧ y.krgn = c.krgn ∧ y.slotB = c.slotB ∧ y.resetSub = 2 ∧
        y.imem = c.imem ∧ y.dmem = c.dmem ∧
      y.dbOwn = Core.reset.dbOwn ∧ ∀ i : Fin 32, t.src (prKey g i) = Src.reset) ∧
    (st ≠ 1 ∨ s.qdepth g ≠ 0 → Does s (.rotDrainDone g) same) ∧
    (st = 1 → s.qdepth g ≠ 0 → Does s (.rotDrainTimeout g) fun t => t.now = max s.now ((s.rotOf g).at_ + 2000 * max 1 (s.fld (ROT_CTL k) ROT_CTL_DRAIN_LIMIT)) ∧
      fenced 15 1 t) ∧
    (st ≠ 1 → Does s (.rotDrainTimeout g) same) ∧
    (st = 2 → lok = true → mok = true → s.flag (MREP k (g.val % 8)) MREP_FAIL = false → Does s (.bistDone g lok mok) fun t =>
      t.rotState g = 3 ∧ t.flag a ROT_CORE_BIST_PASS = true ∧ t.rd64 (BIST_CNT k 0) = (s.rd64 (BIST_CNT k 0) + 1) % 2 ^ 64 ∧
      t.now = max s.now ((s.rotOf g).at_ + 2400000) ∧ RegsBut [a, BIST_CNT k 0, BIST_CNT k 0 + 4] s t ∧
      t = { s.signals t with regs := t.regs, rot := t.rot, now := t.now }) ∧
    (st = 2 → lok = false ∨ mok = false ∨ s.flag (MREP k (g.val % 8)) MREP_FAIL = true → Does s (.bistDone g lok mok) fun t =>
      t.flag a ROT_CORE_BIST_PASS = false ∧ t.rd64 (BIST_CNT k 1) = (s.rd64 (BIST_CNT k 1) + 1) % 2 ^ 64 ∧
        t.now = max s.now ((s.rotOf g).at_ + 2400000) ∧
      fenced 15 (if lok then 3 else 2) t) ∧
    (st ≠ 2 → Does s (.bistDone g lok mok) same) ∧
    (st = 3 → (s.rotOf g).starting = false → Does s (.release g) fun t =>
      let swap := s.flag a ROT_CORE_MIRROR_SWAP || decide (2 ≤ s.warden.images.length)
      let y := t.core g
      let byte (sl i : Nat) : Byte := y.imem.get 0 (0x10000 * sl + i)
      y.slotB = (c.slotB != swap) ∧ y.run = true ∧ y.pc = BitVec.ofNat 32 (if y.slotB then 0x10000 else 0) ∧ y.dmem = Mem.zero ∧
        y.g = [] ∧ y.q = [] ∧
      y.dbOwn = [] ∧ y.cr = SMap.set tw0 crReset 1 ⟨BitVec.ofNat 32 (c.resetSub * 256), Tint.clean⟩ ∧ y.slots = [] ∧
      (∀ i : Fin 65536, byte (b2n c.slotB) i.val = match s.warden.images[0]? with
        | some m => (m.body[i.val]?).getD 0
        | none => 0) ∧
      (∀ i : Fin 65536, byte (1 - b2n c.slotB) i.val = match s.warden.images[1]? with
        | some m => (m.body[i.val]?).getD 0
        | none => 0) ∧
      t.flag a ROT_CORE_SLOT = y.slotB ∧ t.flag a ROT_CORE_MIRROR_SWAP = false ∧ t.rotState g = 3 ∧ (t.rotOf g).starting = true ∧
      t.fld a ROT_CORE_EPOCH = ((s.warden.images[if 2 ≤ s.warden.images.length then 1 else 0]?).map CoreImage.epoch).getD 0 % 256 ∧
      RegsBut [a] s t ∧ SMap.But Core.reset [g.val] s.cores t.cores ∧
        t = { s with regs := t.regs, cores := t.cores, rot := t.rot, free := s.free + 1 }) ∧
    (st ≠ 3 ∨ (s.rotOf g).starting = true → Does s (.release g) same) ∧
    (c.run = true → c.pl ≠ 0 → v &&& 1 = 1 → st = 3 → (s.rotOf g).starting = true → s.flag MIRROR_STAT MIRROR_STAT_ACTIVE = false →
      Does s (.rotRdy g v) fun t =>
      t.rotState g = (if (s.rotOf g).first = true ∧ g.val % 8 ≠ s.fld (ROT_STAT k) ROT_STAT_OUT_CORE then 0 else 4) ∧
      t.core g = { c with resetSub := 2 } ∧ (∀ sd : Fin 2, t.fld (CORE_Q sd g) CORE_Q_EPOCH = s.fld a ROT_CORE_EPOCH) ∧
      RegsBut [a, CORE_Q 0 g, CORE_Q 1 g] s t ∧ t = { s with regs := t.regs, cores := t.cores, rot := t.rot }) ∧
    (c.run = true → c.pl = 0 → Does s (.rotRdy g v) fun t => t = s.enter g ⟨false, 6, 0, some 0x9000388, c.pc, none⟩) ∧
    (st = 3 → (s.rotOf g).starting = true → Does s (.startupTimeout g) fun t => t.now = max s.now ((s.rotOf g).at_ + 100000) ∧
      fenced 15 4 t) ∧
    (st ≠ 3 ∨ (s.rotOf g).starting = false → Does s (.startupTimeout g) same) ∧
    (st ≠ 5 → st ≠ 6 → Does s (.coreFence g) fun t => fenced 25 st t ∧ t.now = s.now) ∧
    (st = 5 ∨ st = 6 → Does s (.coreFence g) same) ∧
    Does s (.btbKeyWrite g x v) (fun t => t.core g = { c with btbKey := (t.core g).btbKey, btb := (t.core g).btb } ∧
      (t.core g).btbKey = c.btbKey.set 0 x.toNat (v.truncate 8) ∧ (∀ e ∈ (t.core g).btb, e ∈ c.btb ∧ e.2.ctx ≠ x.toNat) ∧
      (∀ e ∈ c.btb, e.2.ctx ≠ x.toNat → e ∈ (t.core g).btb) ∧ t = { s with cores := t.cores } ∧
        SMap.But Core.reset [g.val] s.cores t.cores) ∧
    Does s (.krgnWrite g b n v) (fun t =>
      let sl := 4 * b2n b
      let base := (v.extractLsb' 21 10).toNat
      let lines := (v.extractLsb' 11 10).toNat + 1
      let clash (m : Fin 4) : Prop := let w := c.krgn.get 0 (sl + m.val)
        m.val ≠ n.toNat ∧ w.getLsbD 31 = true ∧ base < (w.extractLsb' 21 10).toNat + (w.extractLsb' 11 10).toNat + 1 ∧
          (w.extractLsb' 21 10).toNat < base + lines
      let ok : Prop := 32 ≤ base ∧ base + lines ≤ 1024 ∧ (v.extractLsb' 5 6).toNat ≤ lines ∧ ¬∃ m : Fin 4, clash m
      t.core g = { c with krgn := c.krgn.set 0 (sl + n.toNat) ((if ok then v else v &&& 0x7FFFFFFF) &&& 0xFFFFFFE0) } ∧
      t = { s with cores := t.cores } ∧ SMap.But Core.reset [g.val] s.cores t.cores) ∧
    (s.flag MIRROR_STAT MIRROR_STAT_ACTIVE = true → (∀ h : CoreId, s.rotState h = 5 ∨ s.rotState h = 6 ∨
        (s.rotState h = 0 ∨ s.rotState h = 1 ∨ s.rotState h = 4) ∧ s.coreEpoch h = s.fld MIRROR_STAT MIRROR_STAT_NEW_EPOCH) →
          Does s .mirrorDone fun t =>
      let old := s.fld MIRROR_STAT MIRROR_STAT_OLD_EPOCH
      t.flag MIRROR_STAT MIRROR_STAT_ACTIVE = false ∧ t.flag MIRROR_STAT MIRROR_STAT_DONE = true ∧
      (t.src (devKey 55)).occ = min ((s.src (devKey 55)).occ + 1) 255 ∧
        (∀ i : Fin 12, t.rd (ROT_STEPR i) = s.warden.oldStep.get 12500000 i) ∧
      (∀ i : Fin 2, s.fld (COST_STAT i) COST_STAT_EPOCH = old → old ≠ s.fld MIRROR_STAT MIRROR_STAT_NEW_EPOCH →
        t.flag (COST_STAT i) COST_STAT_VALID = false) ∧
      (∀ i ∈ t.warden.images, i.epoch ≠ old) ∧ (∀ i ∈ s.warden.images, i.epoch ≠ old → i ∈ t.warden.images) ∧
      RegsBut ([MIRROR_STAT, COST_STAT 0, COST_STAT 1] ++ (List.range 12).map ROT_STEPR) s t ∧ t.cores = s.cores ∧ t.cl = s.cl))

/-- R456: a read of word 0 of a record pop gives the oldest record of the highest class and captures words 1 to 3; the
Warden takes it from either queue and a core from its own cluster's; the host and the Lens only read. An empty queue
reads 0. A user-level core is refused. -/
def Obligations.ErrorRecordPops : Prop :=
  ∀ (s : State) (c : ClId) (g : CoreId),
    let key (who : Prin) : Nat := prinKey who
    let cap (who : Prin) (off : Nat) (w : Nat →
        Word) : SMap (Option (Nat × List Word)) := s.recCap.set none (key who) (some (off, [w 1, w 2, w 3]))
    let reads (q q' : List ErrRec) (w : Nat → Word) (pops : Bool) : Prop :=
      (q = [] → q' = q ∧ ∀ i : Fin 4, w i = 0) ∧
      (q ≠ [] → ∃ i : Fin q.length, (∀ n : Fin 4, w n = q[i].word n) ∧ (∀ j : Fin q.length, q[j].sev ≤ q[i].sev) ∧
        (∀ j : Fin q.length, j < i → q[j].sev < q[i].sev) ∧ q' = if pops then q.eraseIdx i else q)
    let word (t : State) (who : Prin) (off w : Nat) : Word := match t.recCap.get none (key who) with
      | some (o, l) => if o = off then l.getD (w - 1) 0 else 0
      | none => 0
    let e := ERRQ_POPR c 0
    let x := s.clu c
    let shown (t : State) (who : Prin) (off : Nat) : Option Word := match t.out.getLast? with
      | some (.word p o w) => if p = who ∧ o = off ∧ t.out.length = s.out.length + 1 then some w else none
      | _ => none
    (s.blockOn e = true → ∀ who ∈ [Prin.warden, .host, .lens], Does s (.errqPop who c) fun t => (shown t who e).isSome = true ∧
      reads x.errq (t.clu c).errq (fun n => if n = 0 then (shown t who e).getD 0 else word t who e n) (who == .warden) ∧
      t.recCap = cap who e (word t who e) ∧ (t.clu c) = { x with errq := (t.clu c).errq } ∧
        SMap.But Cluster.reset [c.val] s.cl t.cl ∧
      t = { s with cl := t.cl, recCap := t.recCap, out := t.out }) ∧
    (s.blockOn e = true → (s.core g).pl ≠ 0 → Does s (.errqPop (.core g) c) fun t => t = { s with cl := t.cl, recCap := t.recCap } ∧
      t.recCap = cap (.core g) e (word t (.core g) e) ∧ (t.clu c) = { x with errq := (t.clu c).errq } ∧
      ((x.errq = [] ∧ (t.clu c).errq = []) ∨
        ∃ i : Fin x.errq.length, (t.clu c).errq = if g.val / 8 = c.val then x.errq.eraseIdx i else x.errq)) ∧
    (s.blockOn e = true → (s.core g).pl = 0 → Does s (.errqPop (.core g) c) fun t => t = s.accRefused (.core g) e false 1) ∧
    (∀ who ∈ [Prin.warden, .host, .lens], Does s (.derrqPop who) fun t => (shown t who (DERRQ_POPR 0)).isSome = true ∧
      reads s.derrq t.derrq (fun n => if n = 0 then (shown t who (DERRQ_POPR 0)).getD 0 else word t who (DERRQ_POPR 0) n) (who == .warden) ∧
      t.recCap = cap who (DERRQ_POPR 0) (word t who (DERRQ_POPR 0)) ∧
        t = { s with derrq := t.derrq, recCap := t.recCap, out := t.out })

/-- R345, R386, R447 to R449, R471 to R474, R490, R492: a power command turns its domain to QUIESCING or POWERING_UP
when its condition holds, and otherwise ends with its RESULT and source 58; a second one while BUSY is only counted. A
drained domain is OFF and loses what it does not keep; a quiesce that times out leaves it ON; a domain powered up is
ON, a core in TEST. A Dust release powers up a fenced unit's domains, and ends with the fence cleared or with FAILED.
-/
def Obligations.PowerAndDust : Prop :=
  ∀ (s : State) (v : Word) (c : PwrCmd),
    let ps := PWR_CMD_STAT
    let d := v.toNat % 128
    let busy := s.flag ps PWR_CMD_STAT_BUSY
    let ended (d result : Nat) (t : State) : Prop := t.flag ps PWR_CMD_STAT_BUSY = false ∧ t.fld ps PWR_CMD_STAT_RESULT = result ∧
      t.fld ps PWR_CMD_STAT_DOMAIN = d ∧ (t.src (devKey 58)).occ = min ((s.src (devKey 58)).occ + 1) 255
    let begun (d : Nat) (up : Bool) (t : State) : Prop := t.flag ps PWR_CMD_STAT_BUSY = true ∧ t.fld ps PWR_CMD_STAT_DOMAIN = d ∧
      t.domain d = (if up then 1 else 3) ∧ t.pwrq = [⟨up, d, none⟩] ∧ t.pwrAt = s.now
    let command (up : Bool) (t : State) : Prop :=
      (busy = true → t.rd64 PWR_CMD_IGNORED = (s.rd64 PWR_CMD_IGNORED + 1) % 2 ^ 64 ∧
        RegsBut [PWR_CMD_IGNORED, PWR_CMD_IGNORED + 4] s t ∧
        t = { s with regs := t.regs }) ∧
      (busy = false → t.cores = s.cores ∧ t.cl = s.cl ∧ (122 ≤ d → ended d 3 t ∧ RegsBut [PWR_CMD, ps] s t) ∧
        (d < 122 → s.domain d = (if up then 2 else 0) → ended d 0 t ∧ RegsBut [PWR_CMD, ps] s t) ∧
        (d < 122 → s.domain d ≠ (if up then 2 else 0) → s.pwrCond d = false → ended d 2 t ∧ RegsBut [PWR_CMD, ps] s t) ∧
        (d < 122 → s.domain d ≠ (if up then 2 else 0) → s.pwrCond d = true → s.pwrq = [] → begun d up t ∧ (up = true →
          RegsBut [PWR_CMD, ps, PWR_STAT d] s t)))
    let alone : Prop := s.pwrq = [c]
    let noted (result : Nat) (t : State) : Prop := ∀ k, ∀ r, c.note = some (some k, r) → (s.clu k).errq.length < 8 → k < 12 →
      { r with info1 := if result = 1 then r.info1 ||| 0x80000000 else r.info1 } ∈ (t.clu k).errq
    let k := s.fld DUST_STAT DUST_STAT_KIND
    let i := s.fld DUST_STAT DUST_STAT_INDEX
    let kind := (v.fld DUST_CTL_KIND)
    let unit := (v.fld DUST_CTL_INDEX)
    let dbusy := s.flag DUST_STAT DUST_STAT_BUSY
    (Does s (.powerOff .warden v) (command false) ∧ Does s (.powerUp .warden v) (command true)) ∧
    (alone → c.up = false → c.d < 128 → s.drained c.d = true → s.now ≤ s.pwrAt + 20000 → Does s .domainDrained fun t =>
      t.domain c.d = 0 ∧ t.pwrq = [] ∧ ended c.d 0 t ∧ noted 0 t ∧ t.now = s.now ∧
      (∀ h : CoreId, h.val ≠ c.d → t.core h = s.core h) ∧
      (c.d < 96 → (t.core c.d).g = [] ∧ (t.core c.d).q = [] ∧ (t.core c.d).dmem = Mem.zero ∧ (t.core c.d).imem = [] ∧
        (t.core c.d).krgn = (s.core c.d).krgn ∧
        (t.core c.d).slotB = (s.core c.d).slotB) ∧
      (96 ≤ c.d → c.d < 108 → (t.clu (c.d - 96)).cmem = Mem.zero ∧ (t.clu (c.d - 96)).skb = [])) ∧
    (alone → c.up = false → c.d < 128 → s.drained c.d = false → Does s .quiesceTimeout fun t =>
      t.domain c.d = 2 ∧ t.pwrq = [] ∧ ended c.d 1 t ∧ noted 1 t ∧ t.now = max s.now (s.pwrAt + 20000) ∧ t.cores = s.cores) ∧
    (alone → c.up = true → c.d < 128 → Does s .powerUpDone fun t =>
      t.domain c.d = 2 ∧ t.pwrq = [] ∧ ended c.d 0 t ∧ (c.d < 96 → t.rotState c.d = 2 ∧ (t.core c.d).g = [] ∧
        (t.core c.d).run = false) ∧
      (96 ≤ c.d → c.d < 108 → (t.clu (c.d - 96)).cmem = Mem.zero ∧ (t.clu (c.d - 96)).skb = []) ∧
      (108 ≤ c.d → c.d < 116 → t.flag (QUAD_CTL ((c.d - 108) / 4) ((c.d - 108) % 4)) QUAD_CTL_CAL_DONE = true)) ∧
    (s.pwrq = [] → (Does s .domainDrained fun t => t = s) ∧ (Does s .quiesceTimeout fun t => t = s) ∧
      (Does s .powerUpDone fun t => t = s)) ∧
    (v.fld DUST_CTL_RELEASE = 1 → dbusy = true → Does s (.dustRelease v) fun t => t = s) ∧
    (v.fld DUST_CTL_RELEASE = 1 → dbusy = false → s.unitFenced kind unit = false → Does s (.dustRelease v) fun t =>
      t.flag DUST_STAT DUST_STAT_FAILED = true ∧ t.flag DUST_STAT DUST_STAT_BUSY = false ∧ t.fld DUST_STAT DUST_STAT_KIND = kind ∧
      t.fld DUST_STAT DUST_STAT_INDEX = unit ∧ RegsBut [DUST_CTL, DUST_STAT] s t ∧ t = { s with regs := t.regs }) ∧
    (v.fld DUST_CTL_RELEASE = 1 → dbusy = false → s.unitFenced kind unit = true → kind = 1 ∨ kind = 7 → s.pwrq = [] →
      s.domain (if kind = 1 then unit else 108 + unit) = 0 → Does s (.dustRelease v) fun t =>
      t.flag DUST_STAT DUST_STAT_BUSY = true ∧ t.flag DUST_STAT DUST_STAT_FAILED = false ∧ t.fld DUST_STAT DUST_STAT_KIND = kind ∧
      t.fld DUST_STAT DUST_STAT_INDEX = unit ∧ begun (if kind = 1 then unit else 108 + unit) true t ∧ t.cores = s.cores) ∧
    (v.fld DUST_CTL_RELEASE = 0 → Does s (.dustRelease v) fun t => t.rd DUST_CTL = v &&& 0xFFFF ∧ RegsBut [DUST_CTL] s t ∧
      t = { s with regs := t.regs }) ∧
    (dbusy = false → (Does s (.dustReleaseDone true) fun t => t = s) ∧ (Does s (.dustReleaseDone false) fun t => t = s)) ∧
    (dbusy = true → s.unitReady k i = true → Does s (.dustReleaseDone true) fun t => t.flag DUST_STAT DUST_STAT_BUSY = false ∧
      t.flag DUST_STAT DUST_STAT_FAILED = s.flag DUST_STAT DUST_STAT_FAILED ∧ t.cores = s.cores ∧ (k = 2 → (t.clu i).sheet = 0) ∧
      (k = 1 → RegsBut [DUST_STAT] s t ∧ t = { s with regs := t.regs }) ∧
      (k = 7 → t.flag (QUAD_CTL (i / 4) (i % 4)) QUAD_CTL_FENCE = false ∧
        t.fld (QUAD_CTL (i / 4) (i % 4)) QUAD_CTL_FAULT_CODE = 0)) ∧
    (dbusy = true → s.unitReady k i = false → Does s (.dustReleaseDone true) fun t => t = s) ∧
    (dbusy = true → Does s (.dustReleaseDone false) fun t => t.flag DUST_STAT DUST_STAT_BUSY = false ∧
      t.flag DUST_STAT DUST_STAT_FAILED = true ∧
      (k = 1 → s.rotState i ≠ 5 → s.rotState i ≠ 6 → t.rotState i = 5) ∧ (k = 2 → (t.clu i).sheet = (s.clu i).sheet))

/-- R482 to R484, R494 to R496: a reference that fails moves both PLLs to the other one with AUTO, or into holdover
where that one is bad too; lock on it ends the switch, counted and recorded. A failed PLL or a write of PLL_SEL moves
the root to a good standby, counted and recorded; a write without one is ignored; the standby returns within 1 ms.
R285, R297, R436, R482, R485 to R487, R495: POR_N and a failing supply make a power-on reset, WARM_N and WARM_REQ a
warm reset, which waits for DONE while zeroisation runs. A warm reset keeps SEC, CLK but CLK_EVT, FAULT_STAT, the root
store and the fuses; a power-on reset the root store and the fuses. Droop and heat set MON_EVT and are recorded; two
samples above TRIP reset the device, which holds itself until all sensors are below 100 °C. TINT_CTL takes effect two
CCLK later. -/
def Obligations.ClocksAndResets : Prop :=
  (∀ (s : State) (b : Bool) (pa pb : BitVec 16),
    let st (f : Fld) (t : State) : Bool := t.flag CLK_STAT f
    let ok (b : Bool) : Fld := if b then CLK_STAT_REF_B_OK else CLK_STAT_REF_A_OK
    let lock (b : Bool) : Fld := if b then CLK_STAT_PLL_B_LOCK else CLK_STAT_PLL_A_LOCK
    let sel := s.flag CLK_CTL CLK_CTL_REF_SEL
    let pll := s.flag CLK_CTL CLK_CTL_PLL_SEL
    let now (t : State) : Prop := t = { s.signals t with regs := t.regs, clk := t.clk, derrq := t.derrq, lastRec := t.lastRec } ∧
        t.srcs = s.srcs
    let evt (f : Fld) (t : State) : Prop := t.flag CLK_EVT f = true
    let moved (rt : Bool) (good : Bool) (t : State) : Prop := t.flag CLK_CTL CLK_CTL_REF_SEL = rt ∧
        st CLK_STAT_PLL_A_LOCK t = false ∧
      st CLK_STAT_PLL_B_LOCK t = false ∧ t.clk = { s.clk with switching := good } ∧ st CLK_STAT_HOLDOVER t = !good ∧
      (good = false → st CLK_STAT_HOLDOVER s = false → evt CLK_EVT_HOLDOVER t) ∧ RegsBut [CLK_CTL, CLK_STAT, CLK_EVT] s t ∧ now t
    let count (a : Nat) (t : State) : Prop := t.rd64 a = (s.rd64 a + 1) % 2 ^ 64
    let recd (cls : Nat) (t : State) : Prop := s.derrq.length < 16 → ∃ r ∈ t.derrq, t.derrq = s.derrq ++ [r] ∧ r.cls = cls ∧
        r.time = s.timebase
    let plls (rt : Bool) (fault : Bool) (t : State) : Prop := t.flag CLK_CTL CLK_CTL_PLL_SEL = rt ∧ st CLK_STAT_STBY_OK t = false ∧
      (fault = true → st (lock (!rt)) t = false) ∧ evt CLK_EVT_PLL_SWITCH t ∧ count PLL_SWITCHES t ∧ recd 21 t ∧
        t.clk = { s.clk with pllAt := s.now + 1 } ∧
      RegsBut [CLK_CTL, CLK_STAT, CLK_EVT, PLL_SWITCHES, PLL_SWITCHES + 4, DERRQ_STAT, DERRQ_OVF, DERRQ_OVF + 4, FAULT_STAT] s t ∧
        now t
    let far (p : BitVec 16) : Prop := 2000 < p.toInt ∨ p.toInt < -2000
    let agree : Prop := (pa.toInt - pb.toInt).natAbs ≤ 2000
    let active : Prop := s.flag CLK_CTL CLK_CTL_AUTO = true ∧ sel = b ∧ st CLK_STAT_HOLDOVER s = false
    (active → Does s (.refclkFault (!b)) fun t => moved (!b) (st (ok (!b)) s) t ∧ st (ok b) t = false) ∧
    (¬active → Does s (.refclkFault (!b)) fun t => st (ok b) t = false ∧ RegsBut [CLK_STAT] s t ∧ now t ∧ t.clk = s.clk) ∧
    (st CLK_STAT_HOLDOVER s = true → Does s (.refclkRecover (!b)) fun t => moved b true t ∧ st (ok b) t = true) ∧
    (st CLK_STAT_HOLDOVER s = false → Does s (.refclkRecover (!b)) fun t => st (ok b) t = true ∧ RegsBut [CLK_STAT] s t ∧ now t ∧
      t.clk = s.clk) ∧
    (sel ≠ b → Does s (.refSel .warden b) fun t => moved b (st (ok b) s) t) ∧
    (sel = b → Does s (.refSel .warden b) fun t => t = s) ∧
    (s.clk.switching = true → st (ok sel) s = true → Does s .refSwitchDone fun t => t.clk = { s.clk with switching := false } ∧
      st CLK_STAT_PLL_A_LOCK t = true ∧ st CLK_STAT_PLL_B_LOCK t = true ∧ evt CLK_EVT_REF_SWITCH t ∧ count REF_SWITCHES t ∧
        recd 20 t ∧ now t) ∧
    (s.clk.switching = true → st (ok sel) s = false → Does s .refSwitchDone fun t => moved sel false t) ∧
    (s.clk.switching = false → Does s .refSwitchDone fun t => t = s) ∧
    Does s (.refFreqWindow pa pb) (fun t => t.fld (REF_PPM 0) ⟨15, 0⟩ = pa.toNat ∧ t.fld (REF_PPM 1) ⟨15, 0⟩ = pb.toNat ∧
      st CLK_STAT_REF_DISAGREE t = decide (far pa ∧ far pb ∧ agree) ∧ (far pa → ¬far pb → st CLK_STAT_REF_A_OK t = false) ∧
      (far pb → ¬far pa → st CLK_STAT_REF_B_OK t = false) ∧ (¬far pa → st CLK_STAT_REF_A_OK t = st CLK_STAT_REF_A_OK s) ∧
      (far pa → far pb → agree → st CLK_STAT_REF_DISAGREE s = false → evt CLK_EVT_DISAGREE t) ∧
      ((far pa ↔ far pb) → t.flag CLK_CTL CLK_CTL_REF_SEL = sel ∧ t.clk = s.clk)) ∧
    (st CLK_STAT_STBY_OK s = true → Does s .pllFault fun t => plls (!pll) true t) ∧
    (st CLK_STAT_STBY_OK s = false → Does s .pllFault fun t => st (lock pll) t = false ∧ RegsBut [CLK_STAT] s t ∧ now t ∧
      t.clk = s.clk) ∧
    (st CLK_STAT_STBY_OK s = true → pll ≠ b → Does s (.pllSel .warden b) fun t => plls b false t) ∧
    (st CLK_STAT_STBY_OK s = false ∨ pll = b → Does s (.pllSel .warden b) fun t => t = s) ∧
    (st CLK_STAT_STBY_OK s = false → s.clk.pllAt = 0 ∨ s.now + 1 ≤ s.clk.pllAt + 2000000 → Does s .standbyRelock fun t =>
      st CLK_STAT_STBY_OK t = true ∧ st (lock (!pll)) t = true ∧ t.clk = { s.clk with pllAt := 0 } ∧ RegsBut [CLK_STAT] s t ∧
        now t) ∧
    (st CLK_STAT_STBY_OK s = true ∨ (s.clk.pllAt ≠ 0 ∧ s.clk.pllAt + 2000000 < s.now + 1) → Does s .standbyRelock fun t => t = s) ∧
    (st CLK_STAT_STBY_OK s = true → Does s .standbyLost fun t => st CLK_STAT_STBY_OK t = false ∧ evt CLK_EVT_STBY_LOST t ∧
      RegsBut [CLK_STAT, CLK_EVT] s t ∧ now t) ∧
    (st CLK_STAT_STBY_OK s = false → Does s .standbyLost fun t => t = s)) ∧
  (∀ (s : State) (n : BitVec 4) (l : List (BitVec 16)) (v : Word),
    let zero := s.flag ZEROISE_STAT ZEROISE_STAT_RUNNING
    let cleared (t : State) : Prop := (∀ g : CoreId, let y := t.core g
        y.g = [] ∧ y.q = [] ∧ y.acc = [] ∧ y.p = [] ∧ y.slots = [] ∧ y.dmem = Mem.zero ∧ y.imem = [] ∧ y.run = false ∧
          y.cr = crReset ∧ t.rotState g = 3 ∧ (t.rotOf g).first = true) ∧
      (∀ c : ClId, (t.clu c).cmem = Mem.zero ∧ (t.clu c).skb = [] ∧ (t.clu c).errq = []) ∧ t.derrq = [] ∧ t.frames = [] ∧
        t.vault.keys = [] ∧
      t.vault.handles = [] ∧ t.warden = Warden.reset ∧ t.mbx = Mbx.reset ∧ t.msixTab = [] ∧ t.root = s.root ∧ t.fuses = s.fuses ∧
        t.flash = s.flash ∧ t.out = s.out
    let kept (off : Nat) : Prop := (0x420000 ≤ off ∧ off < 0x430000) ∨ (0x450000 ≤ off ∧ off < 0x460000 ∧ off ≠ CLK_EVT) ∨
        off = FAULT_STAT
    let warm (cause : Nat) (t : State) : Prop := cleared t ∧ t.fld RST_STAT RST_STAT_CAUSE = cause ∧ t.now = s.now ∧
      t.fld RST_STAT RST_STAT_WARM_COUNT = min (s.fld RST_STAT RST_STAT_WARM_COUNT + 1) 65535 ∧
        (∀ g : CoreId, (t.core g).resetSub = 1) ∧
      ∀ off : Nat, off ≠ RST_STAT → (kept off → t.rd off = s.rd off) ∧ (¬kept off → t.rd off = rstWord off)
    let waits (d : Nat) (t : State) : Prop := t = { s with clk := { s.clk with deferred := if s.clk.deferred = 0 then d else min d s.clk.deferred } }
    let mon (f : Fld) (t : State) : Prop := t.flag MON_EVT f = true
    let deg (k limit : Nat) : Prop := (16 * limit : Int) < (l.getD k 0).toInt
    let hot (f : Fld) (k : Nat) : Prop := deg k (s.fld THERM_CFG f)
    let a := s.regsWf = true ∧ ∀ c : ClId, (s.clu c).sheet ≠ 2
    (zero = true → (Does s .powerOnReset (waits 1)) ∧ (Does s .warmReset (waits 4)) ∧ (Does s .warmReq (waits 5))) ∧
    (zero = false → a → (Does s .warmReset (warm 4)) ∧ (Does s .warmReq (warm 5))) ∧
    (zero = false → Does s .powerOnReset fun t => cleared t ∧ t.now = 0 ∧ t.regs = []) ∧
    (n.toNat < 6 → zero = false → Does s (.brownOut n) fun t => cleared t ∧ t.now = 0 ∧ RegsBut [RST_STAT] { s with regs := [] } t ∧
      (n = 5 → t.regs = []) ∧ (n.toNat < 5 → t.fld RST_STAT RST_STAT_CAUSE = 2 ∧
        t.fld RST_STAT RST_STAT_WARM_COUNT = s.fld RST_STAT RST_STAT_WARM_COUNT)) ∧
    (6 ≤ n.toNat → Does s (.brownOut n) fun t => t = s) ∧
    (n.toNat < 6 → Does s (.supplyDroop n) fun t => mon ⟨n.toNat, n.toNat⟩ t ∧
      t.rd64 (DROOP_WARN n.toNat) = (s.rd64 (DROOP_WARN n.toNat) + 1) % 2 ^ 64 ∧
      (s.lastRec.get 0 (22 * 65536 + n.toNat) = 0 → s.derrq.length < 16 → ∃ r ∈ t.derrq, t.derrq = s.derrq ++ [r] ∧ r.cls = 22 ∧
        r.info0 = BitVec.ofNat 32 n.toNat) ∧
      (s.lastRec.get 0 (22 * 65536 + n.toNat) = s.now + 1 → t.derrq = s.derrq) ∧ t.cores = s.cores ∧ t.cl = s.cl) ∧
    (n = 6 → Does s (.supplyDroop n) fun t => mon MON_EVT_VBAT_LOW t ∧ RegsBut [MON_EVT] s t ∧ t.derrq = s.derrq) ∧
    (6 < n.toNat → Does s (.supplyDroop n) fun t => t = s) ∧
    (l.length = 24 → s.clk.hold = false → (∀ k : Fin 24, hot THERM_CFG_TRIP k → bitN s.clk.overTemp k = false) →
      Does s (.thermalSample l) fun t =>
      (∀ k : Fin 24, t.rd (THERM k) = (l.getD k 0).setWidth 32 ∧ bitN t.clk.overTemp k = decide (hot THERM_CFG_TRIP k)) ∧
      ((∃ k : Fin 24, hot THERM_CFG_WARN k) → mon MON_EVT_THERM_WARN t) ∧ ((∃ k : Fin 24, hot THERM_CFG_HOT k) →
        mon MON_EVT_THERM_HOT t) ∧
      (¬(∃ k : Fin 24, hot THERM_CFG_HOT k) → t.derrq = s.derrq) ∧ t.cores = s.cores ∧ t.cl = s.cl ∧ t.vault = s.vault) ∧
    (l.length = 24 → s.clk.hold = false → zero = false → (∃ k : Fin 24, hot THERM_CFG_TRIP k ∧ bitN s.clk.overTemp k = true) →
      Does s (.thermalSample l) fun t =>
      cleared t ∧ t.fld RST_STAT RST_STAT_CAUSE = 3 ∧ t.clk.hold = true ∧ t.faultN = true ∧ ∀ d : Fin 122, t.domain d = 0) ∧
    (l.length = 24 → s.clk.hold = true →
      Does s (.thermalSample l) fun t => t.clk = { s.clk with hold := decide (∃ k : Fin 24, ¬(l.getD k 0).toInt < 1600) } ∧
      t.cores = s.cores) ∧
    Does s (.tintRclrEnWrite v) (fun t => t.flag TINT_CTL TINT_CTL_RCLR_EN = v.getLsbD 0 ∧
      t.rd TINT_CTL &&& 0xFFFFFFFE = s.rd TINT_CTL &&& 0xFFFFFFFE ∧
      RegsBut [TINT_CTL] s t ∧ t = { s with regs := t.regs, cores := t.cores } ∧
        ∀ g : CoreId, t.core g = if v.getLsbD 0 = s.flag TINT_CTL TINT_CTL_RCLR_EN then s.core g
        else { s.core g with rclrOld := s.flag TINT_CTL TINT_CTL_RCLR_EN, rclrFrom := s.now + 2 }))

/-! Ports, Prism, delivery and Resequencer -/

/-- R45, R47, R48, R55, R57, R63 to R65, R67: enabling checks the configuration, which LINE_LOCK freezes, and sets
CFG_ERR or ENABLE; disabling abandons the frame in reception; a port whose last frame has left is DRAINED and idle. A
link comes up when R63 holds on an enabled, unfenced port, and falls on lost lock, hi_ber or a remote fault: counted,
shown, and its frames dropped with LINK_DOWN. The FEC counts codewords. R45, R47, R55, R58 to R60, R63, R66 to R69,
R447: a lane fenced by command or by a third failed calibration, and a quad fenced by command or fault, take down the
ports that own their lanes: FENCED, locks lost, idle, frames dropped with FENCED, FAULT_STAT set and recorded; a
quad's domain is powered off first. UNFENCE acts while no enabled port owns the lane. -/
def Obligations.LinePorts : Prop :=
  (∀ (s : State) (sd : Side) (p : PortId) (v : Word) (l : PortId) (sig cdr cal blk : Bool) (n : BitVec 8) (inFrame : Bool),
    let d := sideN sd
    let k := pkey d p
    let cfg := PORT_CFG d p
    let ps := PORT_STAT d p
    let on := s.portOn d p
    let x := s.rxOf k
    let w := s.portLanes d p
    let lanes := (List.range w).map fun i => p.val + i
    let cnt (i n : Nat) (t : State) : Prop := t.rd64 (PORT_CNT d p i) = (s.rd64 (PORT_CNT d p i) + n) % 2 ^ 64
    let evt (f : Fld) (t : State) : Prop := t.flag (PORT_EVT d p) f = true
    let c2 (i : Nat) : List Nat := [PORT_CNT d p i, PORT_CNT d p i + 4]
    let s1 := if s.flag (LINE_LOCKR d) LINE_LOCKR_LOCK then s else s.wr cfg ((s.rd cfg &&& ~~~0x0FFFCF33) ||| (v &&& 0x0FFFCF33))
    let err := s1.cfgErr d p
    let mine (y : Frame) : Prop := y.side = 1 - d ∧ y.eport = p ∧ y.drop = 0 ∧ (y.stage = .admitted ∨ y.stage = .released) ∧
        y.putty = none ∧ y.taken = none
    let aborted (t : State) : Prop := t.rxOf k = Rx.idle ∧ (x ≠ Rx.idle → x.oversize = false → cnt 2 1 t)
    let falls (up : Bool) (t : State) : Prop := t.flag ps PORT_STAT_LINK_UP = false ∧ t.cores = s.cores ∧ t.cl = s.cl ∧
        t.dma = s.dma ∧ t.vault = s.vault ∧
      (up = true → cnt 15 1 t ∧ evt PORT_EVT_LINK_DOWN t ∧ (∀ f : Nat, mine (s.frame f) → x.fid ≠ some f → (t.frame f).drop = 6 ∨
        t.frame f = Frame.none)) ∧
      ∀ f : Nat, f ∉ s.portFrames d p → x.fid ≠ some f → t.frame f = s.frame f
    let unlocked (t : State) : Prop := t.flag ps PORT_STAT_PCS_LOCK = false ∧ t.flag ps PORT_STAT_FEC_LOCK = false
    let drops := (s.portFrames d p).flatMap fun f => (s.frame f).counters 6
    let owner (q : PortId) (b : Bool) : Prop := s.portOn d q = b ∧ s.owns d q l = true
    let a := LANE_STAT d l
    let lane (t : State) : Prop := t.flag a LANE_STAT_SIG_DET = sig ∧ t.flag a LANE_STAT_CDR_LOCK = cdr ∧
        t.flag a LANE_STAT_CAL_DONE = cal ∧
      t.flag a LANE_STAT_TX_IDLE = s.flag a LANE_STAT_TX_IDLE ∧
        t.calFails.get 0 (16 * d + l) = if cal then 0 else s.calFails.get 0 (16 * d + l)
    (on = true ∨ v.getLsbD 31 = false → Does s (.portEnable sd p v) fun t => t = s) ∧
    (on = false → v.getLsbD 31 = true → err ≠ 0 → Does s (.portEnable sd p v) fun t => t.fld ps PORT_STAT_CFG_ERR = err ∧
      t.portOn d p = false ∧
      t.rd cfg = s1.rd cfg ∧ RegsBut [cfg, ps] s t ∧ t = { s with regs := t.regs }) ∧
    (on = false → v.getLsbD 31 = true → err = 0 → Does s (.portEnable sd p v) fun t => t.fld ps PORT_STAT_CFG_ERR = 0 ∧
      t.portOn d p = true ∧
      t.rd cfg = s1.rd cfg ||| 0x80000000 ∧ t.flag ps PORT_STAT_DRAINED = false ∧ t.cut.get 0 k = 0 ∧
      (∀ i ∈ (List.range (s1.portLanes d p)).map (fun i => p.val + i), t.flag (LANE_STAT d i) LANE_STAT_TX_IDLE = false) ∧
      RegsBut ([cfg, ps] ++ (List.range (s1.portLanes d p)).map fun i => LANE_STAT d (p + i)) s t ∧
        t = { s with regs := t.regs, cut := t.cut }) ∧
    (err = 0 → rateClass (s1.portType d p) (s1.fld cfg PORT_CFG_WIDTH) (s1.portFec d p) ≠ 0 ∧ p % s1.portLanes d p = 0 ∧
      64 ≤ s1.portMax d p ∧ s1.portMax d p ≤ 10240) ∧
    (on = false → Does s (.portDisable sd p) fun t => t = s) ∧
    (on = true → Does s (.portDisable sd p) fun t => t.portOn d p = false ∧ aborted t ∧
      t.rd cfg &&& 0x7FFFFFFF = s.rd cfg &&& 0x7FFFFFFF ∧ t.cores = s.cores ∧ t.cl = s.cl ∧
      (x.fid = none → RegsBut (cfg :: c2 2) s t ∧ t = { s with regs := t.regs, rx := t.rx })) ∧
    (on = true ∨ s.flag ps PORT_STAT_DRAINED = true ∨ s.portFrames d p ≠ [] → Does s (.portDrained sd p) fun t => t = s) ∧
    (on = false → s.flag ps PORT_STAT_DRAINED = false → s.portFrames d p = [] → Does s (.portDrained sd p) fun t =>
      t.flag ps PORT_STAT_DRAINED = true ∧ unlocked t ∧ t.fld ps PORT_STAT_LANE_LOCK = 0 ∧ falls (s.linkUp d p) t ∧
      (∀ i ∈ lanes, t.flag (LANE_STAT d i) LANE_STAT_TX_IDLE = true) ∧ (d = 1 → t.flag (ZTF_STAT p) ZTF_STAT_RUNNING = false) ∧
      t.eg d p = { s.eg d p with streamAt := 0 } ∧ t = { s.signals t with regs := t.regs, egress := t.egress }) ∧
    (on = false ∨ s.flag ps PORT_STAT_FENCED = true ∨ s.cut.get 0 k = 1 ∨ s.linkUp d p = true →
      Does s (.linkUp sd p) fun t => t = s) ∧
    (on = true → s.flag ps PORT_STAT_FENCED = false → s.cut.get 0 k ≠ 1 → s.linkUp d p = false → Does s (.linkUp sd p) fun t =>
      t.linkUp d p = true ∧ t.flag ps PORT_STAT_PCS_LOCK = true ∧ t.flag ps PORT_STAT_FEC_LOCK = true ∧
        t.fld ps PORT_STAT_LANE_LOCK = (2 ^ w - 1) % 256 ∧
      evt PORT_EVT_LINK_UP t ∧ (∀ i ∈ lanes, t.fld (LANE_STAT d i) ⟨3, 1⟩ = 7 ∧ t.fld (QUAD_CTL d (i / 4)) ⟨30, 29⟩ = 3) ∧
      RegsBut ([ps, PORT_EVT d p] ++ lanes.flatMap fun i => [LANE_STAT d i, QUAD_CTL d (i / 4)]) s t ∧
        t = { s.signals t with regs := t.regs }) ∧
    (∀ c ∈ [DownCause.lock, .hiBer, .remote], s.linkUp d p = false → Does s (.linkDown sd p c) fun t => t = s) ∧
    (s.linkUp d p = true → Does s (.linkDown sd p .remote) fun t => falls true t ∧ evt PORT_EVT_REMOTE_FAULT t ∧
      RegsBut ([ps, PORT_EVT d p] ++ c2 15 ++ drops) s t ∧
        t = { s.signals t with regs := t.regs, frames := t.frames, egress := t.egress }) ∧
    (s.linkUp d p = true → Does s (.linkDown sd p .hiBer) fun t => falls true t ∧ evt PORT_EVT_HI_BER t ∧ aborted t) ∧
    (s.linkUp d p = true → Does s (.linkDown sd p .lock) fun t => falls true t ∧ unlocked t ∧ t.fld ps PORT_STAT_LANE_LOCK = 0 ∧
      aborted t) ∧
    ((∀ q : PortId, owner q false ∨ s.owns d q l = false) → Does s (.laneRxLock sd l sig cdr cal blk) fun t => lane t ∧
      RegsBut [a] s t ∧ t = { s with regs := t.regs, calFails := t.calFails }) ∧
    (owner p true → (∀ q : PortId, q < p → owner q false ∨ s.owns d q l = false) →
      Does s (.laneRxLock sd l sig cdr cal blk) fun t => lane t ∧
      (∀ i : Fin 8, bitN (t.fld ps PORT_STAT_LANE_LOCK) i = if p.val + i.val = l.val then blk else bitN (s.fld ps PORT_STAT_LANE_LOCK) i) ∧
      (blk = true → RegsBut [a, ps] s t ∧ t = { s with regs := t.regs, calFails := t.calFails }) ∧
      (blk = false → falls (s.linkUp d p) t ∧ unlocked t ∧ aborted t)) ∧
    (on = false ∨ s.portFec d p = 0 → ∀ bad : Bool, Does s (.rxFecCodeword sd p n bad inFrame) fun t => t = s) ∧
    (on = true → s.portFec d p ≠ 0 → Does s (.rxFecCodeword sd p n true inFrame) fun t => cnt 13 1 t ∧ evt PORT_EVT_FEC_UNCORR t ∧
      t.rxOf k = { x with bad := inFrame || x.bad } ∧ RegsBut (PORT_EVT d p :: c2 13) s t ∧
        t = { s.signals t with regs := t.regs, rx := t.rx }) ∧
    (on = true → s.portFec d p ≠ 0 → Does s (.rxFecCodeword sd p n false inFrame) fun t => cnt 14 n.toNat t ∧ (n ≠ 0 → cnt 12 1 t) ∧
      (n = 0 → t = s) ∧
      RegsBut (c2 12 ++ c2 14) s t ∧ t = { s with regs := t.regs })) ∧
  (∀ (s : State) (sd : Side) (l : PortId) (q : QuadId),
    let d := sideN sd
    let fenced (t : State) (i : Nat) : Bool := t.flag (LANE_CFG d i) LANE_CFG_FENCE || t.flag (QUAD_CTL d (i / 4)) QUAD_CTL_FENCE
    let shown (t : State) : Prop := ∀ p : PortId, t.flag (PORT_STAT d p) PORT_STAT_FENCED =
      (List.range (s.portLanes d p)).any fun i => decide (p.val + i < 16) && fenced t (p + i)
    let live (p : Nat) : Bool := s.portOn d p || !s.flag (PORT_STAT d p) PORT_STAT_DRAINED
    let down (t : State) (p : Nat) : Prop := t.linkUp d p = false ∧ t.flag (PORT_STAT d p) PORT_STAT_PCS_LOCK = false ∧
      t.flag (PORT_STAT d p) PORT_STAT_FEC_LOCK = false ∧ t.fld (PORT_STAT d p) PORT_STAT_LANE_LOCK = 0 ∧
        t.rxOf (pkey d p) = Rx.idle ∧ t.cut.get 0 (pkey d p) = 1 ∧
      (∀ i ∈ List.range (s.portLanes d p), t.flag (LANE_STAT d (p + i)) LANE_STAT_TX_IDLE = true) ∧
      (s.linkUp d p = true → t.rd64 (PORT_CNT d p 15) = (s.rd64 (PORT_CNT d p 15) + 1) % 2 ^ 64 ∧
        t.flag (PORT_EVT d p) PORT_EVT_LINK_DOWN = true)
    let mine (p : Nat) (y : Frame) : Prop := y.side = 1 - d ∧ y.eport = p ∧ y.drop = 0 ∧ (y.stage = .admitted ∨
        y.stage = .released) ∧ y.putty = none ∧ y.taken = none
    let untouched (hit : Nat → Bool) (t : State) : Prop := t.cores = s.cores ∧ t.cl = s.cl ∧ t.vault = s.vault ∧
      (∀ p : PortId, hit p = true → live p = true → down t p) ∧
      (∀ p : PortId, hit p = false ∨ live p = false → t.linkUp d p = s.linkUp d p ∧ t.rxOf (pkey d p) = s.rxOf (pkey d p) ∧
        t.cut.get 0 (pkey d p) = s.cut.get 0 (pkey d p)) ∧
      (∀ p : PortId, ∀ f : Nat, hit p = true → live p = true → mine p (s.frame f) →
        (∀ r : PortId, (s.rxOf (pkey d r)).fid ≠ some f) →
        (t.frame f).drop = 5 ∨ t.frame f = Frame.none) ∧
      (∀ f : Nat, (∀ p : PortId, (hit p = true → live p = true → f ∉ s.portFrames d p) ∧ (s.rxOf (pkey d p)).fid ≠ some f) →
        t.frame f = s.frame f)
    let laneDown (t : State) : Prop := t.flag (LANE_CFG d l) LANE_CFG_FENCE = true ∧ shown t ∧ untouched (fun p => s.owns d p l) t ∧
      t.flag FAULT_STAT FAULT_STAT_PORT = true ∧
      (s.derrq.length < 16 → ∃ r ∈ t.derrq, t.derrq = s.derrq ++ [r] ∧ r.cls = 16 ∧ r.kind = 6 ∧ r.index = 16 * d + l.val ∧
        r.time = s.timebase)
    let isF := s.flag (LANE_CFG d l) LANE_CFG_FENCE
    let k := 16 * d + l.val
    let fails := s.calFails.get 0 k
    let calDown (n : Nat) (t : State) : Prop := t.flag (LANE_STAT d l) LANE_STAT_CAL_DONE = false ∧ t.calFails.get 0 k = n
    let owned := ∃ p : PortId, s.portOn d p = true ∧ s.owns d p l = true
    let a := QUAD_CTL d q
    let dom := 108 + 4 * d + q.val
    let quadDown (code : Nat) (t : State) : Prop := t.flag a QUAD_CTL_FENCE = true ∧ t.fld a QUAD_CTL_FAULT_CODE = code ∧ shown t ∧
        t.flag FAULT_STAT FAULT_STAT_PORT = true ∧
      untouched (fun p => (List.range 4).any fun i => s.owns d p (4 * q + i)) t ∧
      ((∀ p : PortId, s.portFrames d p = [] ∧ (s.rxOf (pkey d p)).fid = none) → s.pwrq = [] → s.domain dom ≠ 0 → t.domain dom = 3 ∧
        ∃ c ∈ t.pwrq, t.pwrq = [c] ∧ c.d = dom ∧ c.up = false ∧
        c.note = some (none, s.mkRec 17 3 7 (4 * d + q.val) 0 (BitVec.ofNat 32 code))) ∧
      (s.pwrq ≠ [] → t.pwrq = s.pwrq ++ [⟨false, dom, some (none, s.mkRec 17 3 7 (4 * d + q.val) 0 (BitVec.ofNat 32 code))⟩])
    let qf := s.flag a QUAD_CTL_FENCE
    (isF = true → Does s (.laneFence sd l) fun t => t = s) ∧
    (isF = false → Does s (.laneFence sd l) fun t => laneDown t ∧ t.calFails = s.calFails) ∧
    (fails < 2 → Does s (.laneCalFail sd l) fun t => calDown (fails + 1) t ∧ RegsBut [LANE_STAT d l] s t ∧
      t = { s with regs := t.regs, calFails := t.calFails }) ∧
    (2 ≤ fails → isF = false → Does s (.laneCalFail sd l) fun t => calDown 0 t ∧ laneDown t) ∧
    (2 ≤ fails → isF = true → Does s (.laneCalFail sd l) fun t => calDown 0 t ∧ RegsBut [LANE_STAT d l] s t ∧
      t = { s with regs := t.regs, calFails := t.calFails }) ∧
    (owned → Does s (.unfence sd l) fun t => t = s) ∧
    (¬owned → Does s (.unfence sd l) fun t => t.flag (LANE_CFG d l) LANE_CFG_FENCE = false ∧ shown t ∧
      RegsBut (LANE_CFG d l :: (List.range 16).map fun i => PORT_STAT d i) s t ∧ t = { s with regs := t.regs }) ∧
    (qf = true → (Does s (.quadFence sd q) fun t => t = s) ∧ (Does s (.quadFault sd q .parity) fun t => t = s) ∧
      (Does s (.quadFault sd q .pll) fun t => t.flag a QUAD_CTL_PLL_LOCK = false ∧ RegsBut [a] s t ∧
        t = { s with regs := t.regs }) ∧
      (Does s (.quadFault sd q .cal) fun t => t.flag a QUAD_CTL_CAL_DONE = false ∧ RegsBut [a] s t ∧
        t = { s with regs := t.regs })) ∧
    (qf = false → (Does s (.quadFence sd q) (quadDown 0)) ∧ (Does s (.quadFault sd q .parity) (quadDown 3)) ∧
      (Does s (.quadFault sd q .pll) fun t => quadDown 1 t ∧ t.flag a QUAD_CTL_PLL_LOCK = false) ∧
      (Does s (.quadFault sd q .cal) fun t => quadDown 2 t ∧ t.flag a QUAD_CTL_CAL_DONE = false)) ∧
    Does s (.lineLock sd) fun t => t.flag (LINE_LOCKR d) LINE_LOCKR_LOCK = true ∧ t.rd (LINE_LOCKR d) = s.rd (LINE_LOCKR d) ||| 1 ∧
      RegsBut [LINE_LOCKR d] s t ∧ t = { s with regs := t.regs })

/-- R47 to R54, R65, R71, R92, R105, R106, R108, R109, R113, R258: a cell received follows its frame, whose first one
enters the frame table and IN; the end of a frame is checked as R48 orders and counted; a frame already handed over
that fails is a late discard. The egress MAC sends the next released frame whole with its FCS, counted in OUT, or
abandons or drops it. R53, R54, R65, R105, R106, R108, R109, R113, R258: the egress MAC takes the next released frame
of a port whose link is up: out whole with its FCS, counted in OUT and its SA; late, dropped with DEADLINE; too long,
dropped; short of output or uncorrectable, abandoned with UNDERRUN, an event and a record. -/
def Obligations.FramePorts : Prop :=
  (∀ (s : State) (sd : Side) (p : PortId) (b : List Byte) (bad : Bool) (f : Nat),
    let d := sideN sd
    let k := pkey d p
    let x := s.rxOf k
    let y := s.frame f
    let all := x.bytes ++ b
    let m := s.portMax d p
    let c2 (i : Nat) : List Nat := [PORT_CNT d p i, PORT_CNT d p i + 4]
    let cnt (i n : Nat) (t : State) : Prop := t.rd64 (PORT_CNT d p i) = (s.rd64 (PORT_CNT d p i) + n) % 2 ^ 64
    let evt (g : Fld) (t : State) : Prop := t.flag (PORT_EVT d p) g = true
    let ctrl := nth 0 all 12 = 0x88 ∧ nth 0 all 13 = 0x08
    let others (t : State) : Prop := SMap.But Frame.none [f] s.frames t.frames ∧ t.cores = s.cores ∧ t.cl = s.cl
    let opened (cell : List Byte) (ended : Bool) (t : State) : Prop := t.nextFid = s.nextFid + 1 ∧
        t.rd64 (LEDGER d p 0) = (s.rd64 (LEDGER d p 0) + 1) % 2 ^ 64 ∧
      t.frame s.nextFid = { Frame.none with side := d, port := p, at_ := s.now, len := cell.length, fc := cell.length, ended := ended, pend := [cell], stage := .wait } ∧
      SMap.But Frame.none [s.nextFid] s.frames t.frames ∧ SMap.But Rx.idle [k] s.rx t.rx ∧
        t = { s.signals t with regs := t.regs, rx := t.rx, frames := t.frames, nextFid := t.nextFid }
    let late (t : State) : Prop := cnt 7 1 t ∧ evt PORT_EVT_LATE_DISCARD t ∧ others t ∧ (y.stage = .refused →
        t.frame f = Frame.none) ∧
      (y.stage = .wait → t.frame f = { y with discard := true, ended := true }) ∧
      (y.stage ≠ .refused → y.stage ≠ .wait → y.stage ≠ .gone → y.drop = 0 → (t.frame f).drop = 1 ∨ t.frame f = Frame.none)
    let hears := s.receives d p = true
    let goes (t : State) : Prop := t.rxOf k = { x with bytes := all } ∧ (y.stage = .refused →
        t.frame f = { y with len := all.length }) ∧
      (y.stage = .wait → t.frame f = { y with len := all.length, pend := y.pend ++ [b] }) ∧ (t.frame f).len = all.length ∧ others t ∧
        t.regs = s.regs
    let toCore := (y.stage = .admitted ∨ y.stage = .released) ∧ y.spill = none ∧ y.atCore = true
    let check : Nat := if bad || x.bad then 2 else if all.length < 64 then 3 else if m < all.length then 4
      else if all.drop (all.length - 4) ≠ toLE 4 (crc32 (all.take (all.length - 4))) then 5 else if ctrl then 6 else 0
    (¬hears ∨ b.length ≠ 256 ∨ x.oversize = true → Does s (.rxCell sd p b) fun t => t = s) ∧
    (hears → b.length = 256 → x.oversize = false → all.length ≤ m →
      (x.fid = none → all.length = 256 → x.bad = false → ¬ctrl → Does s (.rxCell sd p b) fun t => opened b false t ∧
        t.rxOf k = { x with bytes := all, fid := some s.nextFid } ∧ RegsBut [LEDGER d p 0, LEDGER d p 0 + 4] s t) ∧
      (x.fid = none → all.length ≠ 256 ∨ x.bad = true ∨ ctrl → Does s (.rxCell sd p b) fun t => t.rxOf k = { x with bytes := all } ∧
        t = { s with rx := t.rx }) ∧
      (x.fid = some f → ¬toCore → Does s (.rxCell sd p b) goes) ∧
      (x.fid = some f → toCore → Does s (.rxCell sd p b) fun t => t.rxOf k = { x with bytes := all } ∧ others t ∧
        t.frame f = { y with len := all.length, sent := y.sent + 1 } ∧
        (t.link (2 * (y.core / 8))).sent ++ (t.link (2 * (y.core / 8))).queue =
          (s.link (2 * (y.core / 8))).sent ++ (s.link (2 * (y.core / 8))).queue ++ [.cell f y.sent b false])) ∧
    (hears → b.length = 256 → x.oversize = false → m < all.length →
      (x.fid = none → Does s (.rxCell sd p b) fun t => cnt (if x.bad then 2 else 4) 1 t ∧
        t.rxOf k = { x with bytes := [], oversize := true } ∧
        RegsBut (c2 2 ++ c2 4) s t ∧ t = { s with regs := t.regs, rx := t.rx }) ∧
      (x.fid = some f → Does s (.rxCell sd p b) fun t => cnt (if x.bad then 2 else 4) 1 t ∧
        t.rxOf k = { x with bytes := [], oversize := true } ∧ late t)) ∧
    (¬hears ∨ 256 < b.length → Does s (.rxFrameEnd sd p b bad) fun t => t = s) ∧
    (hears → b.length ≤ 256 → x.oversize = true → x.fid = some f → Does s (.rxFrameEnd sd p b bad) fun t => t.rxOf k = Rx.idle ∧
      others t ∧
      t.frame f = (if y.stage = .refused then Frame.none else y) ∧ t = { s with rx := t.rx, frames := t.frames }) ∧
    (hears → b.length ≤ 256 → x.fid = none → x.oversize = true ∨ (all = [] ∧ bad = false ∧ x.bad = false) →
      Does s (.rxFrameEnd sd p b bad) fun t =>
      t.rxOf k = Rx.idle ∧ t = { s with rx := t.rx }) ∧
    (hears → b.length ≤ 256 → x.oversize = false → all ≠ [] → x.fid = none →
      (check = 0 → Does s (.rxFrameEnd sd p b bad) fun t => opened all true t ∧ cnt 0 1 t ∧ cnt 1 all.length t ∧
        t.rxOf k = Rx.idle ∧
        RegsBut (c2 0 ++ c2 1 ++ [LEDGER d p 0, LEDGER d p 0 + 4]) s t) ∧
      (check ≠ 0 → Does s (.rxFrameEnd sd p b bad) fun t => cnt check 1 t ∧ t.rxOf k = Rx.idle ∧ (check = 6 →
        evt PORT_EVT_MAC_CTRL_RX t) ∧
        RegsBut (PORT_EVT d p :: c2 check) s t ∧ t = { s.signals t with regs := t.regs, rx := t.rx })) ∧
    (hears → b.length ≤ 256 → x.oversize = false → all ≠ [] → x.fid = some f →
      (check ≠ 0 → Does s (.rxFrameEnd sd p b bad) fun t => cnt check 1 t ∧ t.rxOf k = Rx.idle ∧ late t) ∧
      (check = 0 → Does s (.rxFrameEnd sd p b bad) fun t => cnt 0 1 t ∧ cnt 1 all.length t ∧ t.rxOf k = Rx.idle ∧ others t ∧
        (y.stage = .refused → t.frame f = Frame.none) ∧
        (y.stage = .wait → t.frame f = { y with len := all.length, ended := true, pend := if b = [] then y.pend else y.pend ++ [b] }) ∧
        (toCore → t.frame f = Frame.none ∨ ((t.frame f).len = all.length ∧ (t.frame f).ended = true ∧ (t.frame f).prov = 0 ∧
          (t.frame f).sent = if b = [] then y.sent else y.sent + 1))))) ∧
  (∀ (s : State) (sd : Side) (p : PortId) (f : Nat) (rest : List Nat) (n : Nat) (r : Nat),
    let d := sideN sd
    let k := pkey d p
    let y := s.frame f
    let e := s.eg d p
    let m := s.portMax d p
    let have_ := y.out.flatten
    let cnt (i n : Nat) (t : State) : Prop := t.rd64 (PORT_CNT d p i) = (s.rd64 (PORT_CNT d p i) + n) % 2 ^ 64
    let inc (a n : Nat) (t : State) : Prop := t.rd64 a = (s.rd64 a + n) % 2 ^ 64
    let others (t : State) : Prop := SMap.But Frame.none [f] s.frames t.frames ∧ t.cores = s.cores ∧ t.cl = s.cl ∧
        SMap.But Egress.reset [k] s.egress t.egress
    let mine := y.side = 1 - d ∧ y.eport = p.val ∧ y.port < 16 ∧ y.sa < 4096 ∧ y.stage = .released ∧ y.drop = 0 ∧ y.taken = none ∧
        y.putty = none
    let lost (code : Nat) (t : State) : Prop := others t ∧ (t.frame f = Frame.none ∨ ((t.frame f).stage = .gone ∧
        (t.frame f).drop = code)) ∧
      (t.eg d p).released = e.released.filter (fun i => i ≠ f) ∧ inc (LEDGER y.side y.port 3) 1 t ∧
        inc (LEDGER_DROPPED y.side y.port code) 1 t
    let blocked := s.linkUp d p = false ∨ e.tfc = true ∨ y.out = [] ∨ (e.ztf = true ∧ y.handed = false)
    let inTime := wle s.timebase y.latest = true
    let body := have_.take (n - 4)
    let under (sent : List Byte) (t : State) : Prop := lost 9 t ∧ cnt 10 1 t ∧ t.flag (PORT_EVT d p) PORT_EVT_ABANDON = true ∧
      t.flag (RSQ_EVT d) RSQ_EVT_UNDERRUN = true ∧ .abandoned d p sent ∈ t.out ∧
      (s.derrq.length < 15 → ∃ w ∈ t.derrq, w.cls = 7 ∧ w.info0 = BitVec.ofNat 32 p.val ∧ w.info1 = BitVec.ofNat 32 y.ftag)
    (∀ c ∈ [Ecc.ok, .ce, .ue], e.released = [] → Does s (.egressTxFrame sd p c) fun t => t = s) ∧
    (e.released = f :: rest → mine →
      (∀ c ∈ [Ecc.ok, .ce, .ue], blocked → Does s (.egressTxFrame sd p c) fun t => t = s) ∧
      (∀ c ∈ [Ecc.ok, .ce, .ue], ¬blocked → ¬inTime → Does s (.egressTxFrame sd p c) fun t => lost 10 t ∧
        t.flag (RSQ_EVT d) RSQ_EVT_DEADLINE_MISS = true ∧
        (s.derrq.length < 16 → ∃ w ∈ t.derrq, t.derrq = s.derrq ++ [w] ∧ w.cls = 8 ∧ w.index = 16 * d + p.val ∧
          w.info1 = BitVec.ofNat 32 y.ftag)) ∧
      (∀ c ∈ [Ecc.ok, .ce], ¬blocked → inTime → y.done = some (r, n) → n ≤ m → n ≤ have_.length →
        Does s (.egressTxFrame sd p c) fun t =>
        .frame d p (body ++ toLE 4 (crc32 body)) ∈ t.out ∧ cnt 8 1 t ∧ cnt 9 n t ∧ others t ∧ (t.frame f = Frame.none ∨
          (t.frame f).stage = .gone) ∧
        (t.eg d p).released = e.released.filter (fun i => i ≠ f) ∧
        (y.handed = false → inc (LEDGER y.side y.port 1) 1 t ∧ inc (SA_CNT y.sa 0) 1 t ∧ inc (SA_CNT y.sa 1) n t ∧
          t.rd (LEDGER_INFLIGHT y.side y.port) = s.rd (LEDGER_INFLIGHT y.side y.port) - 1) ∧
        (y.handed = true → inc (LEDGER y.side y.port 1) 0 t ∧ inc (SA_CNT y.sa 0) 0 t) ∧
        (c = .ok → t = { s with regs := t.regs, frames := t.frames, egress := t.egress, out := s.out ++ [.frame d p (body ++ toLE 4 (crc32 body))] })) ∧
      (∀ c ∈ [Ecc.ok, .ce, .ue], ¬blocked → inTime → y.done = some (r, n) → m < n →
        Does s (.egressTxFrame sd p c) fun t => lost 7 t ∧ cnt 11 1 t ∧ t.out = s.out) ∧
      (¬blocked → inTime → y.done = some (r, n) → n ≤ m → Does s (.egressTxFrame sd p .ue) (under [])) ∧
      (¬blocked → inTime → y.done = none → Does s (.egressTxFrame sd p .ue) (under [])) ∧
      (∀ c ∈ [Ecc.ok, .ce], ¬blocked → inTime → y.done = some (r, n) → n ≤ m → have_.length < n →
        Does s (.egressTxFrame sd p c) fun t => under have_ t) ∧
      (∀ c ∈ [Ecc.ok, .ce], ¬blocked → inTime → y.done = none → have_.length ≤ m →
        Does s (.egressTxFrame sd p c) fun t => under have_ t) ∧
      (∀ c ∈ [Ecc.ok, .ce], ¬blocked → inTime → y.done = none → m < have_.length → Does s (.egressTxFrame sd p c) fun t => lost 7 t ∧
        cnt 11 1 t ∧ cnt 10 1 t ∧
        .abandoned d p (have_.take m) ∈ t.out)))

/-- R71, R87, R91 to R93, R109, R113, R119, R123, R124, R342, R343: a Prism decides a port's oldest undecided frame 24
FCLK after its first cell, four to an FCLK: it refuses it with the first reason of R91 that holds, counted, or admits
it to the core chosen, which reserves its buffer, descriptor and PN and sends its descriptor, or spills it. -/
def Obligations.PrismDecides : Prop :=
  ∀ (s : State) (sd : Side) (p : PortId) (h : Hdr) (kk : Found) (pl : Place) (code buf dir : Nat) (sa : Option Nat) (free : Word),
    let d := sideN sd
    let out := 1 - d
    let fs := s.framesWith fun x => x.stage == .wait && x.side == d && x.port == p.val
    let f := fs.headD 0
    let x := s.frame f
    let at1 := max s.now (2 * (x.at_ / 2 + 24))
    let full := s.decAt.get 0 d = at1 / 2 + 1 ∧ 4 ≤ s.decN.get 0 d
    let now := if full then 2 * (at1 / 2 + 1) else at1
    let u := { s with now := now, decAt := s.decAt.set 0 d (now / 2 + 1), decN := s.decN.set 0 d ((if s.decAt.get 0 d = now / 2 + 1 then s.decN.get 0 d else 0) + 1) }
    let mine := fs ≠ [] ∧ x.side = d ∧ x.port = p.val ∧ x.drop = 0 ∧ x.putty = none ∧ x.taken = none
    let inc (a : Nat) (t : State) : Prop := t.rd64 a = (s.rd64 a + 1) % 2 ^ 64
    let others (t : State) : Prop := SMap.But Frame.none [f] s.frames t.frames ∧ t.now = u.now ∧ t.decAt = u.decAt ∧ t.decN = u.decN
    let refused (code : Nat) (sa : Option Nat) (t : State) : Prop := others t ∧ inc (LEDGER d p 2) t ∧
        inc (LEDGER_REFUSED d p code) t ∧
      (∀ a, sa = some a → a < 4096 → inc (SA_CNT a 5) t) ∧
      t.frame f = (if x.ended then Frame.none else { Frame.none with side := d, port := p.val, stage := .refused }) ∧
        t.cores = s.cores ∧ t.cl = s.cl ∧ t.links = s.links
    let cell := nth [] x.pend 0
    let walk := u.walk d cell 8 ((u.prd (PRM_CFG d p)).fld PRM_CFG_HXT_START) 12 (Hdr.start ((u.prd (PRM_CFG d p)).fld PRM_CFG_DEF_CLASS))
    let scfg := u.prd (SA_CFG kk.sa)
    let q := scfg.fld SA_CFG_EGRESS_PORT
    let whole := x.ended && !x.discard && decide (x.len ≤ 256)
    let l := if whole then x.len else s.portMax d p
    let e := s.eg out q
    let tfc := decide (out = 1) && e.tfc
    let cand := if tfc then e.cand l (!whole) else []
    let down := s.linkUp out q = false ∨ s.portOn out q = false ∨ (tfc = true ∧ s.flag (ZTF_STAT q) ZTF_STAT_RUNNING = false)
    let placed := u.place x kk.sa h.cls (BitVec.ofNat 32 (2 * (now / 2))) l whole q (s.outLen out q (scfg.fld SA_CFG_FORMAT) l) cand
    let slots := s.fld (RSQ_PORT_CFG out q) RSQ_PORT_CFG_DESC_SLOTS
    let cells := (l + 64 + 255) / 256
    let found := mine ∧ walk = some h ∧ u.find x cell h = .inr kk ∧ kk.sa < 4096
    let pn (t : State) : Nat := t.prd64 (SA_NEXT_PN kk.sa (b2n kk.key))
    let held (t : State) : Prop := let z := t.frame f
      z.sa = kk.sa ∧ z.key = kk.key ∧ z.pn = kk.pn ∧ z.cls = h.cls ∧ z.core = pl.core ∧ z.buf = buf ∧ z.dl = pl.dl ∧ z.eport = q ∧
        z.len = x.len ∧
        (x.discard = true → z.drop = 1) ∧ (x.discard = false → tfc = false → z.drop = 0 ∧ z.stage = .admitted ∧
          t.rd (LEDGER_INFLIGHT d p) = s.rd (LEDGER_INFLIGHT d p) + 1) ∧
        (x.discard = false → tfc = false → whole = true ∨ x.ended = false → z.c = pl.c ∧ z.cells = cells) ∧
        (t.eg out q).order = e.order ++ [f] ∧ (d = 0 → pn t = (kk.pn + 1) % 2 ^ 64) ∧ (d = 1 → pn t = pn u)
    (∀ c ∈ [Ecc.ok, .ce, .ue], fs = [] → Does s (.prismDecision sd p c) fun t => t = s) ∧
    (mine → Does s (.prismDecision sd p .ue) (refused 1 none)) ∧
    (∀ c ∈ [Ecc.ok, .ce], mine → walk = none → Does s (.prismDecision sd p c) fun t => refused 1 none t ∧ (c = .ok →
      t = { u with regs := t.regs, frames := t.frames })) ∧
    (mine → walk = some h → u.find x cell h = .inl (code, sa, false) → code < 32 →
      Does s (.prismDecision sd p .ok) fun t => refused code sa t ∧ t = { u with regs := t.regs, frames := t.frames }) ∧
    (mine → walk = some h → u.find x cell h = .inl (5, sa, true) → Does s (.prismDecision sd p .ok) fun t => refused 5 sa t ∧
      ∀ a, sa = some a → a < 4096 → (t.prd (SA_STAT a)).fld SA_STAT_STOPPED = 1 ∧
        ((u.prd (SA_STAT a)).fld SA_STAT_STOPPED = 0 → s.saEvt.length < 512 → t.saEvt = s.saEvt ++ [(2, a)])) ∧
    (found → down → Does s (.prismDecision sd p .ok) (refused 6 (some kk.sa))) ∧
    (found → ¬down → placed = .inl code → code = 7 ∨ code = 8 → Does s (.prismDecision sd p .ok) (refused code (some kk.sa))) ∧
    (found → ¬down → placed = .inr pl → slots ≤ e.order.length → Does s (.prismDecision sd p .ok) (refused 9 (some kk.sa))) ∧
    (found → ¬down → placed = .inr pl → e.order.length < slots → u.allocCells (pl.core / 8) cells = none →
      Does s (.prismDecision sd p .ok) (refused 10 (some kk.sa))) ∧
    (found → ¬down → placed = .inr pl → e.order.length < slots → u.allocCells (pl.core / 8) cells = some buf → pl.spill = none →
      Does s (.prismDecision sd p .ok) fun t =>
      held t ∧ others t ∧ (t.frame f).atCore = true ∧ (t.frame f).spill = none ∧ t.chosen.get 0 d = pl.core + 1 ∧ (x.ended = false ∨
        whole = true → t.tfreeOf pl.core = pl.c) ∧
      LMsg.desc f ∈ (t.link (2 * (pl.core / 8))).sent ++ (t.link (2 * (pl.core / 8))).queue) ∧
    (found → ¬down → placed = .inr pl → e.order.length < slots → u.allocCells (pl.core / 8) cells = some buf →
      pl.spill = some (dir, free) → dir < 2 →
      Does s (.prismDecision sd p .ok) fun t => held t ∧ others t ∧ (t.frame f).atCore = false ∧ (t.frame f).spill = some dir ∧
        inc (SPILL_SENT dir) t ∧ t.spillFree.get 0 dir = free)

/-- R88, R105 to R110, R112, R114, R116, R453, R454, R519: the Resequencer skips a dropped head, drops a late one,
holds one not complete, checks replay on decryption, and releases the rest; a frame not begun by its latest start is
dropped. The ledger's audit counts, signals and records every ledger whose identities fail. The locks of the Prism,
the Resequencer and the ledger are set. -/
def Obligations.ResequencerAndLedger : Prop :=
  ∀ (s : State) (sd : Side) (p : PortId) (f : Nat) (rest : List Nat),
    let d := sideN sd
    let k := pkey d p
    let x := s.frame f
    let e := s.eg d p
    let rsq := [RSQ_EVT d]
    let inc (a : Nat) (t : State) : Prop := t.rd64 a = (s.rd64 a + 1) % 2 ^ 64
    let others (t : State) : Prop := SMap.But Frame.none [f] s.frames t.frames ∧ t.cores = s.cores ∧ t.cl = s.cl ∧
        SMap.But Egress.reset [k] s.egress t.egress
    let mine := x.side = 1 - d ∧ x.eport = p.val ∧ x.port < 16 ∧ x.sa < 4096 ∧ (x.stage = .admitted ∨ x.stage = .released) ∧
        x.taken = none ∧ x.putty = none
    let lost (code : Nat) (t : State) : Prop := others t ∧ (t.frame f = Frame.none ∨ (t.frame f).drop = code) ∧
        (t.eg d p).order = e.order ∧
      inc (LEDGER x.side x.port 3) t ∧ inc (LEDGER_DROPPED x.side x.port code) t
    let late (t : State) : Prop := lost 10 t ∧ t.flag (RSQ_EVT d) RSQ_EVT_DEADLINE_MISS = true ∧
        RegsBut (rsq ++ errorRegs ++ x.counters 10) s t ∧
      (s.derrq.length < 16 → ∃ w ∈ t.derrq, t.derrq = s.derrq ++ [w] ∧ w.cls = 8 ∧ w.index = 16 * d + p.val ∧
        w.info0 = BitVec.ofNat 32 p.val ∧ w.info1 = BitVec.ofNat 32 x.ftag)
    let inTime := wle s.timebase x.latest = true
    let ready := x.done ≠ none ∨ (d = 1 ∧ e.ztf = false ∧ x.spill = none ∧
        max 1 (s.fld (RSQ_PORT_CFG 1 p) RSQ_PORT_CFG_CT_THRESH) ≤ x.prog)
    let mode := s.fld (SA_CFG x.sa) SA_CFG_REPLAY_MODE
    let npa := SA_NEXT_PN x.sa (b2n x.key)
    let np := s.rd64 npa
    let bm := s.bitmapOf x.sa x.key
    let win := (s.rd (SA_REPLAY_WIN x.sa)).toNat
    let fresh := mode = 0 ∨ (mode = 2 ∧ np ≤ x.pn + 256 ∧ (np ≤ x.pn ∨ bm.getLsbD (np - 1 - x.pn) = false)) ∨ (mode ≠ 0 ∧ mode ≠ 2 ∧
        (np ≤ win ∨ np - win ≤ x.pn))
    let np' := max np (x.pn + 1)
    let freed (t : State) : Prop := others t ∧ (t.eg d p).order = e.order.filter (fun i => i ≠ f) ∧
        (t.eg d p).released = e.released ++ [f] ∧
      (t.frame f).stage = .released ∧ (t.frame f).drop = 0 ∧
        (t.frame f).pulled = max x.pulled (if x.done = none then x.prog else outCells x)
    let lk (sd' : Nat) (p' : Nat) : Bool := let g (i : Nat) : Nat := s.rd64 (LEDGER sd' p' i)
      decide (g 0 % 2 ^ 64 = (g 1 + g 2 + g 3 + (s.rd (LEDGER_INFLIGHT sd' p')).toNat + s.undecided sd' p') % 2 ^ 64) &&
      decide (g 2 = ((List.range 32).map fun i => s.rd64 (LEDGER_REFUSED sd' p' i)).sum % 2 ^ 64) &&
      decide (g 3 = ((List.range 32).map fun i => s.rd64 (LEDGER_DROPPED sd' p' i)).sum % 2 ^ 64)
    let bad := ((List.range 32).filter fun i => !lk (i / 16) (i % 16))
    let lr (m : SMap Nat) (i : Nat) : Nat := m.get 0 (18 * 65536 + i)
    let lock (a : Nat) (g : Fld) (t : State) : Prop := t.flag a g = true ∧ t.rd a = s.rd a ||| BitVec.ofNat 32 (2 ^ g.lo) ∧
        RegsBut [a] s t ∧ t = { s with regs := t.regs }
    (e.order = [] → Does s (.reseqRelease sd p) fun t => t = s) ∧
    (e.order = f :: rest → x.drop ≠ 0 → Does s (.reseqRelease sd p) fun t => others t ∧
      (t.eg d p).order = e.order.filter (fun i => i ≠ f) ∧
      (t.frame f = { x with stage := .gone } ∨ t.frame f = Frame.none) ∧ t = { s with frames := t.frames, egress := t.egress }) ∧
    (e.order = f :: rest → mine → x.drop = 0 →
      (¬inTime → Does s (.reseqRelease sd p) late) ∧
      (inTime → ¬ready → Does s (.reseqRelease sd p) fun t => t = s) ∧
      (inTime → ready → d = 1 → Does s (.reseqRelease sd p) fun t => freed t ∧ RegsBut [CLINK_STAT (x.core / 8)] s t) ∧
      (inTime → ready → d = 0 → fresh → np' < 2 ^ 64 → Does s (.reseqRelease sd p) fun t => freed t ∧ t.rd64 npa = np' ∧
        t.bitmapOf x.sa x.key = (bm <<< (np' - np)) ||| (if mode = 2 then BitVec.ofNat 256 (2 ^ (np' - 1 - x.pn)) else 0)) ∧
      (inTime → ready → d = 0 → ¬fresh → Does s (.reseqRelease sd p) fun t => lost 3 t ∧ t.flag (RSQ_EVT d) RSQ_EVT_REPLAY = true ∧
        inc (SA_CNT x.sa 4) t ∧
        t.rd64 npa = np ∧ t.bitmap = s.bitmap ∧ RegsBut (rsq ++ x.counters 3) s t)) ∧
    (s.firstDue d p = none → Does s (.deadlineMiss sd p) fun t => t = s) ∧
    (s.firstDue d p = some f → (f ∈ e.released ∨ e.order.head? = some f) ∧ x.drop = 0) ∧
    (s.firstDue d p = some f → mine → Does s (.deadlineMiss sd p) fun t => lost 10 t ∧
      t.flag (RSQ_EVT d) RSQ_EVT_DEADLINE_MISS = true ∧ s.now ≤ t.now) ∧
    (s.flag LEDGER_CTL LEDGER_CTL_ENABLE = false → Does s .ledgerAudit fun t => t = s) ∧
    (s.flag LEDGER_CTL LEDGER_CTL_ENABLE = true →
      Does s .ledgerAudit fun t => t.fld LEDGER_STAT LEDGER_STAT_FAIL_COUNT = min (s.fld LEDGER_STAT LEDGER_STAT_FAIL_COUNT + bad.length) 65535 ∧
      (∀ i : Fin 32, i.val ∉ bad → lr t.lastRec i = 0) ∧ (∀ i : Fin 32, i.val ∈ bad →
        lr t.lastRec i = if lr s.lastRec i = 0 then s.now + 1 else lr s.lastRec i) ∧
      (∀ i, bad.getLast? = some i → t.fld LEDGER_STAT LEDGER_STAT_LAST_SIDE = i / 16 ∧
        t.fld LEDGER_STAT LEDGER_STAT_LAST_PORT = i % 16) ∧
      (bad = [] → t = { s with lastRec := t.lastRec }) ∧
      (s.derrq.length + bad.length ≤ 16 →
        (t.derrq.map fun w => (w.cls, w.index)) = (s.derrq.map fun w => (w.cls, w.index)) ++ (bad.filter fun i => lr s.lastRec i == 0).map fun i => (18, i)) ∧
      RegsBut (LEDGER_STAT :: errorRegs) s t ∧ t = { s.signals t with regs := t.regs, derrq := t.derrq, lastRec := t.lastRec }) ∧
    (s.blockOn (PRISM_LOCKR d) = true → Does s (.prismLock .warden sd) (lock (PRISM_LOCKR d) ⟨0, 0⟩)) ∧
    (s.blockOn (RSQ_LOCKR d) = true → Does s (.rsqLock .warden sd) (lock (RSQ_LOCKR d) ⟨0, 0⟩)) ∧
    (s.blockOn LEDGER_CTL = true → Does s (.ledgerLock .warden) (lock LEDGER_CTL LEDGER_CTL_LOCK))

/-- R87, R109, R113, R131 to R137, R140: a commit on a disabled port takes the staged ZTF values or sets ERR; a Putty
job below the reserve's depth is admitted to a core or refused and counted; the slot stream starts when every used
reserve is full; each slot carries the released frame of its bucket, else Putty, else idle, counted. DLV_LOCK is set.
R85, R95 to R98, R107, R333, R395, R518: COMMIT validates a staged cost table and makes it usable or sets ERR; INVAL
is refused while a core in service runs the epoch. A write of SA_KEY clears STOPPED; one of SA_NEXT_PN clears the
key's replay bitmap; a read of SA_EVT_POP takes the oldest SA event. -/
def Obligations.Delivery : Prop :=
  (∀ (s : State) (p : PortId) (b : R3) (f h : Nat) (fs hs : List Nat) (k : Bool) (np g base block buf : Nat),
    let e := s.eg 1 p
    let key := pkey 1 p
    let st := ZTF_STAT p
    let err := s.ztfErr p
    let inc (a : Nat) (t : State) : Prop := t.rd64 a = (s.rd64 a + 1) % 2 ^ 64
    let regsOnly (l : List Nat) (t : State) : Prop := RegsBut l s t ∧ t = { s with regs := t.regs }
    let egr (t : State) : Prop := SMap.But Egress.reset [key] s.egress t.egress ∧ t.cores = s.cores ∧ t.cl = s.cl
    let staged := { e with cfg := s.rd (ZTF_CFG p), etype := s.rd (ZTF_ETYPE p), b01 := s.rd (ZTF_BUCKET p 0), b23 := s.rd (ZTF_BUCKET p 1),
                           sched := s.stagedSched p, schedLen := s.fld (ZTF_SCHED_LEN p) ⟨6, 0⟩ }
    let depth := e.cfg.fld ZTF_CFG_RESERVE_DEPTH
    let n := b.toNat
    let wanted := s.portOn 1 p = true ∧ e.tfc = true ∧ n ∈ e.used ∧ s.puttyCount p n < depth
    let full := s.decAt.get 0 2 = s.fclk + 1 ∧ 2 ≤ s.decN.get 0 2
    let now := if full then max s.now (2 * (s.now / 2 + 1)) else s.now
    let fc := now / 2
    let one (key : Nat) (q : State) : State := { q with decAt := q.decAt.set 0 key (fc + 1), decN := q.decN.set 0 key ((if q.decAt.get 0 key = fc + 1 then q.decN.get 0 key else 0) + 1) }
    let u := one 0 (one 2 { s with now := now })
    let sa := e.cfg.fld ZTF_CFG_COVER_SA
    let cls := e.cfg.fld ZTF_CFG_PUTTY_CLASS
    let size := e.bucket n
    let t0 : Word := BitVec.ofNat 32 (2 * fc)
    let c := wmax (s.tfreeOf g) (t0 + 32) + BitVec.ofNat 32 (base + block * ((size + 15) / 16))
    let refused (t : State) : Prop := inc (ZTF_CNT p 3) t ∧ t.frames = s.frames ∧ t.cores = s.cores ∧ t.cl = s.cl ∧
        t.links = s.links ∧ t.now = now
    let built (t : State) : Prop := let z := t.frame s.nextFid
      t.nextFid = s.nextFid + 1 ∧ z.putty = some n ∧ z.eport = p.val ∧ z.sa = sa ∧ z.fmt = 2 ∧ z.key = k ∧ z.pn = np ∧ z.cls = cls ∧
        z.core = g ∧ z.c = c ∧ z.len = 64 ∧ z.outL = size ∧
        z.stage = .admitted ∧ z.atCore = true ∧ z.buf = buf ∧ z.cells = (size + 64 + 255) / 256 ∧
          SMap.But Frame.none [s.nextFid] s.frames t.frames ∧ t.tfreeOf g = c ∧ t.chosen.get 0 0 = g + 1 ∧
        t.prd64 (SA_NEXT_PN sa (b2n k)) = (np + 1) % 2 ^ 64 ∧
          LMsg.desc s.nextFid ∈ (t.link (2 * (g / 8))).sent ++ (t.link (2 * (g / 8))).queue
    let filled := ∀ i ∈ e.used, depth ≤ (e.reserve.get [] i).length
    let due := e.streamAt ≠ 0 ∧ e.schedLen ≠ 0
    let at_ := max s.now e.slotAt
    let sb := e.slotBucket e.slot
    let y := s.frame f
    let z := s.frame h
    let late (x : Nat) : Bool := !wle (BitVec.ofNat 32 at_) (s.frame x).latest
    let slotted (t : State) : Prop := inc (ZTF_CNT p 0) t ∧ t.now = at_ ∧ (t.eg 1 p).slot = (e.slot + 1) % e.schedLen ∧
      (t.eg 1 p).slotAt = e.slotAt + (16 * (e.bucket sb + 20) / s.portRate 1 p + 1) ∧ egr t
    let out (q : Nat) (t : State) : Prop := .frame 1 p ((s.frame q).out.flatten.take (e.bucket sb - 4) ++
      toLE 4 (crc32 ((s.frame q).out.flatten.take (e.bucket sb - 4)))) ∈ t.out ∧ inc (PORT_CNT 1 p 8) t ∧
      t.rd64 (PORT_CNT 1 p 9) = (s.rd64 (PORT_CNT 1 p 9) + e.bucket sb) % 2 ^ 64
    let taken := e.released = f :: fs ∧ y.handed = true ∧ y.outL = e.bucket sb
    let starved (t : State) : Prop := slotted t ∧ inc (ZTF_CNT p 2) t ∧ t.flag DLV_EVT DLV_EVT_PUTTY_STARVE = true ∧ t.out = s.out ∧
        t.frames = s.frames ∧
      (s.derrq.length < 16 → ∃ w ∈ t.derrq, t.derrq = s.derrq ++ [w] ∧ w.cls = 9 ∧ w.index = 16 + p.val ∧
        w.info1 = BitVec.ofNat 32 sb)
    (s.portOn 1 p = true → Does s (.ztfCommit .warden p) fun t => t.fld st ZTF_STAT_ERR = 6 ∧ regsOnly [st] t) ∧
    (s.portOn 1 p = false → err ≠ 0 → Does s (.ztfCommit .warden p) fun t => t.fld st ZTF_STAT_ERR = err ∧ regsOnly [st] t) ∧
    (s.portOn 1 p = false → err = 0 → Does s (.ztfCommit .warden p) fun t => t.fld st ZTF_STAT_ERR = 0 ∧ t.eg 1 p = staged ∧
      t.fld st ⟨31, 30⟩ = 2 * staged.cfg.fld ZTF_CFG_ZTF + staged.cfg.fld ZTF_CFG_TFC ∧
        t.fld st ZTF_STAT_TAGGED_ON = staged.cfg.fld ZTF_CFG_TAGGED ∧
      RegsBut [st] s t ∧ egr t ∧ t = { s with regs := t.regs, egress := t.egress }) ∧
    (staged.tfc = false → err = 0) ∧ (staged.tfc = true → (staged.ztf = false → err = 1) ∧ (err = 0 → staged.schedLen ≠ 0 ∧
      staged.schedLen ≤ 64 ∧ staged.cfg.fld ZTF_CFG_RESERVE_DEPTH ≠ 0 ∧
      ∀ i ∈ staged.used, staged.bucket i % 16 = 0 ∧ 128 ≤ staged.bucket i ∧ staged.bucket i ≤ s.portMax 1 p)) ∧
    Does s (.dlvLock .warden) (fun t => t.flag DLV_LOCKR ⟨0, 0⟩ = true ∧ t.rd DLV_LOCKR = s.rd DLV_LOCKR ||| 1 ∧
      regsOnly [DLV_LOCKR] t) ∧
    (¬wanted → Does s (.puttyJob p b) fun t => t = s) ∧
    (wanted → u.pnCheck sa = .inl (4, false) ∨ u.pnCheck sa = .inl (5, false) ∨ u.pnCheck sa = .inl (5, true) →
      Does s (.puttyJob p b) refused) ∧
    (wanted → u.pnCheck sa = .inl (5, true) → Does s (.puttyJob p b) fun t => (t.prd (SA_STAT sa)).fld SA_STAT_STOPPED = 1) ∧
    (wanted → u.pnCheck sa = .inr (k, np) → u.chooseCore 0 sa cls t0 = none → Does s (.puttyJob p b) refused) ∧
    (wanted → u.pnCheck sa = .inr (k, np) → u.chooseCore 0 sa cls t0 = some g →
      u.costEntry (s.coreEpoch g) cls = some (base, block) →
      (s.allocCells (g / 8) ((size + 64 + 255) / 256) = none → Does s (.puttyJob p b) refused) ∧
      (s.allocCells (g / 8) ((size + 64 + 255) / 256) = some buf → Does s (.puttyJob p b) built)) ∧
    (s.portOn 1 p = true → e.tfc = true → filled → s.flag st ZTF_STAT_RUNNING = false →
      Does s (.tfcStreamStart p) fun t => t.flag st ZTF_STAT_RUNNING = true ∧
      t.eg 1 p = { e with streamAt := s.now + 1, slot := 0, slotAt := s.now } ∧ RegsBut [st] s t ∧ egr t ∧
        t = { s with regs := t.regs, egress := t.egress }) ∧
    (s.portOn 1 p = false ∨ e.tfc = false ∨ ¬filled ∨ s.flag st ZTF_STAT_RUNNING = true →
      Does s (.tfcStreamStart p) fun t => t = s) ∧
    (¬due → Does s (.slotStart p) fun t => t = s) ∧
    (due → (∀ x ∈ e.released, late x = false) →
      (s.linkUp 1 p = false → Does s (.slotStart p) fun t => slotted t ∧ t.out = s.out ∧ t.frames = s.frames) ∧
      (s.linkUp 1 p = true → taken → y.side = 0 → y.eport = p.val → Does s (.slotStart p) fun t => slotted t ∧ out f t ∧
        (t.frame f = Frame.none ∨ (t.frame f).stage = .gone) ∧
        (t.eg 1 p).released = e.released.filter (fun i => i ≠ f)) ∧
      (s.linkUp 1 p = true → (e.released = [] ∨ (e.released = f :: fs ∧ ¬taken)) → e.reserve.get [] sb = h :: hs → z.whole = true →
        Does s (.slotStart p) fun t =>
        slotted t ∧ out h t ∧ inc (ZTF_CNT p 1) t ∧ t.frame h = Frame.none ∧
          (t.eg 1 p).reserve.get [] sb = (h :: hs).filter (fun i => i ≠ h)) ∧
      (s.linkUp 1 p = true → (e.released = [] ∨ (e.released = f :: fs ∧ ¬taken)) → e.reserve.get [] sb = [] ∨
        (e.reserve.get [] sb = h :: hs ∧ z.whole = false) →
        Does s (.slotStart p) starved)) ∧
    (due → late f = true → e.released = [f] → s.linkUp 1 p = false → y.side = 0 → y.eport = p.val → y.port < 16 → y.sa < 4096 →
      y.stage = .released → y.drop = 0 → y.putty = none → y.taken = none →
      Does s (.slotStart p) fun t => (t.frame f = Frame.none ∨ ((t.frame f).drop = 10 ∧ (t.frame f).stage = .gone)) ∧
        t.flag (RSQ_EVT 1) RSQ_EVT_DEADLINE_MISS = true ∧
        (t.eg 1 p).released = [] ∧ inc (LEDGER_DROPPED y.side y.port 10) t ∧ inc (ZTF_CNT p 0) t)) ∧
  (∀ (s : State) (b : Bool) (sa : BitVec 12) (v : Word) (w : DWord),
    let i := b2n b
    let a := COST_STAT i
    let bs := s.costBytes i 2048
    let at_ (o n : Nat) : Nat := leNat ((bs.drop o).take n)
    let epoch := at_ 8 4
    let o := COST_STAT (1 - i)
    let dup := s.flag o COST_STAT_VALID = true ∧ s.fld o COST_STAT_EPOCH = epoch
    let e := if costErr bs = 0 ∧ dup then 7 else costErr bs
    let log (l : List Nat) (t : State) : Prop := (∀ r ∈ l, (t.prd r = s.prd r)) ∧ RegsBut l s t ∧
        t = { s with regs := t.regs, wlog := t.wlog, wlogAt := t.wlogAt }
    let runs := ∃ g : CoreId, s.rotState g = 0 ∧ s.coreEpoch g = s.fld a COST_STAT_EPOCH
    let bm := 2 * sa.toNat + i
    let k := SA_KEY sa.toNat
    let st := SA_STAT sa.toNat
    let pn := SA_NEXT_PN sa.toNat i
    (costErr bs = 0 → at_ 0 4 = 0x4254435A ∧ at_ 4 2 = 1 ∧ at_ 6 2 ≠ 0 ∧ at_ 6 2 ≤ 64 ∧ at_ 0xC 2 = 2000 ∧ epoch < 256) ∧
    (s.flag a COST_STAT_VALID = true → Does s (.costCommit .warden b) fun t => t = s) ∧
    (s.flag a COST_STAT_VALID = false → e ≠ 0 → Does s (.costCommit .warden b) fun t => t.fld a COST_STAT_ERR = e ∧
      t.flag a COST_STAT_VALID = false ∧ log [a] t) ∧
    (s.flag a COST_STAT_VALID = false → e = 0 → Does s (.costCommit .warden b) fun t => t.fld a COST_STAT_ERR = 0 ∧
      t.flag a COST_STAT_VALID = true ∧
      t.fld a COST_STAT_EPOCH = epoch ∧ t.fld a COST_STAT_COUNT = at_ 6 2 ∧ log [a] t) ∧
    (s.flag a COST_STAT_VALID = true → runs → Does s (.costInval .warden b) fun t => t.fld a COST_STAT_ERR = 6 ∧
      t.flag a COST_STAT_VALID = true ∧ log [a] t) ∧
    (s.flag a COST_STAT_VALID = false ∨ ¬runs → Does s (.costInval .warden b) fun t => t.fld a COST_STAT_ERR = 0 ∧
      t.flag a COST_STAT_VALID = false ∧ log [a] t) ∧
    (s.replMode sa.toNat ≠ 1 → Does s (.saKeyWrite sa v) fun t => t.rd k = v &&& 0xEF0FFFFF ∧ t.flag st SA_STAT_STOPPED = false ∧
      t.flag st SA_STAT_PN_WARNED = s.flag st SA_STAT_PN_WARNED ∧ log [k, st] t) ∧
    (s.replMode sa.toNat = 1 → Does s (.saKeyWrite sa v) fun t => t.rd k = v &&& 0xEF0FFFFF ∧ t.flag st SA_STAT_STOPPED = false ∧
      t.frames = s.frames ∧ t.cores = s.cores ∧ t.cl = s.cl ∧
      (s.rd k = v &&& 0xEF0FFFFF → log [k, st] t)) ∧
    Does s (.saNextPnWrite sa b w) (fun t => t.rd64 pn = w.toNat ∧ t.bitmap.get 0 bm = 0 ∧
      SMap.But (0 : BitVec 256) [bm] s.bitmap t.bitmap ∧ t.prd pn = s.prd pn ∧
      RegsBut [pn, pn + 4] s t ∧ t = { s with regs := t.regs, wlog := t.wlog, wlogAt := t.wlogAt, bitmap := t.bitmap }) ∧
    Does s .saEvtPop fun t => t = { s with saEvt := s.saEvt.tail })

/-! Clusters: links, memories, events, DMA -/

/-- R93, R99 to R105, R115, R448: a core pops its oldest descriptor, reports progress and completion over its link, in
order; a stray report is recorded. A cell received right is acknowledged and performed; one with a bad CRC, or not
acknowledged in 64 FCLK, is replayed, and the eighth retry in succession, a failed credit audit, or CLINK_CTL fences
the link, which loses its frames; a third fence in 1 s fences the cluster. -/
def Obligations.ClusterLinks : Prop :=
  ∀ (s : State) (g : CoreId) (c : ClId) (dir : LinkDir) (v lo hi err : Word) (m : LMsg) (ms : List LMsg) (ecc : Ecc) (d : Desc) (ds : List Desc) (i n : Nat) (bs : List Byte) (b : Bool),
    let y := s.core g
    let out := 2 * (g.val / 8) + 1
    let inc (a : Nat) (t : State) : Prop := t.rd64 a = (s.rd64 a + 1) % 2 ^ 64
    let pushed (k : Nat) (m : LMsg) (t : State) : Prop := (t.link k).sent ++ (t.link k).queue = (s.link k).sent ++ (s.link k).queue ++ [m]
    let inCore (t : State) : Prop := SMap.But Core.reset [g.val] s.cores t.cores
    let stray (tag : Nat) (t : State) : Prop := t.cores = s.cores ∧ t.frames = s.frames ∧ t.links = s.links ∧
        ((s.clu (g / 8)).errq.length < 8 →
      ∃ r ∈ (t.clu (g / 8)).errq, (t.clu (g / 8)).errq = (s.clu (g / 8)).errq ++ [r] ∧ r.cls = 6 ∧ r.index = g.val ∧
        r.info0 = BitVec.ofNat 32 tag)
    let tagOf (w : Word) : Nat := w.toNat % 2 ^ 18
    let x := s.frame d.fid
    let s' := s.setFrame d.fid { x with atCore := false, cells := if x.drop ≠ 0 then 0 else x.cells }
    let late := wle s.timebase x.c = false
    let k := linkKey c dir
    let l := s.link k
    let st := CLINK_STAT c
    let live := s.linkLive c = true
    let z := s.clu c
    let fenced (now cause : Nat) (t : State) : Prop :=
      let recent := z.fences.filter (fun a => now < a + 2000000000) ++ [now]
      let third := 3 ≤ recent.length ∧ z.sheet = 0
      t.flag st CLINK_STAT_FENCED = true ∧ t.flag st CLINK_STAT_UP = false ∧ t.fld st CLINK_STAT_FENCE_CAUSE = cause ∧
        t.link (2 * c.val) = Link.reset ∧ t.link (2 * c.val + 1) = Link.reset ∧
        t.fld st CLINK_STAT_IN_CREDITS = 64 ∧ t.fld st CLINK_STAT_OUT_CREDITS = 64 ∧ (t.clu c).fences = recent ∧
          (t.clu c).sheet = (if third then 1 else z.sheet) ∧
        (∀ i : Fin 8, let h := 8 * c.val + i.val
          (t.core h).fnext = [] ∧ (t.core h).popped = [] ∧ t.tfreeOf h = BitVec.ofNat 32 now ∧ (third → t.rotState h = 5) ∧ (¬third →
            t.rotState h = s.rotState h)) ∧
        (∀ h : CoreId, h.val / 8 ≠ c.val → t.core h = s.core h) ∧
        (z.errq.length < 8 → ∃ r ∈ (t.clu c).errq, (t.clu c).errq = z.errq ++ [r] ∧ r.cls = 10 ∧ r.index = c.val ∧
          r.info1 = BitVec.ofNat 32 cause) ∧
        (∀ f : Nat, (s.frame f).core / 8 ≠ c → t.frame f = s.frame f) ∧
        (∀ f : Nat, (s.frame f).inCluster c = true → t.frame f = Frame.none ∨ ((t.frame f).cells = 0 ∧ (t.frame f).atCore = false ∧
          ((s.frame f).drop = 0 → (s.frame f).stage ≠ .gone → (t.frame f).drop = 4)))
    let ok := s.framesInRange = true
    let run := s.fld st (runFld k)
    let retried (now : Nat) (t : State) : Prop := t.link k = { l with replayAt := now + 80, sentAt := now + 80 } ∧
        t.fld st (runFld k) = run + 1 ∧ t.now = now ∧
      SMap.But Link.reset [k] s.links t.links ∧ t.frames = s.frames ∧ t.cores = s.cores ∧ t.cl = s.cl
    let rxAt := max s.now l.replayAt
    let toAt := max s.now (l.sentAt + 128)
    let idAt := max s.now (l.idleAt + 2000000)
    let whole := s.fld st (creditFld k) + l.sent.length = 64
    let taken (t : State) : Prop := (t.link k).seq = (l.seq + 1) % 256 ∧ t.fld st (runFld k) = 0 ∧ t.now = rxAt ∧
      (l.queue = [] → s.fld st (creditFld k) < 255 → t.fld st (creditFld k) = s.fld st (creditFld k) + 1)
    let left (t : State) : Prop := taken t ∧ (t.link k).sent ++ (t.link k).queue = ms ++ l.queue
    let arrives := l.sent = m :: ms ∧ live
    let rx := Does s (.clinkCellRx c dir 0 ecc)
    let f := d.fid
    let on := s.domain (96 + c) = 2 ∧ s.domain 120 = 2 ∧ s.domain 121 = 2
    (y.fnext = [] → Does s (.frmNextPop g) fun t => t.core g = { y with nextCap := [0, 0, 0] } ∧ inCore t ∧
      t = { s with cores := t.cores }) ∧
    (y.fnext = d :: ds → Does s (.frmNextPop g) fun t => t.core g = { y with fnext := ds, popped := y.popped ++ [d], nextCap := [d.w1, d.w2, d.w3] } ∧ inCore t ∧ t = { s with cores := t.cores }) ∧
    (y.popped = [] ∨ (y.popped = d :: ds ∧ tagOf d.w0 ≠ tagOf v) → Does s (.frmProgress g v) (stray (tagOf v))) ∧
    (y.popped = d :: ds → tagOf d.w0 = tagOf v →
      (v.toNat / 2 ^ 26 < d.cells → Does s (.frmProgress g v) fun t => t = s) ∧
      (d.cells ≤ v.toNat / 2 ^ 26 → Does s (.frmProgress g v) fun t => t.core g = { y with popped := { d with cells := v.toNat / 2 ^ 26 } :: ds } ∧ inCore t ∧
        pushed out (.progress d.fid (v.toNat / 2 ^ 26)) t ∧ RegsBut [CLINK_STAT (g / 8)] s t ∧
          t = { s with cores := t.cores, links := t.links, regs := t.regs })) ∧
    (y.popped = [] ∨ (y.popped = d :: ds ∧ tagOf d.w0 ≠ tagOf lo) → Does s (.frmDone g lo hi) (stray (tagOf lo))) ∧
    (y.popped = d :: ds → tagOf d.w0 = tagOf lo → Does s (.frmDone g lo hi) fun t => t.core g = { y with popped := ds } ∧ inCore t ∧
      SMap.But Frame.none [d.fid] s.frames t.frames ∧
        t.tfreeOf g = (if s'.qdepth g = 0 then s.timebase else if late then wmax (s.tfreeOf g) s.timebase else s.tfreeOf g) ∧
      (∀ i ∈ [0, 1], t.rd (CORE_OVR i g) = if late then s.rd (CORE_OVR i g) + 1 else s.rd (CORE_OVR i g)) ∧
      (x.drop = 0 → t.frame d.fid = { x with atCore := false } ∧
        pushed out (.done d.fid (min (hi.toNat / 2 ^ 28) 2) (hi.toNat / 2 ^ 14 % 2 ^ 14)) t) ∧
      (x.drop ≠ 0 → t.links = s.links ∧
        t.frame d.fid = if x.stage = .gone then Frame.none else { x with atCore := false, cells := 0 })) ∧
    (l.sent = [] ∨ ¬live → (Does s (.clinkCellRx c dir err ecc) fun t => t = s) ∧
      (Does s (.clinkCellTimeout c dir) fun t => t = s)) ∧
    (arrives → err ≠ 0 → run < 7 → Does s (.clinkCellRx c dir err ecc) fun t => retried rxAt t ∧ inc (CLINK_CNT c (2 + k % 2)) t ∧
      inc (CLINK_CNT c (k % 2)) t) ∧
    (arrives → err ≠ 0 → 7 ≤ run → ok → s.flag st CLINK_STAT_FENCED = false → Does s (.clinkCellRx c dir err ecc) (fenced rxAt 1)) ∧
    (arrives → run < 7 → Does s (.clinkCellTimeout c dir) fun t => retried toAt t ∧ inc (CLINK_CNT c (k % 2)) t) ∧
    (arrives → 7 ≤ run → ok → Does s (.clinkCellTimeout c dir) (fenced toAt 1)) ∧
    (arrives → m = .desc f → (s.frame f).core < 128 → rx fun t => left t ∧ t.frames = s.frames ∧
      ((s.frame f).atCore = false → t.cores = s.cores ∧ t.cl = s.cl) ∧
      ((s.frame f).atCore = true → let h := (s.frame f).core
        (t.core h).fnext = (s.core h).fnext ++ [(s.frame f).desc f] ∧ (t.core h).popped = (s.core h).popped ∧
          t.free = s.free + 1)) ∧
    (arrives → m = .cell f i bs b → (s.frame f).atCore = true → (s.frame f).drop = 0 → rx fun t => left t ∧
      (t.clu ((s.frame f).core / 8)).cmem.bytes (256 * (s.frame f).buf + 64 + 256 * i) bs.length = bs ∧
      (ecc ≠ .ue → t.frames = s.frames) ∧
      (∀ e ∈ (t.core (s.frame f).core).fnext, e.fid = f → bitN e.arrived.toNat 31 = false →
        e.arrived = BitVec.ofNat 32 ((256 * i + bs.length) % 2 ^ 14))) ∧
    (arrives → m = .arrival f b → (s.frame f).atCore = true → rx fun t => left t ∧ t.frames = s.frames ∧
      ∀ e ∈ (t.core (s.frame f).core).popped, e.fid = f → bitN e.arrived.toNat 31 = true ∧ bitN e.arrived.toNat 30 = b) ∧
    (arrives → m = .progress f n → (s.frame f).drop = 0 → (s.frame f).stage = .admitted → rx fun t => left t ∧
      t.frame f = { s.frame f with prog := max (s.frame f).prog n } ∧ t.cores = s.cores ∧ t.cl = s.cl) ∧
    (arrives → (s.frame f).drop = 0 → (s.frame f).stage = .admitted → (s.frame f).taken = none → (s.frame f).putty = none →
      (m = .done f 0 n → ((s.frame f).side = 1 ∨ (s.eg 1 (s.frame f).eport).tfc = false) → rx fun t => left t ∧
        t.frame f = { s.frame f with done := some (0, n) }) ∧
      (m = .done f 1 n → ok → rx fun t => taken t ∧ (t.frame f).drop = 2) ∧
      (m = .done f 2 n → ok → rx fun t => taken t ∧ (t.frame f).drop = 11)) ∧
    (arrives → m = .pull f i b → ecc = .ok → (s.frame f).drop = 0 → (s.frame f).stage = .released →
      let w := s.frame f
      let ln := w.cellLen i
      let ti := s.exitTint w i ln
      (ti.k = false → (ti.r = false ∨ w.side = 1) → (s.eg 1 w.eport).ztf = false → rx fun t => left t ∧
        t.frame f = { w with out := w.out ++ [(s.clu (w.core / 8)).cmem.bytes (256 * w.buf + 256 * i) ln] } ∧ t.cores = s.cores ∧
          t.cl = s.cl) ∧
      (ti.k = true ∨ (ti.r = true ∧ w.side = 0) → ok → rx fun t => taken t ∧ (t.frame f = Frame.none ∨ (t.frame f).drop = 8) ∧
        inc (TINT_CNT (if w.side = 1 then 1 else 0)) t ∧
          t.flag TINT_EVT (if w.side = 1 then TINT_EVT_RED_EGRESS else TINT_EVT_BLK_EGRESS) = true)) ∧
    (¬live → (Does s (.clinkCreditAudit c dir) fun t => t = s) ∧ (Does s (.clinkIdleInsert c dir) fun t => t = s)) ∧
    (live → whole → (Does s (.clinkCreditAudit c dir) fun t => t.link k = { l with idleAt := s.now } ∧
      SMap.But Link.reset [k] s.links t.links ∧ t = { s with links := t.links }) ∧
      (Does s (.clinkIdleInsert c dir) fun t => t.link k = { l with idleAt := idAt } ∧ SMap.But Link.reset [k] s.links t.links ∧
        t = { s with links := t.links, now := idAt })) ∧
    (live → ¬whole → ok → (Does s (.clinkCreditAudit c dir) (fenced s.now 2)) ∧ (Does s (.clinkIdleInsert c dir) (fenced idAt 2))) ∧
    (s.flag st CLINK_STAT_FENCED = false → ok → Does s (.clinkFence c) fun t => fenced s.now 3 t ∧
      t.flag (CLINK_CTL c) ⟨31, 31⟩ = true) ∧
    (s.flag st CLINK_STAT_FENCED = true → Does s (.clinkFence c) fun t => t.flag (CLINK_CTL c) ⟨31, 31⟩ = true ∧
      RegsBut [CLINK_CTL c] s t ∧ t = { s with regs := t.regs }) ∧
    Does s (.clinkPoolWrite .warden c v) (fun t => t = { s with regs := t.regs } ∧ RegsBut [CLINK_POOL c] s t ∧
      t.rd (CLINK_POOL c) = if s.flag CLINK_LOCKR ⟨0, 0⟩ = true ∨ v.fld CLINK_POOL_POOL_CELLS = 0 ∨
        16384 < v.fld CLINK_POOL_POOL_BASE + v.fld CLINK_POOL_POOL_CELLS
        then s.rd (CLINK_POOL c) else v &&& 0x3FFF7FFF) ∧
    (¬on ∨ live → Does s (.clinkTrained c) fun t => t = s) ∧
    (on → ¬live → Does s (.clinkTrained c) fun t => t.linkLive c = true ∧ t.fld st CLINK_STAT_FENCE_CAUSE = 0 ∧
      t.fld st CLINK_STAT_IN_CREDITS = 64 ∧ t.fld st CLINK_STAT_OUT_CREDITS = 64 ∧
      t.fld st ⟨7, 0⟩ = 0 ∧ t.link (2 * c.val) = Link.reset ∧ t.link (2 * c.val + 1) = Link.reset ∧
        t.flag (CLINK_CTL c) ⟨31, 31⟩ = false ∧ t.frames = s.frames ∧ t.cores = s.cores) ∧
    Does s (.clinkLock .warden) fun t => t.flag CLINK_LOCKR ⟨0, 0⟩ = true ∧ t.rd CLINK_LOCKR = s.rd CLINK_LOCKR ||| 1 ∧
      RegsBut [CLINK_LOCKR] s t ∧ t = { s with regs := t.regs }

/-- R343 to R357, R360 to R366, R368, R371, R373, R374, R448: one CMEM phase in an FCLK, each bank's beat going to the
highest effective priority, from PTR on a tie, and losers aging; windows end; the spare copies and then serves a bank;
Skim walks the regions and answers a failing row; soft repair maps a column while a spare is free and the core is out
of work; a bank is handed over in turn; a retired context is restored. -/
def Obligations.ClusterMemories : Prop :=
  ∀ (s : State) (c : ClId) (beats : List Beat) (i j : Fin 4) (b : R5) (p p2 : Bool) (v : Word) (r : Fin 12) (n : R3) (g : CoreId) (ix : BitVec 10) (f : Far),
    let x := s.clu c
    let on (a : Nat) : Prop := s.blockOn a = true
    let inCl (t : State) : Prop := SMap.But Cluster.reset [c.val] s.cl t.cl
    let inc (a : Nat) (t : State) : Prop := t.rd64 a = (s.rd64 a + 1) % 2 ^ 64
    let regsOnly (l : List Nat) (t : State) : Prop := RegsBut l s t ∧ t = { s with regs := t.regs }
    let now := max s.now (2 * x.phase)
    let k := now / 2
    let arb := (List.range 12).flatMap fun q => (List.range 4).flatMap (fun w => [ARB_CNT c q w, ARB_CNT c q w + 4]) ++ [MAX_WAIT c q]
    let idle := ∀ m : Fin 8, (s.core (8 * c.val + m.val)).far = []
    let free (q : Nat) : Prop := s.vault.zeroAt = 0 ∧ x.dead.get 0 b.toNat ≠ k + 1 ∧ x.rmw.get 0 b.toNat ≠ k + 1 ∧
        x.holder.get 0 b.toNat = 0 ∧ x.masked.contains q = false
    let eff (q : Nat) : Nat := min (({ s with now := now } : State).pfld (ARB_PRI c q) ARB_PRI_BASE + x.steps.get 0 q) 15
    let base (q : Nat) : Nat := ({ s with now := now } : State).pfld (ARB_PRI c q) ARB_PRI_BASE
    let quota (q : Nat) : Nat := max 1 (({ s with now := now } : State).pfld (ARB_PRI c q) ARB_PRI_QUOTA)
    let won (q : Nat) (part : Bool) (t : State) : Prop := let y := t.clu c
      y.ptr.get 0 b.toNat = (q + 1) % 12 ∧ y.used.get 0 q = x.used.get 0 q + 1 ∧ y.steps.get 0 q = 0 ∧ y.waits.get 0 q = 0 ∧
        inc (ARB_CNT c q 0) t ∧
        (part = true → y.rmw.get 0 b.toNat = k + 2) ∧ (part = false → y.rmw = x.rmw) ∧ (y.masked.contains q = true ↔ 12 ≤ base q ∧
          quota q ≤ x.used.get 0 q + 1)
    let lost (q : Nat) (t : State) : Prop := let y := t.clu c
      y.steps.get 0 q = min (x.steps.get 0 q + 1) 15 ∧ y.waits.get 0 q = x.waits.get 0 q + 1 ∧ inc (ARB_CNT c q 1) t ∧
        y.used.get 0 q = x.used.get 0 q
    let phased (t : State) : Prop := (t.clu c).phase = k + 1 ∧ t.now = now ∧ RegsBut arb s t ∧ inCl t
    let near (q : Nat) : Nat := (q + 12 - x.ptr.get 0 b.toNat % 12) % 12
    let w := max 1 (s.fld (ARB_CTL c) ARB_CTL_WINDOW)
    let rs := REMAP_STAT c
    let used := s.flag rs REMAP_STAT_SPARE_USED
    let started (bank : Nat) (t : State) : Prop := t.rd rs = BitVec.ofNat 32 (2 ^ 31 + 2 ^ 29 + bank) ∧ (t.clu c).remap = bank + 1
    let reg := x.region
    let banks := (List.range 8).map fun m => 8 * (reg % 4) + m
    let skims := on (SKIM_CTL c) ∧ s.flag (SKIM_CTL c) SKIM_CTL_EN = true ∧ (∀ m ∈ banks, x.holder.get 0 m = 0 ∧ x.remap ≠ m + 1) ∧
        s.vault.zeroAt = 0
    let skimmed (t : State) : Prop := (t.clu c).region = (reg + 1) % 16384 ∧
        t.fld (SKIM_STAT c) SKIM_STAT_REGION = (reg + 1) % 16384 ∧ inc (MEM_CNT c 0) t
    let dead (t : State) : Prop := (∀ m ∈ banks, (t.clu c).dead.get 0 m = s.fclk + 1) ∧ inCl t
    let row := 32 * (reg / 4) + b.toNat
    let failed (t : State) : Prop := inc (MEM_CNT c 2) t ∧ t.flag (MEM_EVT c) MEM_EVT_SKIM_FAIL = true ∧
        t.flag (SKIM_STAT c) SKIM_STAT_FAILED = true ∧
      t.fld (SKIM_STAT c) SKIM_STAT_FAIL_BANK = b.toNat ∧ (t.clu c).rowFails.get 0 row = x.rowFails.get 0 row + 1
    let auto := s.flag (REMAP_CTL c) REMAP_CTL_AUTO
    let m := MREP c n.toNat
    let arr := v.fld MREP_ARRAY
    let e := 256 * arr + v.fld MREP_COL
    let reps := x.repairs.get [] n.toNat
    let st := s.rotState (8 * c.val + n.toNat)
    let mends := v.fld MREP_APPLY = 1 ∧ arr < 24 ∧ st ≠ 0 ∧ st ≠ 1 ∧ st ≠ 4
    let named (t : State) : Prop := t.fld m MREP_ARRAY = arr ∧ t.fld m MREP_COL = v.fld MREP_COL ∧ RegsBut [m] s t
    let y := s.core g
    let asked (full : Bool) (t : State) : Prop := t = { s with cores := t.cores } ∧ SMap.But Core.reset [g.val] s.cores t.cores ∧
        t.core g = { y with dbBusy := (t.core g).dbBusy } ∧
      ∀ a : Fin 8, let q := y.dbBusy.get [] a
        let cur := q.getLast?.getD (y.owner a)
        let new := v.toNat / 2 ^ (2 * a.val) % 4
        (t.core g).dbBusy.get [] a = if bitN v.toNat (16 + a) = true ∧ new ≠ 3 ∧ cur ≠ new ∧ (full = true ∨ (new ≠ 2 ∧
          cur ≠ 2)) then q ++ [new] else q
    let ctx := x.ctx ix.toNat
    let has := (s.vault.keys.get none (2 * ctx.sa + b2n ctx.k)).isSome
    (¬on (ARB_CTL c) → Does s (.cmemBeatGrant c beats) fun t => t = s) ∧
    (on (ARB_CTL c) → Does s (.cmemBeatGrant c beats) fun t => phased t ∧ (∀ h : CoreId, h.val / 8 ≠ c.val → t.core h = s.core h) ∧
      t = { s with now := t.now, regs := t.regs, cores := t.cores, cl := t.cl }) ∧
    (on (ARB_CTL c) → idle → free (8 + i.val) → Does s (.cmemBeatGrant c [⟨i, b, p⟩]) fun t => phased t ∧ won (8 + i.val) p t ∧
      t.cores = s.cores) ∧
    (on (ARB_CTL c) → idle → free (8 + i.val) → free (8 + j.val) → i ≠ j →
      eff (8 + j.val) < eff (8 + i.val) ∨ (eff (8 + j.val) = eff (8 + i.val) ∧ near (8 + i.val) < near (8 + j.val)) →
      Does s (.cmemBeatGrant c [⟨j, b, p2⟩, ⟨i, b, p⟩]) fun t => phased t ∧ won (8 + i.val) p t ∧ lost (8 + j.val) t ∧
        t.cores = s.cores) ∧
    (let h := 8 * c.val + n.toNat; on (ARB_CTL c) → (∀ m : Fin 8, m.val ≠ n.toNat → (s.core (8 * c.val + m.val)).far = []) →
      (s.core h).far = [f] → 0x1000000 ≤ f.addr.toNat → f.addr.toNat < 0x1400000 →
      f.granted = none → f.at_ + 2 ≤ 2 * k → f.locked = false → b.toNat = f.addr.toNat / 32 % 32 → free n.toNat →
        Does s (.cmemBeatGrant c []) fun t => phased t ∧ won n.toNat (f.wr && decide (f.size < 8)) t ∧
        t.core h = { s.core h with far := [{ f with granted := some k }] }) ∧
    Does s (.quotaWindowEnd c) (fun t => t.clu c = { x with used := [], masked := [] } ∧ inCl t ∧
      t = { s with cl := t.cl, now := t.now } ∧ t.now = max s.now (2 * ((s.now / 2 + w - 1) / w * w))) ∧
    (on (ARB_PRI c r) → Does s (.arbPriWrite c r v) fun t => t.rd (ARB_PRI c r) = v &&& 0x0F00FFFF ∧
      t.prd (ARB_PRI c r) = s.prd (ARB_PRI c r) ∧ RegsBut [ARB_PRI c r] s t ∧
      t = { s with regs := t.regs, wlog := t.wlog, wlogAt := t.wlogAt }) ∧
    (¬on (ARB_PRI c r) → Does s (.arbPriWrite c r v) fun t => t = s) ∧
    (¬on (REMAP_CTL c) → Does s (.remapStart c b) fun t => t = s) ∧
    (on (REMAP_CTL c) → used = true → Does s (.remapStart c b) fun t => t.fld (REMAP_CTL c) REMAP_CTL_BANK = b.toNat ∧
      regsOnly [REMAP_CTL c] t) ∧
    (on (REMAP_CTL c) → used = false → Does s (.remapStart c b) fun t => t.fld (REMAP_CTL c) REMAP_CTL_BANK = b.toNat ∧
      started b.toNat t ∧ t.clu c = { x with remap := b.toNat + 1 } ∧
      RegsBut [REMAP_CTL c, rs] s t ∧ inCl t ∧ t = { s with regs := t.regs, cl := t.cl }) ∧
    (x.remap = 0 → Does s (.remapDone c) fun t => t = s) ∧
    (x.remap ≠ 0 → Does s (.remapDone c) fun t => t.flag rs REMAP_STAT_ACTIVE = false ∧ t.flag rs REMAP_STAT_DONE = true ∧
      t.fld rs REMAP_STAT_ROW = 4095 ∧ t.flag rs REMAP_STAT_SPARE_USED = used ∧
      t.flag (MEM_EVT c) MEM_EVT_REMAP_DONE = true ∧ t.clu c = { x with remap := 0, spareBank := x.remap } ∧
        RegsBut [rs, MEM_EVT c] s t ∧ inCl t ∧ t = { s with regs := t.regs, cl := t.cl }) ∧
    (∀ o ∈ [none, some b], ∀ q ∈ [Ecc.ok, .ce, .ue], ¬skims → Does s (.skimRegion c o q) fun t => t = s) ∧
    (∀ o ∈ [none, some b], skims → o = none ∨ b.toNat ∉ banks → (Does s (.skimRegion c o .ok) fun t => skimmed t ∧ dead t ∧
        t.clu c = { x with region := (t.clu c).region, dead := (t.clu c).dead } ∧
          RegsBut [MEM_CNT c 0, MEM_CNT c 0 + 4, SKIM_STAT c] s t ∧ t = { s with regs := t.regs, cl := t.cl }) ∧
      (Does s (.skimRegion c o .ce) fun t => skimmed t ∧ dead t ∧ inc (MEM_CNT c 3) t ∧ (t.clu c).cmem = x.cmem ∧
        t.cores = s.cores) ∧
      (Does s (.skimRegion c o .ue) fun t => skimmed t ∧ dead t ∧ inc (MEM_CNT c 4) t ∧ t.flag (MEM_EVT c) MEM_EVT_UE = true ∧
        t.cores = s.cores ∧ t.free = s.free + 2 ∧
        ∃ w : Fin 32, (t.clu c).cmem.tint (256 * reg + 8 * w) = .both ∧ ∀ a : Nat, a / 8 ≠ 32 * reg + w.val →
          (t.clu c).cmem.b.get 0 a = x.cmem.b.get 0 a)) ∧
    (skims → b.toNat ∈ banks → used = false → Does s (.skimRegion c (some b) .ok) fun t => skimmed t ∧ dead t ∧ failed t ∧
      t.cores = s.cores ∧ (auto = true → started b.toNat t) ∧
      (auto = false → t.rd rs = s.rd rs ∧ (t.clu c).remap = x.remap) ∧ (x.errq.length < 8 →
        ∃ w ∈ (t.clu c).errq, (t.clu c).errq = x.errq ++ [w] ∧ w.cls = 3 ∧ w.action = (if auto then 5 else 0) ∧
        w.index = 32 * c + b.toNat)) ∧
    (skims → b.toNat ∈ banks → used = true → s.framesInRange = true → Does s (.skimRegion c (some b) .ok) fun t => skimmed t ∧
      failed t ∧ (t.clu c).sheet = 2 ∧ (∀ a : Fin 8, t.rotState (8 * c.val + a.val) = 5) ∧
      (∀ h : CoreId, h.val / 8 ≠ c.val → t.core h = s.core h)) ∧
    (¬on m → Does s (.mrepApply c n v) fun t => t = s) ∧
    (on m → ¬mends ∨ e ∈ reps → Does s (.mrepApply c n v) fun t => named t ∧ t = { s with regs := t.regs }) ∧
    (on m → mends → e ∉ reps → 2 ≤ x.sparesUsed c n.toNat arr → Does s (.mrepApply c n v) fun t => named t ∧
      t.flag m MREP_FAIL = true ∧ t = { s with regs := t.regs }) ∧
    (on m → mends → e ∉ reps → x.sparesUsed c n.toNat arr < 2 → Does s (.mrepApply c n v) fun t => named t ∧
      t.clu c = { x with repairs := x.repairs.set [] n.toNat (reps ++ [e]) } ∧
      t.fld m MREP_SOFT_USED = (reps.length + 1) % 64 ∧ inCl t ∧ t = { s with regs := t.regs, cl := t.cl }) ∧
    Does s (.dbankReq .warden g v) (asked true) ∧
    (y.run = true → y.pl ≠ 0 → Does s (.dbankReq (.core g) g v) (asked false)) ∧
    (y.run = false → Does s (.dbankReq (.core g) g v) fun t => t = s) ∧
    (y.run = true → y.pl = 0 → Does s (.dbankReq (.core g) g v) fun t => t = s.except g 6 0 (some 0x9000384)) ∧
    (s.flag PRIN_CTL PRIN_CTL_HOST_MEM = true → Does s (.dbankReq .host g v) (asked false)) ∧
    (s.flag PRIN_CTL PRIN_CTL_HOST_MEM = false → Does s (.dbankReq .host g v) fun t => t = s.accRefused .host 0x10 true 1) ∧
    (y.dbBusy.get [] n.toNat = [] → Does s (.dbankHandoverDone g n) fun t => t = s) ∧
    (y.dbBusy.get [] n.toNat ≠ [] → Does s (.dbankHandoverDone g n) fun t => t.core g = { y with dbOwn := y.dbOwn.set 0 n.toNat ((y.dbBusy.get [] n.toNat).headD 0), dbBusy := y.dbBusy.set [] n.toNat (y.dbBusy.get [] n.toNat).tail } ∧
      (t.src (prKey g 11)).occ = min ((s.src (prKey g 11)).occ + 1) 255 ∧ SMap.But Core.reset [g.val] s.cores t.cores ∧
        t = { s with cores := t.cores, srcs := t.srcs }) ∧
    (∀ q ∈ [Ecc.ok, .ce, .ue], ix.toNat ∉ x.restore → Does s (.skbContextRestore c ix q) fun t => t = s) ∧
    (∀ q ∈ [Ecc.ok, .ce], ix.toNat ∈ x.restore → Does s (.skbContextRestore c ix q) fun t => ix.toNat ∉ (t.clu c).restore ∧
      (t.clu c).ctx ix.toNat = (if has then { ctx with live := true } else ctx) ∧
      inCl t ∧ t.cores = s.cores ∧ t.vault = s.vault ∧ (q = .ok → RegsBut [] s t) ∧ (q = .ce → inc (MEM_CNT c 5) t)) ∧
    (ix.toNat ∈ x.restore → Does s (.skbContextRestore c ix .ue) fun t => inc (MEM_CNT c 6) t ∧
      t.flag (MEM_EVT c) MEM_EVT_UE = true ∧ (t.clu c) = { x with errq := (t.clu c).errq } ∧ t.cores = s.cores)

/-- R316 to R318, R323 to R328, R332, R335, R337, R339, R387: an event of an edge source adds to OCC and sets PENDING
at once or under its coalescing rules, which a timeout ends; CLR clears it; a level source has no stored PENDING. A
shared source whose target is fenced uses FALLBACK, counted once. SRC_CFG takes its fields. A filtered pin's change
makes the edge that its MODE names, a short run counts a glitch, and a fall orphans the bursts it paces. -/
def Obligations.EventSources : Prop :=
  ∀ (s : State) (src : EvSrc) (v : Word) (pin : PinId) (b : Bool) (c : ClId) (i : BitVec 8) (n : R3) (ch : R4) (r : DmaRun),
    let k := evKey src
    let x := s.src k
    let cw := s.rd (srcAddr k 1)
    let count := cw.fld SRC_COAL_COUNT
    let time := cw.fld SRC_COAL_TIME
    let occ := min (x.occ + 1) 255
    let now := x.pend = true ∨ count = 1 ∨ (count = 0 ∧ time = 0) ∨ (count ≠ 0 ∧ count ≤ occ)
    let fb := [DEVC_FB_STAT] ++ (List.range 12).flatMap fun a => [FALLBACK_COUNT a, FALLBACK_COUNT a + 4]
    let quiet (l : List Nat) (t : State) : Prop := RegsBut (l ++ fb) s t ∧ SMap.But Src.reset [k, devKey 38] s.srcs t.srcs ∧
        t = { s.signals t with regs := t.regs }
    let raised (t : State) : Prop := (t.src k).occ = occ ∧ ((t.src k).pend = true ↔ now) ∧ (t.src k).act = x.act ∧
        (t.src k).owner = x.owner ∧
      (¬now → (t.src k).win = some (x.win.getD s.mclk)) ∧ quiet [] t
    let edge := s.level k = none
    let known := evAssigned src = true
    let own := src = .shared c i
    let sh := match src with
      | .shared _ _ => true
      | _ => false
    let cfg := s.rd (SRC c i.toNat 0)
    let fenced (g : Nat) : Bool := fencedState (s.rotState (8 * c + g))
    let falls (t : State) : Prop := (t.src k).fb = true ∧ t.rd DEVC_FB_STAT = s.rd DEVC_FB_STAT ||| BitVec.ofNat 32 (2 ^ c.val) ∧
      t.rd64 (FALLBACK_COUNT c) = (if fenced (cfg.fld SRC_CFG_FALLBACK) then s.rd64 (FALLBACK_COUNT c) else (s.rd64 (FALLBACK_COUNT c) + 1) % 2 ^ 64) ∧
      (t.src (devKey 38)).occ = min ((s.src (devKey 38)).occ + 1) 255
    let cleared := s.setSrc k { x with pend := false, occ := 0, win := none, fb := false }
    let at_ := max s.now (20 * (x.win.getD 0 + time))
    let a := (pinReg pin).getD 0
    let ev := match pin with
      | .evtIn _ => true
      | _ => false
    let mode := s.fld (DEVC_PIN_FLT n.toNat) PIN_FLT_MODE
    let hit := mode = 2 ∨ (mode = 0 ∧ b = true) ∨ (mode = 1 ∧ b = false)
    let moved (t : State) : Prop := t.flag a PIN_FLT_LEVEL = b ∧ t.flag a PIN_FLT_RAW = b ∧
        t.rd a &&& 0x3FFFFFFF = s.rd a &&& 0x3FFFFFFF
    let once (j : Nat) (t : State) : Prop := (t.src j).occ = min ((s.src j).occ + 1) 255
    let paced := s.fld (DMA_CTL c ch.toNat) DMA_CTL_PACE = n.toNat + 2 ∧ s.dmaRun c ch.toNat = some r ∧ r.burst ≠ 0 ∧
        s.fclk ≤ r.burst
    let orphan (t : State) : Prop := t.rd64 (DMA_CNTR c ch.toNat 3) = (s.rd64 (DMA_CNTR c ch.toNat 3) + 1) % 2 ^ 64 ∧
        t.dmaRun c ch.toNat = some { r with burst := 0 }
    (¬known → (Does s (.evcSourceEvent src) fun t => t = s) ∧ (Does s (.srcCmdSet src) fun t => t = s)) ∧
    (known → edge → (Does s (.evcSourceEvent src) raised) ∧ (Does s (.srcCmdSet src) raised)) ∧
    (known → ¬edge → Does s (.srcCmdSet src) fun t => t = s) ∧
    (known → ¬edge → sh = false ∨ s.level k = some false → Does s (.evcSourceEvent src) fun t => t = s) ∧
    (known → own → s.level k = some true → fenced (cfg.fld SRC_CFG_TARGET) = false →
      Does s (.evcSourceEvent src) fun t => t = s.setSrc k { x with fb := false }) ∧
    (own → known → edge → now → x.fb = false → fenced (cfg.fld SRC_CFG_TARGET) = true → Does s (.evcSourceEvent src) falls) ∧
    (own → known → s.level k = some true → fenced (cfg.fld SRC_CFG_TARGET) = true → Does s (.evcSourceEvent src) fun t => falls t ∧
      (t.src k).pend = x.pend ∧ quiet [] t) ∧
    (edge → Does s (.srcCmdClr src) fun t => t = cleared) ∧ (¬edge → Does s (.srcCmdClr src) fun t => t = s) ∧
    (x.win = none ∨ x.pend = true ∨ time = 0 → Does s (.coalesceTimeout src) fun t => t = s) ∧
    (x.win ≠ none → x.pend = false → time ≠ 0 → Does s (.coalesceTimeout src) fun t => t.now = at_ ∧ (t.src k).pend = true ∧
      (t.src k).win = none ∧ (t.src k).occ = x.occ ∧
      RegsBut fb s t ∧ SMap.But Src.reset [k, devKey 38] s.srcs t.srcs ∧ t = { s.signals t with regs := t.regs, now := at_ }) ∧
    (evExists src = false → Does s (.srcCfgWrite .warden src v) fun t => t = s) ∧
    (evExists src = true → s.blockOn (srcAddr k 0) = false → Does s (.srcCfgWrite .warden src v) fun t => t = s) ∧
    (evExists src = true → s.blockOn (srcAddr k 0) = true →
      Does s (.srcCfgWrite .warden src v) fun t => t.rd (srcAddr k 0) = v &&& srcCfgMask src ∧ quiet [srcAddr k 0] t) ∧
    (own → (v &&& srcCfgMask src).fld SRC_CFG_PRI = v.fld SRC_CFG_PRI ∧
      (v &&& srcCfgMask src).fld SRC_CFG_TARGET = v.fld SRC_CFG_TARGET ∧
      (v &&& srcCfgMask src).fld SRC_CFG_FALLBACK = v.fld SRC_CFG_FALLBACK) ∧
    (pinReg pin = none → Does s (.pinFilterChange pin b) fun t => t = s) ∧
    (pinReg pin ≠ none → s.flag a PIN_FLT_LEVEL = b →
      Does s (.pinFilterChange pin b) fun t => t.fld a PIN_FLT_GLITCH = min (s.fld a PIN_FLT_GLITCH + 1) 255 ∧ RegsBut [a] s t ∧
      t = { s with regs := t.regs }) ∧
    (pinReg pin ≠ none → s.flag a PIN_FLT_LEVEL ≠ b → ev = false → Does s (.pinFilterChange pin b) fun t =>
      moved t ∧ RegsBut [a] s t ∧ t = { s with regs := t.regs }) ∧
    (pin = .evtIn n → s.flag a PIN_FLT_LEVEL ≠ b → Does s (.pinFilterChange pin b) fun t => moved t ∧ t.cores = s.cores ∧
      t.cl = s.cl ∧ (b = false → paced → orphan t) ∧
      (hit → once (devKey (40 + n.toNat)) t ∧ once (shKey c (72 + n.toNat)) t) ∧
      (¬hit → (t.src (devKey (40 + n.toNat))).occ = (s.src (devKey (40 + n.toNat))).occ ∧
        (t.src (shKey c (72 + n.toNat))).pend = (s.src (shKey c (72 + n.toNat))).pend))

/-- R343, R348, R375 to R388, R391, R393: EN is set when the ring fits; TAIL below QLEN is taken; ABORT marks the
descriptor bad and stops the channel. A fetched descriptor is checked in order; each burst of a good one, by HIGH and
turn, copies, fills or compares words with their tints while DMA owns the banks; the end writes RESULT, raises the
interrupts, counts, and moves HEAD on. -/
def Obligations.DmaChannels : Prop :=
  ∀ (s : State) (c : ClId) (ch : R4) (v : Word) (r : DmaRun) (ecc : Ecc),
    let n := ch.toNat
    let ctl := DMA_CTL c n
    let qp := DMA_QPTR c n
    let st := DMA_STAT c n
    let on := s.blockOn ctl = true
    let regsOnly (l : List Nat) (t : State) : Prop := RegsBut l s t ∧ t = { s with regs := t.regs }
    let qlen := s.fld (DMA_QCFG c n) DMA_QCFG_QLEN_M1 + 1
    let base := 32 * s.fld (DMA_QCFG c n) DMA_QCFG_QBASE
    let fits := base + 32 * qlen ≤ 0x400000
    let en := s.flag ctl DMA_CTL_EN
    let busy := s.dmaRun c n = some r
    let head := s.fld qp DMA_QPTR_HEAD
    let tail := s.fld qp DMA_QPTR_TAIL
    let pos := base + 32 * head
    let still := ∀ m : Fin 8, (s.core (8 * c.val + m.val)).far = []
    let cm := (s.clu c).cmem
    let w (o : Nat) : Nat := cm.val (pos + o) 4
    let d := (cm.dmaDesc pos).1
    let fill := d.mode = 1
    let bad := s.dmaCheck c d (BitVec.ofNat 32 (w 12))
    let others (t : State) : Prop := SMap.But none [16 * c.val + n] s.dma t.dma
    let len := min (64 - (r.dst.toNat + r.done) % 64) (r.count - r.done)
    let at_ (a : Word) : Nat := a.toNat + r.done
    let owned (a : Word) : Prop := s.dmaOwns c (at_ a) = true ∧ s.dmaOwns c (at_ a + len - 8) = true
    let mine := s.dmaPick c = some n ∧ busy
    let owns := owned r.dst ∧ (r.mode = 1 ∨ owned r.src)
    let rd (t : State) (a i : Nat) : TD := t.dmaRead c (a + 8 * i)
    let clear := at_ r.src + len ≤ at_ r.dst ∨ at_ r.dst + len ≤ at_ r.src
    let went (t : State) : Prop := t.dmaServed.get 0 c = n + 1 ∧ others t ∧
        (t.dmaRun c n).map (fun q => (q.done, q.burst, q.bad, q.pos)) = some (r.done + len, s.fclk + 1, 0, r.pos) ∧
      t.rd (DMA_DST c n) = r.dst + BitVec.ofNat 32 (r.done + len) ∧ t.rd (DMA_CNT c n) = BitVec.ofNat 32 (r.count - (r.done + len)) ∧
        t.now = s.now
    let inOne := at_ r.dst % 8 = 0 ∧ len % 8 = 0 ∧ dmaRangeOk (at_ r.dst) len = true
    let put (val : Nat → TD) (t : State) : Prop := (∀ i : Fin 8, 8 * i.val < len → rd t (at_ r.dst) i = val i) ∧
      (∀ h : CoreId, (t.core h).imem = (s.core h).imem ∧ (t.core h).g = (s.core h).g ∧ (t.core h).cr = (s.core h).cr) ∧
      (at_ r.dst < 0x2000000 → (∀ h : CoreId, t.core h = s.core h) ∧ ∀ a : Nat, (a < at_ r.dst - 0x1000000 ∨
        at_ r.dst + len - 0x1000000 ≤ a) → (t.clu c).cmem.b.get 0 a = cm.b.get 0 a)
    let ended := r.bad ≠ 0 ∨ r.count ≤ r.done
    let off := if r.mode = 2 ∧ r.bad = 0 then r.diff.getD r.done else r.done
    let equal := r.mode = 2 ∧ r.bad = 0 ∧ r.diff = none
    let once (j : Nat) (t : State) : Prop := (t.src j).occ = min ((s.src j).occ + 1) 255
    let cnt (j k : Nat) (t : State) : Prop := t.rd64 (DMA_CNTR c n j) = (s.rd64 (DMA_CNTR c n j) + k) % 2 ^ 64
    (on → en = false → Does s (.dmaEnable .warden c ch) fun t => t.flag ctl DMA_CTL_EN = decide fits ∧
      t.flag st DMA_STAT_CFG_ERR = !decide fits ∧ RegsBut [ctl, st] s t ∧ t = { s with regs := t.regs }) ∧
    (on → en = true → Does s (.dmaEnable .warden c ch) fun t => t.flag ctl DMA_CTL_EN = true ∧ RegsBut [] s t ∧
      t = { s with regs := t.regs }) ∧
    (on → v.fld DMA_QPTR_TAIL < qlen → Does s (.dmaTailWrite .warden c ch v) fun t => t.fld qp DMA_QPTR_TAIL = v.fld DMA_QPTR_TAIL ∧
      t.fld qp DMA_QPTR_HEAD = head ∧ regsOnly [qp] t) ∧
    (on → qlen ≤ v.fld DMA_QPTR_TAIL → Does s (.dmaTailWrite .warden c ch v) fun t => t = s) ∧
    (on → Does s (.dmaAbort .warden c ch) fun t => t.flag ctl DMA_CTL_EN = false ∧ RegsBut [ctl] s t ∧ others t ∧
      t = { s with regs := t.regs, dma := t.dma } ∧
      (∀ q, s.dmaRun c n = some q → t.dmaRun c n = some (if q.bad = 0 then { q with bad := 4 } else q)) ∧ (s.dmaRun c n = none →
        t.dmaRun c n = none)) ∧
    (¬on → (Does s (.dmaEnable .warden c ch) fun t => t = s) ∧ (Does s (.dmaTailWrite .warden c ch v) fun t => t = s) ∧
      (Does s (.dmaAbort .warden c ch) fun t => t = s) ∧
      (Does s (.dmaDescriptorStart c ch) fun t => t = s) ∧ (Does s (.dmaBurst c ch ecc) fun t => t = s)) ∧
    (en = false ∨ s.dmaRun c n ≠ none ∨ head = tail → Does s (.dmaDescriptorStart c ch) fun t => t = s) ∧
    (on → en = true → s.dmaRun c n = none → head ≠ tail → still → Does s (.dmaDescriptorStart c ch) fun t =>
      t.dmaRun c n = some { src := BitVec.ofNat 32 (w 0), dst := BitVec.ofNat 32 (w 4), count := w 8, mode := w 12 / 2 ^ 30 % 4, irq := bitN (w 12) 29, stop := bitN (w 12) 28, pat := cm.word (pos + 16),
                            done := 0, diff := none, tint := .clean, bad := bad, pos := pos, burst := 0 } ∧
      t.rd (DMA_SRC c n) = BitVec.ofNat 32 (w 0) ∧ t.rd (DMA_DST c n) = BitVec.ofNat 32 (w 4) ∧
        t.rd (DMA_CNT c n) = BitVec.ofNat 32 (w 8) ∧
      t.flag st DMA_STAT_BUSY = true ∧ t.flag st DMA_STAT_HOLD = false ∧ t.fld st DMA_STAT_MODE = w 12 / 2 ^ 30 % 4 ∧
      RegsBut [DMA_SRC c n, DMA_DST c n, DMA_CNT c n, st] s t ∧ others t ∧ t = { s with regs := t.regs, dma := t.dma }) ∧
    (d.mode = 3 → bad = 5) ∧
    (d.mode ≠ 3 → w 12 % 2 ^ 28 = 0 → (cm.tint pos).k = false → (cm.tint (pos + 8)).k = false →
      ((¬fill ∧ d.src.toNat % 8 ≠ 0) ∨ d.dst.toNat % 8 ≠ 0 ∨ d.count % 8 ≠ 0 → bad = 1) ∧
      (bad = 0 → d.count ≤ 0x400000 ∧ d.dst.toNat % 8 = 0 ∧ d.count % 8 = 0 ∧ dmaRangeOk d.dst.toNat d.count = true ∧
        s.dmaOwns c d.dst.toNat = true ∧
        (¬fill → d.src.toNat % 8 = 0 ∧ dmaRangeOk d.src.toNat d.count = true ∧ s.dmaOwns c d.src.toNat = true))) ∧
    (s.dmaPick c ≠ some n → Does s (.dmaBurst c ch ecc) fun t => t = s) ∧
    (s.dmaPick c = some n → ∃ q, s.dmaRun c n = some q ∧ q.bad = 0 ∧ q.done < q.count ∧ s.dmaLine c n = true) ∧
    (on → mine → still → ¬owns → Does s (.dmaBurst c ch ecc) fun t => t.dmaRun c n = some { r with bad := 2 } ∧ others t ∧
      t = { s with dma := t.dma, dmaServed := t.dmaServed }) ∧
    (on → mine → still → owns → inOne → r.mode = 1 → Does s (.dmaBurst c ch ecc) fun t => went t ∧ put (fun _ => r.pat) t) ∧
    (on → mine → still → owns → inOne → r.mode = 0 → clear → Does s (.dmaBurst c ch .ok) fun t => went t ∧
      put (fun i => rd s (at_ r.src) i) t ∧ t.rd (DMA_SRC c n) = r.src + BitVec.ofNat 32 (r.done + len)) ∧
    (on → mine → still → owns → inOne → r.mode = 0 → ecc ≠ .ok → Does s (.dmaBurst c ch ecc) went) ∧
    (on → mine → still → owns → r.mode = 2 → len % 8 = 0 → Does s (.dmaBurst c ch .ok) fun t => went t ∧ t.cores = s.cores ∧
      t.cl = s.cl ∧ ∃ q ∈ t.dmaRun c n,
      (r.diff ≠ none → q.diff = r.diff) ∧
      (r.diff = none → (q.diff = none ↔ ∀ i : Fin 8, 8 * i.val < len → (rd s (at_ r.src) i).v = (rd s (at_ r.dst) i).v)) ∧
      (q.tint.k = true ↔ r.tint.k = true ∨ ∃ i : Fin 8, 8 * i.val < len ∧ ((rd s (at_ r.src) i).t.k = true ∨
        (rd s (at_ r.dst) i).t.k = true)) ∧
      (q.tint.r = true ↔ r.tint.r = true ∨ ∃ i : Fin 8, 8 * i.val < len ∧ ((rd s (at_ r.src) i).t.r = true ∨
        (rd s (at_ r.dst) i).t.r = true))) ∧
    (on → mine → still → owns → r.mode = 2 → ecc ≠ .ok → Does s (.dmaBurst c ch ecc) went) ∧
    (s.dmaRun c n = none ∨ (busy ∧ ¬ended) → Does s (.dmaDescriptorFinish c ch) fun t => t = s) ∧
    (busy → ended → still → r.pos % 32 = 0 → Does s (.dmaDescriptorFinish c ch) fun t => t.dmaRun c n = none ∧ others t ∧
      (t.clu c).cmem.word (r.pos + 24) = ⟨BitVec.ofNat 64 (off * 2 ^ 32 + 2 ^ 31 + r.bad * 2 ^ 28 + b2n (decide equal)), if r.mode = 2 then r.tint else .clean⟩ ∧
      (∀ a : Nat, a / 8 ≠ r.pos / 8 + 3 → (t.clu c).cmem.b.get 0 a = cm.b.get 0 a) ∧
      (r.irq = true → once (shKey c (32 + n)) t) ∧ (r.bad ≠ 0 → once (shKey c (48 + n)) t) ∧ (r.irq = false → r.bad = 0 →
        t.srcs = s.srcs) ∧
      t.fld qp DMA_QPTR_HEAD = (head + 1) % qlen ∧ t.fld qp DMA_QPTR_TAIL = tail ∧ cnt 0 (b2n (r.bad == 0)) t ∧
        cnt 1 (b2n (r.bad != 0)) t ∧ cnt 2 (if r.mode = 2 then 0 else r.done) t ∧
      t.flag st DMA_STAT_BUSY = false ∧ t.flag st DMA_STAT_HOLD = false ∧ t.fld st DMA_STAT_LAST_CAUSE = r.bad % 8 ∧
        t.flag ctl DMA_CTL_EN = (en && !r.stop) ∧ t.cores = s.cores)

/-! The Tertos ring -/

/-- R499 to R512, R524, R526, R527: a ring port sends and answers HELLO, makes the handshake's steps or waits, and is
fenced by a wiring fault, a failed step, tag, credit audit, eighth retry, or command. Flits are accepted in order or
answered with a NACK; a timeout replays. A port comes UP with its first protected flit; an UP port that loses its
neighbour wraps, records it, and stops the SAs of a device with no port UP. -/
def Obligations.RingPorts : Prop :=
  ∀ (s : State) (e : RPort) (h : FlitHdr) (v : Word) (east : Bool) (rid : BitVec 16) (node : BitVec 8) (st2 : BitVec 2) (parts : List (List Byte)) (a b c c2 : BitVec 9) (g : Nat) (seed : List Byte),
    let d := rportN e
    let p := s.rp d
    let st := s.rpState d
    let stat := RPORT_STAT d
    let peer := s.fld stat RPORT_STAT_PEER_NODE
    let me := BitVec.ofNat 8 s.nodeId
    let clear : FlitHdr := ⟨false, BitVec.ofNat 8 peer, me, 0, 0, false, 0, 0⟩
    let only (t : State) : Prop := SMap.But RPortSt.reset [d] s.rport t.rport
    let inc (r n : Nat) (t : State) : Prop := t.rd64 r = (s.rd64 r + n) % 2 ^ 64
    let evt (f : Fld) (t : State) : Prop := t.flag RING_EVT f = true
    let ok := s.framesInRange = true
    let fresh (q : RPortSt) : RPortSt := { RPortSt.reset with pcs := q.pcs, pcsAt := q.pcsAt }
    let lost (d st cause : Nat) (now : Nat) (t : State) : Prop := t.rpState d = st ∧ t.wrapped d = true ∧ (t.rp d).queue = [] ∧
        (t.rp d).replay = [] ∧ t.now = now ∧ t.cl = s.cl ∧
      t.cores = s.cores ∧ inc (RPORT_CNT d 4) 1 t ∧ evt RING_EVT_PORT_LOST t ∧ (s.derrq.length < 16 →
        ∃ r ∈ t.derrq, t.derrq = s.derrq ++ [r] ∧ r.cls = 24 ∧ r.index = d ∧
        r.info0 = BitVec.ofNat 32 (s.fld (RPORT_STAT d) RPORT_STAT_PEER_NODE) ∧ r.info1 = BitVec.ofNat 32 cause) ∧
      (∀ f : Nat, (s.frame f).spill = none → t.frame f = s.frame f) ∧ ∀ i : Fin 4096, s.rpState (1 - d) ≠ 3 → s.replMode i = 1 →
        s.flag (SA_CFG i) SA_CFG_DIR = false → (t.prd (SA_STAT i)).fld SA_STAT_STOPPED = 1
    let fenced (d cause : Nat) (now : Nat) (t : State) : Prop := t.rpState d = 5 ∧ (s.rpState d ≠ 5 →
        t.fld (RPORT_STAT d) RPORT_STAT_FENCE_CAUSE = cause) ∧
      (s.rpState d ≠ 3 → s.rpState d ≠ 5 → t.rp d = fresh (s.rp d)) ∧ (s.rpState d = 3 → lost d 5 cause now t)
    let takes := s.rpTakes d = true
    let nacked (t : State) : Prop := (p.rxRun < 7 → t.rp d = { p with nack := true, rxRun := p.rxRun + 1 } ∧ only t ∧
        t.frames = s.frames) ∧ (7 ≤ p.rxRun → ok → fenced d 1 s.now t)
    let heard := takes ∧ h.seq.toNat = p.rxNum % 4096
    let left := unackedAfter h.ack.toNat p.replay
    let run2 := if left.length < p.replay.length then 0 else p.run
    let calm := h.nack = false ∨ left = [] ∨ run2 < 7
    let accepted (pool : Nat) (hb : Nat) (t : State) : Prop := t.rpState d = 3 ∧ (t.rp d).rxNum = p.rxNum + 1 ∧ (t.rp d).rxRun = 0 ∧
        inc (RPORT_CNT d 1) 1 t ∧ (st ≠ 3 → evt RING_EVT_PORT_UP t) ∧ only t ∧
      (h.nack = false → p.queue = [] → (t.rp d).replay = left ∧
        nth 0 (t.rp d).owed pool = nth 0 (setNth p.owed pool (nth 0 p.owed pool + 1)) pool ∧
        (t.rp d).run = run2 ∧ (t.rp d).hbAt = hb ∧
        (t.rp d).credits = setNth p.credits h.crSel.toNat (nth 0 p.credits h.crSel.toNat + h.credit.toNat) ∧
          RegsBut [stat, RPORT_CNT d 1, RPORT_CNT d 1 + 4, RING_EVT] s t ∧
        t = { s.signals t with regs := t.regs, rport := t.rport })
    let replayed (t : State) : Prop := let at2 := max s.now ((p.replay.head?.map (fun m => m.at_)).getD 0 + 4000)
      t.now = at2 ∧ (p.run < 7 → inc (RPORT_CNT d 2) 1 t ∧
        (t.rp d) = { p with run := p.run + 1, replay := p.replay.map fun m => { m with at_ := at2 } } ∧ only t ∧
        t.out = s.out ++ p.replay.map (fun m => .ring d m.h m.body))
    let hello := RBody.hello (d == 0) (BitVec.ofNat 16 (s.fld RING_CFG RING_CFG_RING_ID)) me
    let awaits := st = 2 ∧ p.pcs = true ∧ p.keyed = false ∧ p.waiting = false ∧ ((st2 = 1 ∧ d = 1 ∧ p.step = 2) ∨ (st2 = 2 ∧ d = 0 ∧
        p.step = 3))
    let staffed := s.keCore = some g ∧ s.identSeed = some seed ∧ s.trngOk = true
    let pk := nth [] parts 0
    let trusted := s.ringTrust d = some (sha3 pk)
    let sends (d : Nat) (body : RBody) (t : State) : Prop := ∃ m ∈ t.out.drop s.out.length, ∃ q ∈ (t.rp d).replay, m = .ring d q.h body ∧ q.body = body ∧ q.h.seq = BitVec.ofNat 12 (s.rp d).txNum ∧
      (t.rp d).txNum = (s.rp d).txNum + 1
    let still := (s.rpState 0 = 0 ∨ s.rpState 0 = 5) ∧ (s.rpState 1 = 0 ∨ s.rpState 1 = 5)
    let roomy (q : RPortSt) : Prop := q.queue = [] ∧ 0 < nth 0 q.credits 2 ∧ 0 < nth 0 q.credits 3 ∧ q.unacked < 512
    (st ≠ 1 → Does s (.helloSend e) fun t => t = s) ∧
    (st = 1 → Does s (.helloSend e) fun t => t.rp d = { p with helloSent := true } ∧ only t ∧
      t = { s with rport := t.rport, out := s.out ++ [.ring d clear hello] }) ∧
    (p.pcs = false ∨ (st ≠ 1 ∧ st ≠ 2 ∧ st ≠ 3) → Does s (.ringHello e east rid node) fun t => t = s) ∧
    (p.pcs = true → st = 3 → ok → Does s (.ringHello e east rid node) (lost d 4 0 s.now)) ∧
    (p.pcs = true → st = 1 ∨ st = 2 → east = (d == 0) → s.rpState (1 - d) ≠ 3 →
      Does s (.ringHello e east rid node) fun t => fenced 0 5 s.now t ∧ fenced 1 5 s.now t) ∧
    (p.pcs = true → east ≠ (d == 0) → st = 2 ∨ (st = 1 ∧ (rid.toNat ≠ s.fld RING_CFG RING_CFG_RING_ID ∨ p.helloSent = false)) →
      Does s (.ringHello e east rid node) fun t => t = s) ∧
    (p.pcs = true → east ≠ (d == 0) → st = 1 → rid.toNat = s.fld RING_CFG RING_CFG_RING_ID → p.helloSent = true → (d = 1 ∨
      s.keCore = none) → Does s (.ringHello e east rid node) fun t =>
      t.rpState d = 2 ∧ t.fld stat RPORT_STAT_PEER_NODE = node.toNat ∧
        t.rp d = { p with step := if d = 0 then 1 else 2, waiting := decide (d = 0) } ∧ only t ∧ RegsBut [stat] s t ∧
        t = { s with regs := t.regs, rport := t.rport }) ∧
    (p.pcs = true → east ≠ (d == 0) → st = 1 → rid.toNat = s.fld RING_CFG RING_CFG_RING_ID → p.helloSent = true → d = 0 → staffed →
      s.vault.handles = [] → Does s (.ringHello e east rid node) fun t =>
      t.rpState d = 2 ∧ (t.rp d).step = 3 ∧ (t.rp d).handle ≠ 0 ∧ (t.out.drop s.out.length).any (fun m => match m with
        | .ring 0 _ (.handshake 1 [k, _, _]) => k == s.dsaPk
        | _ => false) = true) ∧
    (¬awaits → Does s (.ringHandshake e st2 parts) fun t => t = s) ∧
    (awaits → s.keCore = none ∨ s.identSeed = none ∨ s.trngOk = false →
      Does s (.ringHandshake e st2 parts) fun t => t.rp d = { p with got := parts, waiting := true } ∧ only t ∧
      t = { s with rport := t.rport }) ∧
    (awaits → staffed → d = 1 → ¬trusted ∨
      Config.mldsaVerify pk (ascii "ZRG1" ++ s.ringId ++ nth [] parts 1) (nth [] parts 2) = false →
      Does s (.ringHandshake e st2 parts) (fenced d 4 s.now)) ∧
    (awaits → staffed → d = 1 → trusted →
      Config.mldsaVerify pk (ascii "ZRG1" ++ s.ringId ++ nth [] parts 1) (nth [] parts 2) = true →
      Does s (.ringHandshake e st2 parts) fun t =>
      (t.rp d).keyed = true ∧ (t.rp d).txNum = 1 ∧ (t.rp d).rxNum = 0 ∧ t.rpState d = 2 ∧ t.frames = s.frames) ∧
    (st ≠ 2 ∨ p.waiting = false → Does s (.handshakeRetry e) fun t => t = s) ∧
    (st = 2 → p.waiting = true → s.keCore = none → Does s (.handshakeRetry e) fun t => t.rp d = p ∧ only t ∧
      t = { s with rport := t.rport }) ∧
    (st = 2 → p.waiting = true → staffed → d = 0 → p.step = 1 → s.vault.handles = [] →
      Does s (.handshakeRetry e) fun t => (t.rp d).step = 3 ∧ (t.rp d).waiting = false ∧ (t.rp d).handle ≠ 0) ∧
    (st ≠ 4 → Does s (.ringPcsLock e) fun t => t.rp d = { p with pcs := true } ∧ only t ∧ t = { s with rport := t.rport }) ∧
    (st = 4 → Does s (.ringPcsLock e) fun t => t.rp d = { fresh p with pcs := true } ∧
      t.rpState d = (if s.flag RING_CFG RING_CFG_EN then 1 else 0) ∧ RegsBut [stat] s t ∧ only t ∧
      t = { s with rport := t.rport, regs := t.regs }) ∧
    (p.pcs = false → Does s (.ringPcsLoss e) fun t => t = s) ∧
    (p.pcs = true → Does s (.ringPcsLoss e) fun t => t.rp d = { p with pcs := false, pcsAt := s.now } ∧ only t ∧
      t = { s with rport := t.rport }) ∧
    (¬takes → (Does s (.ringIdle e h) fun t => t = s) ∧ (Does s (.ringHeartbeat e h) fun t => t = s) ∧
      (Does s (.ringFlitTimeout e) fun t => t = s) ∧
      ∀ k ∈ [FlitErr.crc, .seq, .tag], Does s (.ringFlitError e k) fun t => t = s) ∧
    (takes → h.seq.toNat ≠ p.rxNum % 4096 → (Does s (.ringIdle e h) nacked) ∧ (Does s (.ringHeartbeat e h) nacked)) ∧
    (heard → calm → (Does s (.ringIdle e h) (accepted (2 + b2n h.dl) (if st = 3 then p.hbAt else s.now + 1))) ∧
      (Does s (.ringHeartbeat e h) (accepted (2 + b2n h.dl) (s.now + 1)))) ∧
    (heard → ¬calm → ok → (Does s (.ringIdle e h) fun t => t.rpState d = 5 ∧ t.fld stat RPORT_STAT_FENCE_CAUSE = 1) ∧
      (Does s (.ringHeartbeat e h) fun t => t.rpState d = 5 ∧ t.fld stat RPORT_STAT_FENCE_CAUSE = 1)) ∧
    (takes → (Does s (.ringFlitError e .seq) nacked) ∧ (ok → Does s (.ringFlitError e .crc) fun t => nacked t ∧
      inc (RPORT_CNT d 3) 1 t)) ∧
    (takes → ok → Does s (.ringFlitError e .tag) fun t => fenced d 3 s.now t ∧ evt RING_EVT_AUTH_FAIL t) ∧
    (p.replay = [] → Does s (.ringFlitTimeout e) fun t => t = s) ∧
    (p.replay ≠ [] → takes → Does s (.ringFlitTimeout e) replayed) ∧
    (p.replay ≠ [] → takes → 7 ≤ p.run → ok → Does s (.ringFlitTimeout e) fun t => t.rpState d = 5 ∧
      t.fld stat RPORT_STAT_FENCE_CAUSE = 1 ∧ inc (RPORT_CNT d 2) 1 t) ∧
    (st ≠ 3 → Does s (.ringCreditAudit e a b c c2) fun t => t = s) ∧
    (st = 3 → p.credits.length = 4 → a.toNat + nth 0 p.credits 0 = 256 → b.toNat + nth 0 p.credits 1 = 256 →
      c.toNat + nth 0 p.credits 2 = 32 → c2.toNat + nth 0 p.credits 3 = 32 →
      Does s (.ringCreditAudit e a b c c2) fun t => t = s) ∧
    (st = 3 → p.credits.length = 4 → a.toNat + nth 0 p.credits 0 ≠ 256 ∨ b.toNat + nth 0 p.credits 1 ≠ 256 ∨
      c.toNat + nth 0 p.credits 2 ≠ 32 ∨ c2.toNat + nth 0 p.credits 3 ≠ 32 → ok →
      Does s (.ringCreditAudit e a b c c2) (fenced d 2 s.now)) ∧
    (st ≠ 3 → (Does s (.heartbeatSend e) fun t => t = s) ∧ (Does s (.neighbourLost e) fun t => t = s)) ∧
    (st = 3 → Does s (.heartbeatSend e) fun t => t.wrapped d = false ∧ only t ∧ t.frames = s.frames ∧
      RegsBut [stat, RPORT_CNT d 0, RPORT_CNT d 0 + 4] s t ∧ (roomy p → sends d .heartbeat t)) ∧
    (st = 3 → ok → Does s (.neighbourLost e) (lost d 4 0 (max s.now (if p.pcs then p.hbAt - 1 + 8000 else min (p.hbAt - 1 + 8000) (p.pcsAt + 2000))))) ∧
    (ok → Does s (.ringPortFence e) fun t => fenced d 6 s.now t ∧ t.flag (RPORT_CTL d) RPORT_CTL_FENCE = true) ∧
    (¬still → Does s (.ringCfgWrite .warden v) fun t => t = s) ∧
    (still → Does s (.ringCfgWrite .warden v) fun t => t.rd RING_CFG = v &&& 0xC0FFFFFF ∧
      (∀ i : Fin 2, t.rpState i = if s.rpState i = 0 then b2n (t.flag RING_CFG RING_CFG_EN) else 5) ∧
      (∀ i : Fin 2, t.rp i = if s.rpState i = 0 then fresh (s.rp i) else s.rp i) ∧
        RegsBut [RING_CFG, RPORT_STAT 0, RPORT_STAT 1] s t ∧ t = { s with regs := t.regs, rport := t.rport })

/-- R498, R505, R506, R511 to R521, R525, R526, R528: a message in order is accepted, acts where it is for this
device, and passes on. ADVERTs keep nodes reached and their offers; LOSS drops what the lost node took; SPILLs are
taken or refused, and their results complete or drop the frame; REPL and REPL_ACK keep replicas, leases and waiting
commands; timers send, suspend, resynchronise and release; fresh replicas of a lost device are promoted. -/
def Obligations.RingMessages : Prop :=
  ∀ (s : State) (e : RPort) (h : FlitHdr) (ad : Advert) (y n : BitVec 8) (x : SpillHdr) (bs : List Byte) (rm : List Bool) (m : ReplMsg) (i12 : BitVec 12) (q : Word) (key : Bool) (f g base block buf : Nat) (fs : List Nat),
    let d := rportN e
    let o := 1 - d
    let p := s.rp d
    let me := s.nodeId
    let takes := s.rpTakes d = true
    let heard := takes ∧ h.seq.toNat = p.rxNum % 4096 ∧ h.nack = false ∧ s.framesInRange = true
    let inc (r k : Nat) (t : State) : Prop := t.rd64 r = (s.rd64 r + k) % 2 ^ 64
    let evt (fl : Fld) (t : State) : Prop := t.flag RING_EVT fl = true
    let cnts := [RPORT_STAT d, RING_EVT, RPORT_CNT d 1, RPORT_CNT d 1 + 4, RPORT_CNT o 0, RPORT_CNT o 0 + 4]
    let far := h.dest.toNat ≠ me ∧ h.dest.toNat ≠ 255 ∧ h.src.toNat ≠ me
    let mine := heard ∧ h.src.toNat ≠ me ∧ (h.dest.toNat = me ∨ h.dest.toNat = 255)
    let roomy (body : RBody) : Prop := s.rpState o = 3 ∧ (s.rp o).queue = [] ∧ p.queue = [] ∧
        flitsOf body ≤ nth 0 (s.rp o).credits (poolOf body false) ∧ flitsOf body ≤ nth 0 (s.rp o).credits (poolOf body true) ∧
      (s.rp o).unacked + flitsOf body ≤ 512
    let passed (body : RBody) (t : State) : Bool := (t.out.drop s.out.length).any fun z => match z with
      | .ring w hh bb => w == o && bb == body && hh.dest == h.dest && hh.src == h.src
      | _ => false
    let claim (i : Instr) (b : RBody) : Prop := (¬takes → Does s i fun t => t = s) ∧
      (takes → h.seq.toNat ≠ p.rxNum % 4096 → p.rxRun < 7 →
        Does s i fun t => t.rp d = { p with nack := true, rxRun := p.rxRun + 1 } ∧ t = { s with rport := t.rport }) ∧
      (heard → Does s i fun t => t.rpState d = 3 ∧ (t.rp d).rxNum = p.rxNum + flitsOf b ∧ inc (RPORT_CNT d 1) (flitsOf b) t) ∧
      (heard → h.src.toNat = me → p.queue = [] → Does s i fun t => RegsBut cnts s t ∧
        t = { s.signals t with regs := t.regs, rport := t.rport }) ∧
      (heard → far → roomy b → Does s i fun t => passed b t = true ∧ RegsBut cnts s t ∧
        t = { s.signals t with regs := t.regs, rport := t.rport })
    let dirOf (i : Nat) : Nat := RING_SPILL_DIR i
    let sd := b2n x.dir
    let sa := x.sa.toNat
    let t0 : Word := BitVec.ofNat 32 (2 * s.fclk)
    let cells := (x.len.toNat + 64 + 255) / 256
    let c := wmax (s.tfreeOf g) (t0 + 32) + BitVec.ofNat 32 (base + block * ((x.len.toNat + 15) / 16))
    let cfg := s.prd (SA_CFG sa)
    let outL := s.outLen (1 - sd) (cfg.fld SA_CFG_EGRESS_PORT) (cfg.fld SA_CFG_FORMAT) x.len.toNat
    let soon := wle (c + 96 + BitVec.ofNat 32 (ser (outL + 64) 400)) (s.timebase + BitVec.ofNat 32 (s.fld RING_SPILL_CFG RING_SPILL_CFG_NB_LAT)) = true
    let refused (t : State) : Prop := inc (RING_CNT 1) 1 t ∧ evt RING_EVT_SPILL_REFUSED t ∧ t.frames = s.frames ∧ t.cores = s.cores ∧
        t.cl = s.cl ∧ t.nextFid = s.nextFid
    let taken (t : State) : Prop := let z := t.frame s.nextFid
      t.nextFid = s.nextFid + 1 ∧ inc (RING_CNT 0) 1 t ∧ t.tfreeOf g = c ∧ z.side = sd ∧ z.sa = sa ∧ z.key = x.key ∧
        z.pn = x.pn.toNat ∧ z.len = x.len.toNat ∧ z.core = g ∧ z.c = c ∧ z.buf = buf ∧ z.cells = cells ∧
        z.cls = x.cls.toNat ∧ z.atCore = true ∧ z.stage = .admitted ∧ z.taken = some (x.origin.toNat, x.ftag.toNat) ∧
          SMap.But Frame.none [s.nextFid] s.frames t.frames
    let w := s.frame f
    let spilled := s.framesWith (fun z => z.spill.isSome && z.side == sd && z.ftag == x.ftag.toNat && z.drop == 0 && z.done.isNone && z.stage != .gone)
    let live := w.drop = 0 ∧ w.stage = .admitted ∧ w.taken = none ∧ w.putty = none ∧ w.done = none
    let ra := m.sa.toNat
    let ri := 2 * ra + b2n m.key
    let fresh (t : State) (a : Nat) : Bool := t.flag (REPL_STAT a) REPL_STAT_FRESH
    let partner := s.replMode ra = 2 ∧ s.replPeer ra = h.src.toNat
    let aa := i12.toNat
    let ai := 2 * aa + b2n key
    let unchangedPath (t : State) : Prop := t.frames = s.frames ∧ t.cores = s.cores ∧ t.cl = s.cl
    let pnDue := s.ring.pnAt.get 0 (2 * aa) ≠ 0 ∨ s.ring.pnAt.get 0 (2 * aa + 1) ≠ 0
    let last := match s.ring.adverts.get none n.toNat with
      | some (t, _) => t + 80000
      | none => 0
    let of (mode : Nat) : Prop := s.replMode aa = mode ∧ s.replPeer aa = n.toNat
    (claim (.ringAdvert e h ad) (.advert ad) ∧ claim (.ringLoss e h y) (.loss y) ∧ claim (.ringSpill e h x bs rm) (.spill x bs rm) ∧
      claim (.ringSpillResult e h x bs rm) (.result x bs rm) ∧
      claim (.ringRepl e h m) (.repl m) ∧ claim (.ringReplAck e h i12 q) (.replAck i12 q)) ∧
    (claim (.ringForward e h (.advert ad)) (.advert ad) ∧ claim (.ringForward e h (.loss y)) (.loss y) ∧
      claim (.ringForward e h (.spill x bs rm)) (.spill x bs rm) ∧
      claim (.ringForward e h (.result x bs rm)) (.result x bs rm) ∧ claim (.ringForward e h (.repl m)) (.repl m) ∧
        claim (.ringForward e h (.replAck i12 q)) (.replAck i12 q)) ∧
    ((Does s (.ringForward e h (.hello key 5 y)) fun t => t = s) ∧ (Does s (.ringForward e h (.handshake 1 [bs])) fun t => t = s)) ∧
    (mine → Does s (.ringAdvert e h ad) fun t => t.ring.adverts.get none ad.node.toNat = some (s.now + 1, ad) ∧
      t.ring.losses.get [] ad.node.toNat = [] ∧ unchangedPath t ∧
      ∀ i : Fin 2, t.fld (dirOf i) RING_SPILL_DIR_TARGET = ad.node.toNat → t.flag (dirOf i) RING_SPILL_DIR_VALID = ad.offer ∧
        t.fld (dirOf i) RING_SPILL_DIR_NB_LAT = ad.nbLat.toNat) ∧
    (mine → Does s (.ringLoss e h y) fun t => (t.ring.losses.get [] y.toNat).contains h.src.toNat = true ∧ t.cores = s.cores ∧
      t.cl = s.cl ∧
      (∀ i : Fin 2, w.spill = some i.val → s.fld (dirOf i) RING_SPILL_DIR_TARGET = y.toNat → live → (t.frame f).drop = 4) ∧
        (w.spill = none → t.frame f = w)) ∧
    (s.rpState 0 ≠ 3 → s.rpState 1 ≠ 3 → Does s .advertSend fun t => t = s) ∧
    (s.rpState d = 3 → p.queue = [] → p.unacked < 512 → 0 < nth 0 p.credits 2 → 0 < nth 0 p.credits 3 →
      Does s .advertSend fun t => unchangedPath t ∧ (t.out.drop s.out.length).any (fun z => match z with
      | .ring v _ (.advert a) => v == d && a.node.toNat == me % 256 && a.offer == s.flag RING_SPILL_CFG RING_SPILL_CFG_OFFER && a.nbLat.toNat == s.fld RING_SPILL_CFG RING_SPILL_CFG_NB_LAT
      | _ => false) = true) ∧
    (s.ring.adverts.get none n.toNat = none → Does s (.nodeUnreached n) fun t => t = s) ∧
    (s.ring.adverts.get none n.toNat ≠ none → Does s (.nodeUnreached n) fun t => t.now = max s.now last ∧ unchangedPath t ∧ (of 2 →
      fresh t aa = false) ∧
      ∀ i : Fin 2, s.fld (dirOf i) RING_SPILL_DIR_TARGET = n.toNat → t.flag (dirOf i) RING_SPILL_DIR_VALID = false) ∧
    (mine → s.chooseCore sd sa x.cls.toNat t0 = none → Does s (.ringSpill e h x bs rm) refused) ∧
    (mine → s.chooseCore sd sa x.cls.toNat t0 = some g → s.costEntry (s.coreEpoch g) x.cls.toNat = some (base, block) →
      s.allocCells (g / 8) cells = some buf → ¬soon → Does s (.ringSpill e h x bs rm) refused) ∧
    (mine → s.chooseCore sd sa x.cls.toNat t0 = some g → s.costEntry (s.coreEpoch g) x.cls.toNat = some (base, block) →
      s.allocCells (g / 8) cells = some buf → soon → Does s (.ringSpill e h x bs rm) taken) ∧
    (mine → spilled = [] → Does s (.ringSpillResult e h x bs rm) fun t => unchangedPath t ∧ (x.result = 3 →
      evt RING_EVT_SPILL_REFUSED t)) ∧
    (mine → spilled = f :: fs → live → x.result = 3 → Does s (.ringSpillResult e h x bs rm) fun t => evt RING_EVT_SPILL_REFUSED t ∧
      (t.frame f).drop = 10 ∧ t.cl = s.cl ∧ t.cores = s.cores) ∧
    (mine → spilled = f :: fs → live → x.result = 0 → (s.eg (1 - w.side) w.eport).tfc = false → bs.length ≤ 256 * w.cells →
      Does s (.ringSpillResult e h x bs rm) fun t => t.frame f = { w with done := some (0, x.outLen.toNat) } ∧
      (t.clu (w.core / 8)).cmem.bytes (256 * w.buf) bs.length = bs ∧ t.cores = s.cores ∧
        SMap.But Cluster.reset [w.core / 8] s.cl t.cl) ∧
    (mine → ¬partner → Does s (.ringRepl e h m) fun t => t.ring = s.ring ∧ t.vault = s.vault ∧ unchangedPath t) ∧
    (mine → partner → Does s (.ringRepl e h m) fun t => t.ring.seqOf.get 0 ra = m.seq.toNat + 1 ∧
      t.ring.pnGot.get 0 ri = m.pn.toNat ∧ t.frames = s.frames ∧ t.cores = s.cores ∧
      (m.resync = false → m.seq.toNat ≠ s.ring.seqOf.get 0 ra → fresh t ra = false) ∧ (m.kv = false →
        t.vault.keys.get none ri = none) ∧
      (m.kv = false ∨ m.wrapped = none → t.rd64 (SA_PN_LIMIT ra (b2n m.key)) = m.limit.toNat ∧ (m.resync = true →
        s.ringBound = true → fresh t ra = true)) ∧
      (m.kv = true → m.wrapped ≠ none → s.root.kekRepl = none → fresh t ra = false ∧ t.vault = s.vault)) ∧
    (mine → s.replMode aa ≠ 1 → Does s (.ringReplAck e h i12 q) fun t => t.ring = s.ring ∧ unchangedPath t) ∧
    (mine → s.replMode aa = 1 → Does s (.ringReplAck e h i12 q) fun t => unchangedPath t ∧
      (s.ring.leaseOut.get 0 ai ≠ 0 → s.ring.leaseSeq.get 0 ai ≤ q.toNat → t.ring.lack.get 0 ai = s.ring.leaseOut.get 0 ai ∧
        t.ring.leaseOut.get 0 ai = 0) ∧
      (q.toNat < s.ring.leaseSeq.get 0 ai → t.ring.lack.get 0 ai = s.ring.lack.get 0 ai) ∧
      (s.ring.resyncSeq.get 0 aa ≤ q.toNat + 1 → s.ring.resyncSeq.get 0 aa ≠ 0 → t.ring.resyncSeq.get 0 aa = 0 ∧
        t.ring.suspended.contains aa = false ∧ fresh t aa = true) ∧
      (∀ a ∈ s.ring.wait, a.1 = aa → a.2.1 ≤ q.toNat → t.ring.wait = none) ∧ (∀ a ∈ s.ring.wait, a.1 ≠ aa → t.ring.wait = some a)) ∧
    (s.ring.wait = none → Does s .replAckTimeout fun t => t = s) ∧
    (∀ a ∈ s.ring.wait, s.mbx.wq = [] → Does s .replAckTimeout fun t => t.ring = { s.ring with wait := none } ∧
      t.now = max s.now (a.2.2 + 200 * s.fld RING_REPLR RING_REPLR_REPL_DEADLINE) ∧ t.mbx.held = none ∧ unchangedPath t) ∧
    (¬pnDue ∨ s.replMode aa ≠ 1 → Does s (.replPnTimer i12) fun t => t = s) ∧
    (s.replMode aa = 1 → s.ring.pnAt.get 0 ai ≠ 0 → Does s (.replPnTimer i12) fun t => s.ring.pnAt.get 0 ai - 1 + 20000 ≤ t.now ∧
      t.ring.pnAt.get 0 ai = 0 ∧ t.ring.pnSent.get 0 ai = s.rd64 (SA_NEXT_PN aa (b2n key)) ∧
      s.ring.seqOf.get 0 aa < t.ring.seqOf.get 0 aa ∧ unchangedPath t) ∧
    Does s (.leaseSuspend n) (fun t => t.now = max s.now (last + 200 * s.fld RING_REPLR RING_REPLR_REPL_DEADLINE + 20000) ∧
      unchangedPath t ∧ (of 1 → fresh t aa = false ∧ t.ring.suspended.contains aa = true) ∧
      (¬of 1 → fresh t aa = fresh s aa ∧ t.ring.suspended.contains aa = s.ring.suspended.contains aa) ∧
        (∀ k : Nat, s.ring.suspended.contains k = true → t.ring.suspended.contains k = true)) ∧
    (s.reached n.toNat = false → Does s (.replResync n) fun t => t = s) ∧
    (s.reached n.toNat = true → Does s (.replResync n) fun t => unchangedPath t ∧ t.now = s.now ∧ (of 1 → fresh s aa = false →
      t.ring.resyncSeq.get 0 aa = t.ring.seqOf.get 0 aa ∧ s.ring.seqOf.get 0 aa < t.ring.seqOf.get 0 aa) ∧
      (¬of 1 ∨ fresh s aa = true → t.ring.resyncSeq.get 0 aa = s.ring.resyncSeq.get 0 aa ∧
        t.ring.seqOf.get 0 aa = s.ring.seqOf.get 0 aa)) ∧
    (s.lostTwice n.toNat = false ∨ s.ringBound = false → Does s (.replicaPromote n) fun t => t = s) ∧
    (s.lostTwice n.toNat = true → s.ringBound = true → Does s (.replicaPromote n) fun t => unchangedPath t ∧ (of 2 →
      fresh s aa = true → t.replMode aa = 0 ∧ t.flag (SA_CFG aa) SA_CFG_VALID = true ∧ evt RING_EVT_PROMOTED t ∧
        (keyLive (s.rd (SA_KEY aa)) key = true → t.rd64 (SA_NEXT_PN aa (b2n key)) = s.ring.pnGot.get 0 ai % 2 ^ 64 ∧
          t.bitmapOf aa key = 0)) ∧
      (¬of 2 ∨ fresh s aa = false → t.replMode aa = s.replMode aa ∧
        t.flag (SA_CFG aa) SA_CFG_VALID = s.flag (SA_CFG aa) SA_CFG_VALID))

/-! Host and board management; registers -/

/-- R2, R420, R465, R491, R541, R542, R544: each SMBus code gives its value, from the registers that the table names,
and changes nothing else; IDCODE's low twelve bits are the model's constant (log entry 73 for the form of what
leaves). An unlisted code, or a write of 0xF0 without PEC where PEC_REQ asks for it, is counted in SMB_ERR and logged.
0xF0 sets VALID and DATA and raises source 62. A bus held low changes nothing. R278, R395, R396, R426, R532 to R535: a
host or Lens access that the access table or the lifecycle refuses reads zero or writes nothing, and is counted,
signalled and logged; a core takes access fault 6; a block that is off reads zero, counted; a tinted unit reads zero,
logged; a permitted read returns what the register shows. A function reset clears MSI-X, HOST_VEC, the host's captures
and MEMWIN, and BUSY, RSP_VALID and TIMEOUT, and keeps GEN. At a holdoff's end a merged rise sends one message. Log
entries 38, 69, 72, 74, 75 fill what the rules leave. -/
def Obligations.HostAndBoard : Prop :=
  (∀ (s : State) (k : R5) (v : Word) (off : BitVec 24),
    let low (n : Nat) (w : Word) : Word := BitVec.ofNat 32 (w.toNat % 2 ^ n)
    let bit (b : Bool) (n : Nat) : Nat := if b then 2 ^ n else 0
    let sample (i : Nat) : BitVec 16 := (s.rd (THERM i)).truncate 16
    let gives (code : Nat) (w : Word) (t : State) : Prop := t = { s with out := s.out ++ [.word .smbus code w] }
    let last (t : State) : Word := match t.out.getLast? with
      | some (.word _ _ w) => w
      | _ => 0
    let code := off.toNat % 256
    let listed : Prop := code ≤ 3 ∨ (0x10 ≤ code ∧ code ≤ 0x28) ∨ code = 0x30 ∨ code = 0x40 ∨ code = 0x41 ∨ code = 0x50
    let refuses (code wr reason : Nat) (t : State) : Prop :=
      t.rd64 (HOSTIF_CNT 2) = (s.rd64 (HOSTIF_CNT 2) + 1) % 2 ^ 64 ∧ t.flag HOSTIF_EVT HOSTIF_EVT_SMB_ERR = true ∧
        t.rd64 ACC_LOG_ADDR = code ∧
      t.rd ACC_LOG_INFO = BitVec.ofNat 32 (0x80000800 + 512 * wr + reason) ∧ t = { s.signals t with regs := t.regs } ∧
        t.srcs = s.srcs ∧
      RegsBut [HOSTIF_CNT 2, HOSTIF_CNT 2 + 4, HOSTIF_EVT, ACC_LOG_ADDR, ACC_LOG_ADDR + 4, ACC_LOG_INFO] s t
    let notified (v : Word) (t : State) : Prop := t.rd SMB_NOTIFYR = BitVec.ofNat 32 (2 ^ 31 + v.toNat % 256) ∧
        RegsBut [SMB_NOTIFYR] s t ∧
      t = { s.signals t with regs := t.regs } ∧ SMap.But Src.reset [devKey 62] s.srcs t.srcs ∧
        (t.src (devKey 62)).occ = min ((s.src (devKey 62)).occ + 1) 255
    (Does s .smbIdcode fun t => gives 0 (s.show 0) t ∧ (s.show 0).toNat / 2 ^ 12 = 0x3C320) ∧
    (Does s .smbLcState fun t => gives 1 (BitVec.ofNat 32 (s.lcState + bit (s.flag LC_STAT LC_STAT_RECOVERY) 3 + bit (s.flag LC_STAT LC_STAT_ROOT_LOST) 4)) t) ∧
    (Does s .smbStatus fun t => gives 2 (BitVec.ofNat 32 (bit s.faultN 0 + bit s.alive 1 + bit (s.flag ZEROISE_STAT ZEROISE_STAT_RUNNING) 2 +
      bit (s.flag CLK_STAT CLK_STAT_HOLDOVER) 3)) t) ∧
    (Does s .smbFaultStat fun t => gives 3 (low 5 (s.rd FAULT_STAT)) t) ∧
    (Does s .smbThermMax fun t => ∃ i : Fin 24, gives 0x10 ((sample i).setWidth 32) t ∧
      ∀ j : Fin 24, (sample j).toInt ≤ (sample i).toInt) ∧
    (k.toNat < 24 → Does s (.smbTherm k) fun t => gives (0x11 + k.toNat) (low 16 (s.rd (THERM k.toNat))) t) ∧
    (24 ≤ k.toNat → k.toNat ≠ 31 → Does s (.smbTherm k) fun t => refuses (0x11 + k.toNat) 0 5 t) ∧
    (Does s .smbMonEvt fun t => gives 0x30 (low 11 (s.rd MON_EVT)) t) ∧
    (Does s .smbLinkUp fun t => gives 0x40 (last t) t ∧
      ∀ p : Fin 16, (last t).getLsbD p = s.flag (PORT_STAT 0 p) PORT_STAT_LINK_UP ∧
      (last t).getLsbD (16 + p) = s.flag (PORT_STAT 1 p) PORT_STAT_LINK_UP) ∧
    (Does s .smbRingState fun t => gives 0x41 (BitVec.ofNat 32 (s.fld (RPORT_STAT 0) RPORT_STAT_STATE + 256 * s.fld (RPORT_STAT 1) RPORT_STAT_STATE)) t) ∧
    (Does s .smbDerrqStat fun t => gives 0x50 (s.show DERRQ_STAT) t) ∧
    Does s (.smbNotify v) (notified v) ∧
    (Does s .smbBusTimeout fun t => t = s) ∧
    (¬listed → Does s (.accessRefused .smbus off none) (refuses code 0 5)) ∧
    (code ≠ 0xF0 → Does s (.accessRefused .smbus off (some v)) (refuses code 1 5)) ∧
    (code = 0xF0 → s.flag SMB_CFG SMB_CFG_PEC_REQ = true → Does s (.accessRefused .smbus off (some v)) (refuses code 1 6)) ∧
    (code = 0xF0 → s.flag SMB_CFG SMB_CFG_PEC_REQ = false → Does s (.accessRefused .smbus off (some v)) (notified v))) ∧
  (∀ (s : State) (who : Prin) (off : BitVec 24) (v : Word) (g : CoreId) (c : ClId) (n : BitVec 5),
    let a := off.toNat
    let dep : Bool := s.lcState == 2
    let pctl (f : Fld) : Bool := s.flag PRIN_CTL f
    let words (t : State) := t.out.filterMap fun o => match o with
      | .word p a w => some (p, a, w)
      | _ => none
    let claim (w : Word) (t : State) : Prop := words t = words s ++ [(who, a, w)]
    let lens := who = .lens
    let k := if who = .lens then 1 else 0
    let same (t : State) : Prop := t = { s with out := t.out }
    let logs (wr reason : Nat) (t : State) : Prop := t.rd64 (HOSTIF_CNT k) = (s.rd64 (HOSTIF_CNT k) + 1) % 2 ^ 64 ∧
      t.flag HOSTIF_EVT (if who = .lens then HOSTIF_EVT_LENS_REFUSED else HOSTIF_EVT_HOST_REFUSED) = true ∧
        t.rd64 ACC_LOG_ADDR = a ∧
      t.rd ACC_LOG_INFO = BitVec.ofNat 32 (2 ^ 31 + 1024 * k + 512 * wr + reason) ∧ t = { s.signals t with regs := t.regs } ∧
      RegsBut [HOSTIF_CNT k, HOSTIF_CNT k + 4, HOSTIF_EVT, ACC_LOG_ADDR, ACC_LOG_ADDR + 4, ACC_LOG_INFO] s t ∧ (wr = 1 →
        words t = words s) ∧ (wr = 0 → claim 0 t) ∧
      (reason ≠ 4 → t.srcs = s.srcs) ∧ (reason = 4 → (t.src (devKey 50)).occ = min ((s.src (devKey 50)).occ + 1) 255)
    let dark : Prop := (0x200000 ≤ a ∧ a < 0x240000 ∧ s.domain 120 < 2) ∨ (0x390000 ≤ a ∧ a < 0x3A0000 ∧ s.domain 121 < 2) ∨
      (0x800000 + 0x40000 * c.val ≤ a ∧ a < 0x840000 + 0x40000 * c.val ∧ s.domain (96 + c) < 2)
    let cfg : Prop := a ∈ [LEDGER_CTL, PORT_EVT_EN 0 3, LANE_CFG 1 15, CLINK_POOL 3, DLV_EVT_EN, TINT_EVT_EN, CLK_EVT_EN, MON_EVT_EN, RING_EVT_EN]
    let open_ : Prop := a ∈ [HOSTIF_EVT_EN, HOST_VEC 0, HOST_VEC 30]
    let ro : Prop := a ∈ [0, PORT_STAT 1 4, LC_STAT, CLK_STAT, 0x480000, 0xB00000]
    let seen : Prop := who = .host ∨ who = .warden ∨ (lens ∧ dep = false)
    let h := s.msixHold.get (0, false) n.toNat
    let vec := s.rd (HOST_VEC (n.toNat - 1))
    let m := s.mbx
    (who = .host → cfg → pctl PRIN_CTL_HOST_CFG = false → Does s (.accessRefused who off (some v)) (logs 1 1)) ∧
    (who = .host ∨ (lens ∧ dep = false) → a ∈ [PRIN_CTL, SMB_NOTIFYR, MBX_TMO] →
      Does s (.accessRefused who off (some v)) (logs 1 3)) ∧
    (who = .host ∨ (lens ∧ dep = false) → a = PRIN_CTL → Does s (.accessRefused who off none) (logs 0 3)) ∧
    (who = .host ∨ (lens ∧ dep = false) → a = COST_CTL → Does s (.accessRefused who off (some v)) (logs 1 1)) ∧
    (who = .host ∨ (lens ∧ dep = false) → a = FAULT_STAT → Does s (.accessRefused who off (some v)) (logs 1 1)) ∧
    (lens → dep = false → a = HOST_VEC 3 → Does s (.accessRefused who off (some v)) (logs 1 1)) ∧
    (lens → dep = true → cfg ∨ open_ → (Does s (.accessRefused who off (some v)) (logs 1 4)) ∧
      Does s (.accessRefused who off none) (logs 0 4)) ∧
    (who = .host → a = TINT_LOG_INFO → pctl PRIN_CTL_HOST_LOG = false → Does s (.accessRefused who off none) (logs 0 1)) ∧
    (who = .host → a % 4 ≠ 0 → a < 0xC00000 → (Does s (.accessRefused who off (some v)) (logs 1 5)) ∧
      Does s (.accessRefused who off none) (logs 0 5)) ∧
    (ro → who ∈ [.host, .warden, .lens] → Does s (.accessRefused who off (some v)) fun t => t = { s with regs := t.regs } ∧
      RegsBut [] s t) ∧
    (seen → a = TINT_EVT_EN ∨ a = PORT_STAT 0 2 ∨ a = HOST_VEC 7 → Does s (.accessRefused who off none) fun t => same t ∧
      claim (s.rd a) t) ∧
    (who = .warden → a = PRIN_CTL ∨ a = FAULT_CTL → Does s (.accessRefused who off none) fun t => same t ∧ claim (s.rd a) t) ∧
    ((s.core g).run = true → (s.core g).pl = 0 ∨ 0xC00000 ≤ a → Does s (.accessRefused (.core g) off none) fun t =>
      t = s.except g 6 0 (some (if 0x800000 + 0x40000 * (g.val / 8) ≤ a ∧
        a < 0x840000 + 0x40000 * (g.val / 8) then BitVec.ofNat 32 (0x8000000 + (a - (0x800000 + 0x40000 * (g.val / 8))))
        else BitVec.ofNat 32 (0xA000000 + a)))) ∧
    ((s.core g).run = true → (s.core g).pl ≠ 0 → cfg →
      Does s (.accessRefused (.core g) off (some v)) fun t => t = s.except g 6 0 (some (BitVec.ofNat 32 (0xA000000 + a)))) ∧
    ((s.core g).run = false → Does s (.accessRefused (.core g) off none) fun t => t = s) ∧
    (s.memwin.get 0 (prinKey who) = 0x80000000 ||| BitVec.ofNat 32 (256 * c.val) → s.domain (96 + c) = 2 → 0xC00000 ≤ a → a % 4 = 0 →
      who = .host ∧ pctl PRIN_CTL_HOST_MEM = true ∨ lens ∧ dep = false →
      (∀ y : CoreId, y.val / 8 = c.val → (s.core y).far = []) → (s.clu c).cmem.tint (a - 0xC00000) ≠ .clean →
        Does s (.readZeroed who off none) fun t => claim 0 t ∧
      t = { s.signals t with regs := t.regs } ∧ t.srcs = s.srcs ∧
        t.rd64 (TINT_CNT (3 + k)) = (s.rd64 (TINT_CNT (3 + k)) + 1) % 2 ^ 64 ∧ t.rd64 TINT_LOG_ADDR = a ∧
      t.flag TINT_EVT (if who = .lens then TINT_EVT_LENS_READ else TINT_EVT_HOST_READ) = true ∧
        t.flag TINT_LOG_INFO TINT_LOG_INFO_VALID = true ∧ t.flag TINT_LOG_INFO TINT_LOG_INFO_SRC = decide lens ∧
      RegsBut [TINT_CNT (3 + k), TINT_CNT (3 + k) + 4, TINT_EVT, TINT_LOG_ADDR, TINT_LOG_ADDR + 4, TINT_LOG_INFO] s t) ∧
    (dark → a % 4 = 0 → who = .host ∨ lens → (Does s (.accessUnavail who off none) fun t => claim 0 t ∧
      t = { s.signals t with regs := t.regs } ∧ t.srcs = s.srcs ∧
      t.rd64 (HOSTIF_CNT 3) = (s.rd64 (HOSTIF_CNT 3) + 1) % 2 ^ 64 ∧ t.flag HOSTIF_EVT HOSTIF_EVT_UNAVAIL = true ∧
        RegsBut [HOSTIF_CNT 3, HOSTIF_CNT 3 + 4, HOSTIF_EVT] s t) ∧
      Does s (.accessUnavail who off (some v)) fun t => words t = words s ∧ t = { s.signals t with regs := t.regs } ∧
      t.rd64 (HOSTIF_CNT 3) = (s.rd64 (HOSTIF_CNT 3) + 1) % 2 ^ 64 ∧ t.flag HOSTIF_EVT HOSTIF_EVT_UNAVAIL = true ∧
        RegsBut [HOSTIF_CNT 3, HOSTIF_CNT 3 + 4, HOSTIF_EVT] s t) ∧
    (dark → a % 4 = 0 → who = .warden → (Does s (.accessUnavail who off none) fun t => claim 0 t ∧ same t) ∧
      Does s (.accessUnavail who off (some v)) fun t => t = s) ∧
    (Does s .pcieFunctionReset fun t => (∀ i : Fin 31, t.rd (HOST_VEC i) = 0) ∧ RegsBut ((List.range 31).map HOST_VEC) s t ∧
      t.hold.get none 97 = none ∧ t.cap.get none 97 = none ∧ t.recCap.get none 97 = none ∧ t.memwin.get 0 97 = 0 ∧
      SMap.But none [97] s.hold t.hold ∧ SMap.But none [97] s.cap t.cap ∧ SMap.But none [97] s.recCap t.recCap ∧
        SMap.But 0 [97] s.memwin t.memwin ∧
      t = { s with regs := t.regs, hold := t.hold, cap := t.cap, recCap := t.recCap, memwin := t.memwin, msixTab := [], msixPba := 0, msixHold := [], mbx := { m with busy := false, rspValid := false, timeout := false } }) ∧
    (h.1 = 0 → Does s (.msixHoldoffEnd n) fun t => t = s) ∧
    (n ≠ 0 → h.1 ≠ 0 → Does s (.msixHoldoffEnd n) fun t => t.now = max s.now (h.1 - 1) ∧
      SMap.But (0, false) [n.toNat] s.msixHold t.msixHold ∧
      t = { s with now := t.now, msixHold := t.msixHold, msixPba := t.msixPba, out := t.out } ∧
      (h.2 = false ∨ vec.getLsbD 31 = false → t.msixHold.get (0, false) n.toNat = (0, false) ∧ t.msixPba = s.msixPba ∧
        t.out = s.out) ∧
      (h.2 = true → vec.getLsbD 31 = true →
        t.msixHold.get (0, false) n.toNat = (if vec.toNat / 65536 % 256 = 0 then (0, false) else (t.now + 20000 * (vec.toNat / 65536 % 256) + 1, false)) ∧
        (s.msixMasked n.toNat = false → t.out = s.out ++ [.msix n.toNat] ∧ t.msixPba = s.msixPba) ∧
        (s.msixMasked n.toNat = true → t.out = s.out ∧ (∀ i : Fin 32, bitN t.msixPba i = (bitN s.msixPba i || i.val == n.toNat))))))

/-- R395, R426, R531 to R533, R550 to R553: MEMWIN is three registers, each written by its principal where R395 and
R426 let it. An aperture access of a shape that R531 allows reaches the memory that MEMWIN selects when R552's
conditions hold: a read returns its words, zero where a host or Lens read meets a tinted unit, and a write stores its
bytes. Otherwise reads return zero, and a host or Lens access adds to HOST_UNAVAIL. Log entry 72 for the Warden's IMEM
reads and the Lens's WDN words. -/
def Obligations.MemoryAperture : Prop :=
  ∀ (s : State) (who : Prin) (v : Word) (x : BitVec 22) (size : Nat) (d : BitVec 64) (c : ClId) (g : CoreId),
    let dep : Bool := s.lcState == 2
    let mw := s.memwin.get 0 (prinKey who)
    let sel (target unit : Nat) : Prop := mw.getLsbD 31 = true ∧ mw.toNat / 2 ^ 26 % 4 = target ∧ mw.toNat / 2 ^ 8 % 128 = unit
    let off := 0xC00000 + x.toNat
    let words (t : State) := t.out.filterMap fun o => match o with
      | .word p a w => some (p, a, w)
      | _ => none
    let reads (f : Nat → Word) (t : State) : Prop := words t = words s ++ (List.range (size / 4)).map fun i => (who, off + 4 * i, f (4 * i))
    let zeros : State → Prop := reads fun _ => 0
    let just (f : Nat → Word) (t : State) : Prop := reads f t ∧ t = { s with out := t.out }
    let rshape : Prop := x.toNat % 4 = 0 ∧ size % 4 = 0 ∧ 4 ≤ size ∧ x.toNat % 64 + size ≤ 64
    let wshape : Prop := (size = 4 ∧ x.toNat % 4 = 0) ∨ (size = 8 ∧ x.toNat % 8 = 0)
    let hl : Prop := who = .host ∨ who = .lens
    let lc : Prop := who = .lens → dep = false
    let may (target : Nat) (wr : Bool) : Prop := (who = .host ∧ target ≤ 1 ∧ s.flag PRIN_CTL PRIN_CTL_HOST_MEM = true) ∨
      (who = .warden ∧ (target = 2 → wr = true ∧ s.rotState g = 3)) ∨ (who = .lens ∧ dep = false ∧ ¬(target = 2 ∧ wr = true ∧
        s.lcState = 1))
    let quiet : Prop := ∀ y : CoreId, y.val / 8 = c.val → (s.core y).far = []
    let onC : Prop := sel 0 c ∧ s.domain (96 + c) = 2 ∧ quiet
    let onG (target : Nat) : Prop := sel target g ∧ s.domain g = 2
    let bank : Prop := (s.core g).owner (x.toNat / 0x4000) ≠ 0
    let whole : Prop := s.scrambled ⟨1, g.val⟩ = false
    let at4 (m : SMap Byte) (i : Nat) : Word := BitVec.ofNat 32 (leNat (m.getRange 0 (x.toNat + i) 4))
    let clean (m : Mem) : Prop := ∀ i : Fin 9, x.toNat / 8 * 8 + 8 * i.val < x.toNat + size →
        m.tint (x.toNat / 8 * 8 + 8 * i.val) = .clean
    let zeroed (t : State) : Prop := zeros t ∧ t.srcs = s.srcs ∧ t = { s.signals t with regs := t.regs } ∧
      t.rd64 (TINT_CNT (if who = .lens then 4 else 3)) = (s.rd64 (TINT_CNT (if who = .lens then 4 else 3)) + 1) % 2 ^ 64 ∧
      t.flag TINT_EVT (if who = .lens then TINT_EVT_LENS_READ else TINT_EVT_HOST_READ) = true ∧ t.rd64 TINT_LOG_ADDR = off ∧
      t.flag TINT_LOG_INFO TINT_LOG_INFO_VALID = true ∧ t.flag TINT_LOG_INFO TINT_LOG_INFO_SRC = decide (who = .lens) ∧
      RegsBut [TINT_CNT 3, TINT_CNT 3 + 4, TINT_CNT 4, TINT_CNT 4 + 4, TINT_EVT, TINT_LOG_ADDR, TINT_LOG_ADDR + 4, TINT_LOG_INFO] s t
    let stored (m m' : Mem) : Prop := (∀ i : Fin 8, i.val < size →
        m'.b.get 0 (x.toNat + i.val) = BitVec.ofNat 8 (d.toNat / 2 ^ (8 * i.val))) ∧
      SMap.But 0 ((List.range size).map (x.toNat + ·)) m.b m'.b ∧
        SMap.But .clean (if size = 8 then [x.toNat / 8] else []) m.t m'.t ∧
      (size = 8 → m'.t.get .clean (x.toNat / 8) = .clean)
    let unavail (n : Nat) (t : State) : Prop := words t = words s ++ ((List.range n).map fun i => (who, off + 4 * i, (0 : Word))) ∧
        t = { s.signals t with regs := t.regs } ∧
      (hl → t.rd64 (HOSTIF_CNT 3) = (s.rd64 (HOSTIF_CNT 3) + 1) % 2 ^ 64 ∧ t.flag HOSTIF_EVT HOSTIF_EVT_UNAVAIL = true ∧
        RegsBut [HOSTIF_CNT 3, HOSTIF_CNT 3 + 4, HOSTIF_EVT] s t) ∧ (¬hl → t.regs = s.regs)
    let logs (n a wr reason : Nat) (f : Fld) (t : State) : Prop := t.rd64 (HOSTIF_CNT n) = (s.rd64 (HOSTIF_CNT n) + 1) % 2 ^ 64 ∧
        t.flag HOSTIF_EVT f = true ∧ t.rd64 ACC_LOG_ADDR = a ∧
      t.rd ACC_LOG_INFO = BitVec.ofNat 32 (2 ^ 31 + 1024 * n + 512 * wr + reason) ∧ t = { s.signals t with regs := t.regs } ∧
      RegsBut [HOSTIF_CNT n, HOSTIF_CNT n + 4, HOSTIF_EVT, ACC_LOG_ADDR, ACC_LOG_ADDR + 4, ACC_LOG_INFO] s t
    (who = .warden ∨ (who = .host ∧ s.flag PRIN_CTL PRIN_CTL_HOST_MEM = true) ∨ (who = .lens ∧ dep = false) →
      Does s (.memwinWrite who v) fun t =>
      t.memwin.get 0 (prinKey who) = v &&& 0x8C007F00 ∧ SMap.But 0 [prinKey who] s.memwin t.memwin ∧
        t = { s with memwin := t.memwin }) ∧
    (who = .host → s.flag PRIN_CTL PRIN_CTL_HOST_MEM = false →
      Does s (.memwinWrite who v) (logs 0 0x10 1 1 HOSTIF_EVT_HOST_REFUSED)) ∧
    (who = .lens → dep = true → Does s (.memwinWrite who v) (logs 1 0x10 1 4 HOSTIF_EVT_LENS_REFUSED)) ∧
    (rshape → onC → may 0 false → who = .warden ∨ clean (s.clu c).cmem →
      Does s (.apertureAccess who x size none) (just (at4 (s.clu c).cmem.b))) ∧
    (rshape → onC → may 0 false → who ≠ .warden → ¬clean (s.clu c).cmem → Does s (.apertureAccess who x size none) zeroed) ∧
    (wshape → onC → may 0 true → Does s (.apertureAccess who x size (some d)) fun t => t = { s with cl := t.cl } ∧
      stored (s.clu c).cmem (t.clu c).cmem ∧
      t.clu c = { s.clu c with cmem := (t.clu c).cmem } ∧ SMap.But Cluster.reset [c] s.cl t.cl) ∧
    (rshape → onG 1 → may 1 false → 0x20000 ≤ x.toNat → Does s (.apertureAccess who x size none) (just fun _ => 0)) ∧
    (rshape → onG 1 → may 1 false → x.toNat < 0x20000 → bank → whole → who = .warden ∨ clean (s.core g).dmem →
      Does s (.apertureAccess who x size none) (just (at4 (s.core g).dmem.b))) ∧
    (rshape → onG 1 → may 1 false → x.toNat < 0x20000 → bank → who ≠ .warden → ¬clean (s.core g).dmem →
      Does s (.apertureAccess who x size none) zeroed) ∧
    (rshape → size = 4 → onG 1 → may 1 false → x.toNat < 0x20000 → bank → ¬whole → who = .warden →
      Does s (.apertureAccess who x size none) fun t => t = { s with out := t.out, free := s.free + 1 } ∧
      reads (fun _ => (Config.freeDWord s.free).truncate 32) t) ∧
    (wshape → onG 1 → may 1 true → x.toNat < 0x20000 → bank →
      Does s (.apertureAccess who x size (some d)) fun t => t = { s with cores := t.cores } ∧
      stored (s.core g).dmem (t.core g).dmem ∧
      t.core g = { s.core g with dmem := (t.core g).dmem } ∧ SMap.But Core.reset [g] s.cores t.cores) ∧
    (rshape → onG 2 → may 2 false → x.toNat < 0x20000 → whole →
      Does s (.apertureAccess who x size none) (just (at4 (s.core g).imem))) ∧
    (wshape → onG 2 → may 2 true → x.toNat < 0x20000 →
      Does s (.apertureAccess who x size (some d)) fun t => t = { s with cores := t.cores } ∧
      stored ⟨(s.core g).imem, []⟩ ⟨(t.core g).imem, []⟩ ∧
      t.core g = { s.core g with imem := (t.core g).imem } ∧ SMap.But Core.reset [g] s.cores t.cores) ∧
    (rshape → size = 4 → onG 3 → may 3 false → x.toNat < 0x200 ∨ x.toNat = 0x200 ∨ x.toNat = 0x218 ∨ x.toNat = 0x388 ∨
      0x1000 ≤ x.toNat → Does s (.apertureAccess who x size none) (just fun _ => 0)) ∧
    (rshape → size = 4 → onG 3 → may 3 false → x.toNat = 0x210 →
      Does s (.apertureAccess who x size none) (just fun _ => (s.core g).frmArrived)) ∧
    (rshape → size = 4 → onG 3 → who = .warden → x.toNat = 0x360 →
      Does s (.apertureAccess who x size none) (just fun _ => (s.core g).keeperLimit)) ∧
    (rshape → size = 4 → onG 3 → may 3 false → who = .lens → x.toNat = 0x360 →
      Does s (.apertureAccess who x size none) fun t => logs 1 off 0 3 HOSTIF_EVT_LENS_REFUSED t ∧ zeros t) ∧
    (size = 4 → onG 3 → may 3 true → x.toNat ∈ [0x200, 0x210, 0x218, 0x220, 0x224, 0x388, 0x1000] →
      Does s (.apertureAccess who x size (some d)) fun t => t = s) ∧
    (size = 4 → onG 3 → who = .warden → x.toNat = 0x360 →
      Does s (.apertureAccess who x size (some d)) fun t => t = s.setCore g { s.core g with keeperLimit := d.truncate 32 }) ∧
    (size = 4 → onG 3 → who = .lens → may 3 true → x.toNat = 0x360 →
      Does s (.apertureAccess who x size (some d)) (logs 1 off 1 3 HOSTIF_EVT_LENS_REFUSED)) ∧
    (size = 4 → x.toNat % 4 = 0 → mw.getLsbD 31 = false ∨ (∃ a ∈ [1, 2, 3], mw.toNat / 2 ^ 26 % 4 = a ∧
      96 ≤ mw.toNat / 2 ^ 8 % 128) ∨ (mw.toNat / 2 ^ 26 % 4 = 0 ∧ 12 ≤ mw.toNat / 2 ^ 8 % 128) ∨
        (lc ∧ (sel 1 g ∨ sel 3 g) ∧ s.domain g ≠ 2) ∨ (lc ∧ sel 0 c ∧ s.domain (96 + c) ≠ 2) ∨ (lc ∧ sel 1 g ∧ x.toNat < 0x20000 ∧
          ¬bank) ∨
        (who = .host ∧ ((sel 0 c ∨ sel 1 g) ∧ s.flag PRIN_CTL PRIN_CTL_HOST_MEM = false ∨ sel 2 g ∨ sel 3 g)) ∨ (who = .warden ∧
          sel 2 g ∧ s.rotState g ≠ 3) →
      who = .warden ∨ hl → (Does s (.apertureAccess who x size none) fun t => unavail 1 t ∧ t.srcs = s.srcs) ∧
        Does s (.apertureAccess who x size (some d)) fun t => unavail 0 t ∧ t.srcs = s.srcs) ∧
    (rshape → who = .lens → dep = true → sel 0 c → Does s (.apertureAccess who x size none) fun t => unavail (size / 4) t ∧
      (t.src (devKey 50)).occ = min ((s.src (devKey 50)).occ + 1) 255) ∧
    (wshape → who = .lens → s.lcState = 1 → sel 2 g → Does s (.apertureAccess who x size (some d)) fun t => unavail 0 t ∧
      (t.src (devKey 50)).occ = min ((s.src (devKey 50)).occ + 1) 255) ∧
    (¬rshape → who = .host → Does s (.apertureAccess who x size none) (logs 0 off 0 5 HOSTIF_EVT_HOST_REFUSED)) ∧
    (¬wshape → who = .host → Does s (.apertureAccess who x size (some d)) (logs 0 off 1 5 HOSTIF_EVT_HOST_REFUSED))

/-- R11, R13, R15, R69, R395, R396, R536, R545, R549, R559: a permitted write changes a register by its fields' access
codes: RW bits take the value, RWL bits unless their block is locked, W1C bits clear, W1S bits set, RO and WO bits
store nothing; WDN fields only for the Warden. The high word of a 64-bit register is held for its principal until its
low word is written. A reserved word stores nothing. BAR2 is the host's: CMD_BUF unless BUSY, the doorbells, and the
MSI-X table, whose unmasking sends a pending message. Log entries 69, 70, 71 and 75 fill what the rules leave. R45,
R58, R66, R97, R107, R337, R387, R405, R433, R448, R462, R464: a Warden's write to a register whose field starts
something does what the command for that field does: enable or disable of a port, fences, commits, source commands,
rotation steps, power, ring and DMA fields. In DEPLOYED a write never clears a TAMPER_CTL.EN bit. STATE 5 fences a
core. A cost table's words take no write while it is valid, nor ZTF_TAG while its port is enabled. Log entry 70 orders
several fields of one write. -/
def Obligations.RegisterWrites : Prop :=
  (∀ (s : State) (who : Prin) (off : BitVec 24) (v : Word) (f : RegFam) (is : List Nat),
    let a := off.toNat
    let outside : Prop := who ∈ [.warden, .host, .lens]
    let acts : Prop := f.base ∈ [0x100000, 0x110000, 0x120000, 0x3A0000, 0x3A0008, 0x3B1024, 0x3B102C, 0x3B1050, 0x3B1058, 0x2C0008, 0x2C0010, 0x3E0000, 0x3E1000, 0x3F0000, 0x400100, 0x411000,
      0x450030, 0x42000C, 0x430008, 0x430020, 0x440000, 0x450000, 0x460000, 0x461000, 0x800000, 0x800010, 0x813000, 0x820018, 0x820100, 0x820200, 0x83000C, 0x830014, 0x830018, 0x83001C] ∨
      (0x401000 ≤ f.base ∧ f.base < 0x401010) ∨ (0x811000 ≤ f.base ∧ f.base < 0x811010) ∨ (0x812000 ≤ f.base ∧ f.base < 0x812010)
    let locked := s.lockedRwl f.lock a
    let wdn (b : Nat) : Bool := f.wdn.getLsbD b
    let bitAfter (b : Nat) (old new : Bool) : Bool :=
      if f.w1s.getLsbD b then old || new else if f.w1c.getLsbD b then old && !new else if f.wo.getLsbD b then old
        else if f.rw.getLsbD b || wdn b || (f.rwl.getLsbD b && !locked) then new else old
    let written (old new w : Word) : Prop := ∀ b : Fin 32, w.getLsbD b = bitAfter b (old.getLsbD b) (new.getLsbD b)
    let fb := [DEVC_FB_STAT] ++ (List.range 12).flatMap fun c => [FALLBACK_COUNT c, FALLBACK_COUNT c + 4]
    let same (t : State) : Prop := t = { s.signals t with regs := t.regs, wlog := t.wlog, wlogAt := t.wlogAt, hold := t.hold }
    let permitted : Prop := who = .warden ∨ (s.refusedBits who a f true).2 = 0
    let ok : Prop := outside ∧ a % 4 = 0 ∧ a ≠ 0x10 ∧ s.blockOn a = true ∧ permitted
    let held : Word := match s.hold.get none (prinKey who) with
      | some (o, w) => if o = a then w else s.rd (a + 4)
      | none => s.rd (a + 4)
    let m := s.mbx
    let vec := (a - 0xE000) / 16
    let table : Prop := 0xE000 ≤ a ∧ a < 0xE200 ∧ a % 4 = 0
    (ok → famOf a = some (f, is, false) → f.w64 = false → ¬acts → Does s (.registerWrite who false off v) fun t =>
      written (s.rd a) v (t.rd a) ∧ RegsBut (a :: fb) s t ∧ same t ∧ t.hold = s.hold) ∧
    (ok → famOf a = some (f, is, true) → Does s (.registerWrite who false off v) fun t =>
      t = { s with hold := s.hold.set none (prinKey who) (some (a - 4, v)) }) ∧
    (ok → famOf a = some (f, is, false) → f.w64 = true → ¬acts → Does s (.registerWrite who false off v) fun t =>
      written (s.rd a) v (t.rd a) ∧ written (s.rd (a + 4)) held (t.rd (a + 4)) ∧ RegsBut [a, a + 4] s t ∧ same t ∧
      t.hold.get none (prinKey who) = none ∧ SMap.But none [prinKey who] s.hold t.hold) ∧
    (outside → a % 4 = 0 → a ≠ 0x10 → s.blockOn a = true → famOf a = none →
      Does s (.registerWrite who false off v) fun t => t = s) ∧
    (who = .warden → a % 4 ≠ 0 → Does s (.registerWrite who false off v) fun t => t = s) ∧
    (who ≠ .host → Does s (.registerWrite who true off v) fun t => t = s) ∧
    (who = .host → a < 0x8000 → m.busy = true →
      Does s (.registerWrite who true off v) fun t => t.rd64 (HOSTIF_CNT 4) = (s.rd64 (HOSTIF_CNT 4) + 1) % 2 ^ 64 ∧
      RegsBut [HOSTIF_CNT 4, HOSTIF_CNT 4 + 4] s t ∧ t = { s with regs := t.regs }) ∧
    (who = .host → a < 0x8000 → m.busy = false →
      Does s (.registerWrite who true off v) fun t => t = { s with mbx := { m with cmd := t.mbx.cmd } } ∧
      (∀ i : Fin 4, t.mbx.cmd.get 0 (a + i) = BitVec.ofNat 8 (v.toNat / 256 ^ i.val)) ∧
        SMap.But 0 [a, a + 1, a + 2, a + 3] m.cmd t.mbx.cmd) ∧
    (who = .host → a = 0xC000 → v.getLsbD 0 = true → Does s (.registerWrite who true off v) fun t => Does s .mbxGo fun u => t = u) ∧
    (who = .host → a = 0xC008 → v.getLsbD 0 = true →
      Does s (.registerWrite who true off v) fun t => Does s .mbxAck fun u => t = u) ∧
    (who = .host → (a = 0xC000 ∨ a = 0xC008) ∧ v.getLsbD 0 = false ∨ (0x8000 ≤ a ∧ a < 0xE000 ∧ a ≠ 0xC000 ∧ a ≠ 0xC008) ∨
      0xE200 ≤ a → Does s (.registerWrite who true off v) fun t => t = s) ∧
    (who = .host → table → Does s (.registerWrite who true off v) fun t => t = { s with msixTab := t.msixTab, msixPba := t.msixPba, out := t.out } ∧
      SMap.But none [(a - 0xE000) / 4] s.msixTab t.msixTab ∧
        (t.msixTab.get none ((a - 0xE000) / 4)).getD (if a % 16 = 12 then 1 else 0) = (if a % 16 = 12 then v &&& 1 else v) ∧
      (bitN s.msixPba vec = false ∨ t.msixMasked vec = true → (∀ i : Fin 32, bitN t.msixPba i = bitN s.msixPba i) ∧ t.out = s.out) ∧
      (bitN s.msixPba vec = true → t.msixMasked vec = false → bitN t.msixPba vec = false ∧ (∀ i : Fin 32, i.val ≠ vec →
        bitN t.msixPba i = bitN s.msixPba i) ∧ t.out = s.out ++ [.msix vec]))) ∧
  (∀ (s : State) (v : Word) (p : PortId) (q : QuadId) (c : ClId) (g : CoreId) (n : R3) (ch : R4) (r : Fin 12) (sa : BitVec 12) (src : EvSrc) (o : BitVec 24),
    let on (a : Nat) : Prop := s.blockOn a = true
    let b (i : Nat) : Bool := v.getLsbD i
    let a := o.toNat
    let lk := s.flag (LINE_LOCKR 0) LINE_LOCKR_LOCK
    let laneMask : Word := 0xFC03
    let rc := ROT_CORE (g.val / 8) (g.val % 8)
    let st := s.rotState g
    let fences : Prop := st ≠ 5 ∧ st ≠ 6
    (a = PORT_CFG 0 p → s.portOn 0 p = false → b 31 = true →
      Does s (.registerWrite .warden false o v) fun t => Does s (.portEnable .red p v) fun u => t = u) ∧
    (a = PORT_CFG 1 p → s.portOn 1 p = true → b 31 = false →
      Does s (.registerWrite .warden false o v) fun t => Does s (.portDisable .blk p) fun u => t = u) ∧
    (a = PORT_CFG 1 p → s.portOn 1 p = true → b 31 = true → Does s (.registerWrite .warden false o v) fun t => t = s) ∧
    (a = QUAD_CTL 0 q → Does s (.registerWrite .warden false o v) fun t => if b 31 then Does s (.quadFence .red q) fun u => t = u else t = s) ∧
    (a = LANE_CFG 0 p → b 31 = false → b 30 = false →
      Does s (.registerWrite .warden false o v) fun t => RegsBut [a, LANE_STAT 0 p] s t ∧
      t = { s with regs := t.regs, wlog := t.wlog, wlogAt := t.wlogAt } ∧
        (∀ i : Fin 32, (t.rd a).getLsbD i = if !lk && laneMask.getLsbD i then b i else (s.rd a).getLsbD i) ∧
      (lk = false → v.fld LANE_CFG_PRBS = 0 → t.fld (LANE_STAT 0 p) LANE_STAT_PRBS_ERR = 0) ∧ (lk = true ∨ v.fld LANE_CFG_PRBS ≠ 0 →
        t.rd (LANE_STAT 0 p) = s.rd (LANE_STAT 0 p))) ∧
    (a = LANE_CFG 0 p → b 31 = true → b 30 = false →
      Does s (.registerWrite .warden false o v) fun t => Does s (.registerWrite .warden false o (v &&& 0x3FFFFFFF)) fun w =>
      Does w (.laneFence .red p) fun u => t = u) ∧
    (a = LANE_CFG 0 p → b 31 = false → b 30 = true →
      Does s (.registerWrite .warden false o v) fun t => Does s (.registerWrite .warden false o (v &&& 0x3FFFFFFF)) fun w =>
      Does w (.unfence .red p) fun u => t = u) ∧
    (a = ROT_CTL c → on a → v.fld ROT_CTL_FORCE = 1 → v.fld ROT_CTL_STEP_NOW = 0 →
      Does s (.registerWrite .warden false o v) fun t =>
      Does s (.registerWrite .warden false o (v.setFld ROT_CTL_FORCE 0)) fun w => Does w (.force c (BitVec.ofNat 3 (v.fld ROT_CTL_FORCE_CORE))) fun u => t = u) ∧
    (a = ROT_CTL c → on a → v.fld ROT_CTL_STEP_NOW = 1 → Does s (.registerWrite .warden false o v) fun t =>
      Does s (.registerWrite .warden false o (v.setFld ROT_CTL_STEP_NOW 0)) fun w => Does w (.stepNow c) fun u => t = u) ∧
    (a = 0x430008 → Does s (.registerWrite .warden false o v) fun t => if b 0 then Does s .aliveKick fun u => t = u else t = s) ∧
    (a = SA_NEXT_PN sa.toNat 1 → s.hold.get none 96 = some (a, BitVec.ofNat 32 ch.toNat) →
      Does s (.registerWrite .warden false o v) fun t =>
      Does { s with hold := t.hold } (.saNextPnWrite sa true (BitVec.ofNat 64 (v.toNat + 2 ^ 32 * ch.toNat))) fun u => t = u ∧
        t.hold.get none 96 = none ∧ SMap.But none [96] s.hold t.hold) ∧
    (a = CLK_CTL → v.fld CLK_CTL_WARM_REQ = 0 → v.fld CLK_CTL_REF_SEL = s.fld CLK_CTL CLK_CTL_REF_SEL →
      v.fld CLK_CTL_PLL_SEL = s.fld CLK_CTL CLK_CTL_PLL_SEL →
      Does s (.registerWrite .warden false o v) fun t => t.fld CLK_CTL CLK_CTL_AUTO = v.fld CLK_CTL_AUTO ∧ RegsBut [CLK_CTL] s t ∧
        t = { s with regs := t.regs }) ∧
    (a = CAON_WAKE (g.val / 8) (g.val % 8) n.toNat → on a →
      Does s (.registerWrite .warden false o v) fun t => t.rd (AON_WAKE g n.toNat) = v ∧ RegsBut [AON_WAKE g n.toNat] s t ∧
      t = { s with regs := t.regs }) ∧
    (a = DMA_CTL c ch.toNat → on a → v = ((s.rd a).setFld DMA_CTL_EN 1).setFld DMA_CTL_ABORT 0 →
      Does s (.registerWrite .warden false o v) fun t => Does s (.dmaEnable .warden c ch) fun u => t = u) ∧
    (a = DMA_DREQ c ch.toNat → on a → b 0 = true → Does s (.registerWrite .warden false o v) fun t => t.rd a = 1 ∧ RegsBut [a] s t ∧
      t = { s with regs := t.regs }) ∧
    (a = CLINK_POOL c → Does s (.registerWrite .warden false o v) fun t => Does s (.clinkPoolWrite .warden c v) fun u => t = u) ∧
    (a = CLINK_CTL c → Does s (.registerWrite .warden false o v) fun t => if b 31 then Does s (.clinkFence c) fun u => t = u else t = s) ∧
    (a = ZTF_CTL p → Does s (.registerWrite .warden false o v) fun t => if b 0 then Does s (.ztfCommit .warden p) fun u => t = u else t = s) ∧
    (a = SA_KEY sa.toNat → Does s (.registerWrite .warden false o v) fun t => Does s (.saKeyWrite sa v) fun u => t = u) ∧
    (a = COST_CTL → v = 1 → Does s (.registerWrite .warden false o v) fun t => Does s (.costCommit .warden false) fun u => t = u) ∧
    (a = COST_CTL → v = 8 → Does s (.registerWrite .warden false o v) fun t => Does s (.costInval .warden true) fun u => t = u) ∧
    (a = TINT_CTL → Does s (.registerWrite .warden false o v) fun t => Does s (.tintRclrEnWrite v) fun u => t = u) ∧
    (evExists src = true → a = srcAddr (evKey src) 0 → on a →
      Does s (.registerWrite .warden false o v) fun t => Does s (.srcCfgWrite .warden src v) fun u => t = u) ∧
    (evExists src = true → a = srcAddr (evKey src) 3 → on a → v = 1 →
      Does s (.registerWrite .warden false o v) fun t => Does s (.srcCmdClr src) fun u => t = u) ∧
    (evExists src = true → a = srcAddr (evKey src) 3 → on a → v = 2 →
      Does s (.registerWrite .warden false o v) fun t => Does s (.srcCmdSet src) fun u => t = u) ∧
    (a = PWR_CMD → b 31 = true → b 30 = false →
      Does s (.registerWrite .warden false o v) fun t => Does s (.powerOff .warden v) fun u => t = u) ∧
    (a = PWR_CMD → b 31 = true → b 30 = true →
      Does s (.registerWrite .warden false o v) fun t => Does s (.powerUp .warden v) fun u => t = u) ∧
    (a = RING_CFG → Does s (.registerWrite .warden false o v) fun t => Does s (.ringCfgWrite .warden v) fun u => t = u) ∧
    (a = RPORT_CTL 1 → Does s (.registerWrite .warden false o v) fun t => if b 31 then Does s (.ringPortFence .west) fun u => t = u else t = s) ∧
    (a = DUST_CTL → Does s (.registerWrite .warden false o v) fun t => Does s (.dustRelease v) fun u => t = u) ∧
    (a = ARB_PRI c r → on a → Does s (.registerWrite .warden false o v) fun t => Does s (.arbPriWrite c r v) fun u => t = u) ∧
    (a = MREP c n.toNat → on a → Does s (.registerWrite .warden false o v) fun t => Does s (.mrepApply c n v) fun u => t = u) ∧
    (a = DMA_QPTR c ch.toNat → on a →
      Does s (.registerWrite .warden false o v) fun t => Does s (.dmaTailWrite .warden c ch v) fun u => t = u) ∧
    (a = rc → on a → v = BitVec.ofNat 32 (2 ^ ROT_CORE_RELEASE.lo) →
      Does s (.registerWrite .warden false o v) fun t => Does s (.release g) fun u => t = u) ∧
    (a = rc → on a → v = BitVec.ofNat 32 (5 * 2 ^ ROT_CORE_STATE.lo) → fences →
      Does s (.registerWrite .warden false o v) fun t => t = s.fenceCore g 5 25 (BitVec.ofNat 32 st) 0) ∧
    (a = TAMPER_CTL → Does s (.registerWrite .warden false o v) fun t =>
      let en := if s.lcState = 2 then (s.rd TAMPER_CTL ||| v).toNat % 16 else v.toNat % 16
      (t.rd TAMPER_CTL).toNat % 16 = en ∧ t.rd TAMPER_CTL &&& 0xFFFFFFF0 = s.rd TAMPER_CTL &&& 0xFFFFFFF0 ∧
        RegsBut [TAMPER_CTL] s t ∧
      t = { s with regs := t.regs, root := { s.root with tamperEn := en } }) ∧
    (a = COST 1 5 → s.flag (COST_STAT 1) COST_STAT_VALID = true → Does s (.registerWrite .warden false o v) fun t => t = s) ∧
    (a = COST 1 5 → s.flag (COST_STAT 1) COST_STAT_VALID = false → Does s (.registerWrite .warden false o v) fun t => t.rd a = v ∧
      RegsBut [a] s t ∧
      t = { s with regs := t.regs, wlog := t.wlog, wlogAt := t.wlogAt }) ∧
    (a = ZTF_TAG p → s.portOn 1 p = true → Does s (.registerWrite .warden false o v) fun t => t = s))

/-- R16, R17, R391, R395, R396, R426, R532, R533: a command that stands for a register write is refused to the host
without the PRIN_CTL bit, to the host and the Lens where its field is WDN, and to the Lens in DEPLOYED, counted,
signalled and logged; to a core outside its cluster or at User level it is access fault 6; to a block that is off it
is ignored, and counted for the host and the Lens. A pop through SMBus is refused. -/
def Obligations.RefusedCommands : Prop :=
  ∀ (s : State) (who : Prin) (sd : Side) (c : ClId) (p : PortId) (ch : R4) (v : Word) (i : BitVec 8) (b : Bool) (g : CoreId),
    let dep : Bool := s.lcState == 2
    let on (a : Nat) : Prop := s.blockOn a = true
    let off (a : Nat) : Prop := s.blockOn a = false
    let k := if who = .lens then 1 else if who = .smbus then 2 else 0
    let f := if who = .lens then HOSTIF_EVT_LENS_REFUSED else if who = .smbus then HOSTIF_EVT_SMB_ERR else HOSTIF_EVT_HOST_REFUSED
    let logs (wr reason a : Nat) (t : State) : Prop := t.rd64 (HOSTIF_CNT k) = (s.rd64 (HOSTIF_CNT k) + 1) % 2 ^ 64 ∧
        t.flag HOSTIF_EVT f = true ∧ t.rd64 ACC_LOG_ADDR = a ∧
      t.rd ACC_LOG_INFO = BitVec.ofNat 32 (2 ^ 31 + 1024 * k + 512 * wr + reason) ∧ t = { s.signals t with regs := t.regs } ∧
      RegsBut [HOSTIF_CNT k, HOSTIF_CNT k + 4, HOSTIF_EVT, ACC_LOG_ADDR, ACC_LOG_ADDR + 4, ACC_LOG_INFO] s t ∧
      (reason ≠ 4 → t.srcs = s.srcs) ∧ (reason = 4 → (t.src (devKey 50)).occ = min ((s.src (devKey 50)).occ + 1) 255)
    let unavail (t : State) : Prop := t.srcs = s.srcs ∧ if who = .host ∨
        who = .lens then t.rd64 (HOSTIF_CNT 3) = (s.rd64 (HOSTIF_CNT 3) + 1) % 2 ^ 64 ∧
        t.flag HOSTIF_EVT HOSTIF_EVT_UNAVAIL = true ∧
      t = { s.signals t with regs := t.regs } ∧ RegsBut [HOSTIF_CNT 3, HOSTIF_CNT 3 + 4, HOSTIF_EVT] s t else t = s
    let barred : Prop := who = .host ∧ s.flag PRIN_CTL PRIN_CTL_HOST_CFG = false
    let wdn : Prop := who = .host ∨ (who = .lens ∧ dep = false)
    let shut : Prop := who = .lens ∧ dep = true
    let noDma : Prop := who = .host ∧ (s.flag PRIN_CTL PRIN_CTL_HOST_CFG = false ∨ s.flag PRIN_CTL PRIN_CTL_HOST_DMA = false)
    let alien : Prop := (s.core g).run = true ∧ ((s.core g).pl = 0 ∨ g.val / 8 ≠ c.val)
    let trap (a : Nat) (t : State) : Prop := t = s.except g 6 0 (some (coreAddrOf g a))
    let src : EvSrc := .shared c i
    let rsn := if dep && who == .lens then 4 else 1
    (barred ∨ shut → Does s (.clinkPoolWrite who c v) (logs 1 rsn (CLINK_POOL c))) ∧
    (barred ∨ shut → Does s (.clinkLock who) (logs 1 rsn CLINK_LOCKR)) ∧
    (barred ∨ shut → Does s (.dlvLock who) (logs 1 rsn DLV_LOCKR)) ∧
    (barred ∨ shut → Does s (.ledgerLock who) (logs 1 rsn LEDGER_CTL)) ∧
    (barred ∨ shut → Does s (.ztfCommit who p) (logs 1 rsn (ZTF_CTL p))) ∧
    (wdn ∨ shut → Does s (.costCommit who b) (logs 1 rsn COST_CTL)) ∧
    (wdn ∨ shut → Does s (.costInval who b) (logs 1 rsn COST_CTL)) ∧
    (barred ∨ shut → on (PRISM_LOCKR (sideN sd)) → Does s (.prismLock who sd) (logs 1 rsn (PRISM_LOCKR (sideN sd)))) ∧
    (barred ∨ shut → on (RSQ_LOCKR (sideN sd)) → Does s (.rsqLock who sd) (logs 1 rsn (RSQ_LOCKR (sideN sd)))) ∧
    (barred ∨ shut → evExists src = true → on (srcAddr (evKey src) 0) →
      Does s (.srcCfgWrite who src v) (logs 1 rsn (srcAddr (evKey src) 0))) ∧
    (noDma ∨ shut → on (DMA_CTL c ch.toNat) → (Does s (.dmaEnable who c ch) (logs 1 rsn (DMA_CTL c ch.toNat))) ∧
      (Does s (.dmaAbort who c ch) (logs 1 rsn (DMA_CTL c ch.toNat))) ∧
      Does s (.dmaTailWrite who c ch v) (logs 1 rsn (DMA_QPTR c ch.toNat))) ∧
    (wdn → (Does s (.powerOff who v) (logs 1 3 PWR_CMD)) ∧ (Does s (.powerUp who v) (logs 1 3 PWR_CMD)) ∧
      (Does s (.refSel who b) (logs 1 3 CLK_CTL)) ∧ (Does s (.pllSel who b) (logs 1 3 CLK_CTL)) ∧
      Does s (.ringCfgWrite who v) (logs 1 3 RING_CFG)) ∧
    (who = .smbus → (Does s (.derrqPop who) (logs 0 1 (DERRQ_POPR 0))) ∧ (on (ERRQ_POPR c 0) →
      Does s (.errqPop who c) (logs 0 1 (ERRQ_POPR c 0))) ∧ Does s (.memwinWrite who v) (logs 1 1 0x10)) ∧
    (alien → on (DMA_CTL c ch.toNat) → (Does s (.dmaEnable (.core g) c ch) (trap (DMA_CTL c ch.toNat))) ∧
      (Does s (.dmaAbort (.core g) c ch) (trap (DMA_CTL c ch.toNat))) ∧
      Does s (.dmaTailWrite (.core g) c ch v) (trap (DMA_QPTR c ch.toNat))) ∧
    ((s.core g).run = true → (Does s (.clinkLock (.core g)) (trap CLINK_LOCKR)) ∧ (Does s (.refSel (.core g) b) (trap CLK_CTL)) ∧
      Does s (.memwinWrite (.core g) v) (trap 0x10)) ∧
    (off (PRISM_LOCKR (sideN sd)) → Does s (.prismLock who sd) unavail) ∧
    (off (RSQ_LOCKR (sideN sd)) → Does s (.rsqLock who sd) unavail) ∧
    (off (DMA_CTL c ch.toNat) → (Does s (.dmaEnable who c ch) unavail) ∧ (Does s (.dmaAbort who c ch) unavail) ∧
      (Does s (.dmaTailWrite who c ch v) unavail) ∧
      (evExists src = true → Does s (.srcCfgWrite who src v) unavail) ∧ Does s (.errqPop who c) unavail)
end

