-- ==== Sys2Proof/Laws/Map.lean ====
section
/-! SUPPORT. The laws of sparse maps: reading after writing, and the canonical form that every write keeps. -/

namespace Sys2Proof

variable {α : Type}

theorem SMap.get_insert_same (d v : α) (m : SMap α) (k : Nat) : (SMap.insert k v m).get d k = v := by
  induction m with
  | nil => simp [SMap.insert, SMap.get]
  | cons e m ih =>
    obtain ⟨k', v'⟩ := e
    simp only [SMap.insert]
    split
    · simp [SMap.get]
    · split
      · simp [SMap.get]
      · next h1 h2 => simp [SMap.get, h1, h2, ih]

theorem SMap.get_insert_ne (d v : α) (m : SMap α) (k j : Nat) (h : j ≠ k) :
    (SMap.insert k v m).get d j = m.get d j := by
  induction m with
  | nil => simp only [SMap.insert, SMap.get]; split <;> simp_all
  | cons e m ih =>
    obtain ⟨k', v'⟩ := e
    simp only [SMap.insert]
    split
    · next h1 =>
      simp only [SMap.get]
      by_cases h2 : j < k
      · have : j < k' := by omega
        simp [h2, this]
      · simp [h2, h]
    · split
      · next h1 h2 =>
        subst h2
        simp only [SMap.get]
        by_cases h3 : j < k <;> simp [h3, h]
      · simp only [SMap.get, ih]

theorem SMap.get_filter_above (d : α) (m : SMap α) (k j : Nat) (h : k < j) :
    SMap.get d (m.filter (fun e => decide (k < e.1))) j = m.get d j := by
  induction m with
  | nil => rfl
  | cons e m ih =>
    obtain ⟨k', v'⟩ := e
    by_cases hk : k < k'
    · simp only [List.filter, hk, decide_true, SMap.get, ih]
    · have h1 : ¬ j < k' := by omega
      have h2 : j ≠ k' := by omega
      simp only [List.filter, hk, decide_false, SMap.get, h1, h2, if_false, ih]

theorem SMap.get_filter_low (d : α) (m : SMap α) (k j : Nat) (h : j ≤ k) :
    SMap.get d (m.filter (fun e => decide (k < e.1))) j = d := by
  induction m with
  | nil => rfl
  | cons e m ih =>
    obtain ⟨k', v'⟩ := e
    by_cases hk : k < k'
    · have : j < k' := by omega
      simp [List.filter, hk, SMap.get, this]
    · simp [List.filter, hk, ih]

theorem SMap.get_erase_same (d : α) (m : SMap α) (k : Nat) : (SMap.erase k m).get d k = d := by
  induction m with
  | nil => rfl
  | cons e m ih =>
    obtain ⟨k', v'⟩ := e
    simp only [SMap.erase]
    split
    · next h => simp [SMap.get, h]
    · split
      · exact SMap.get_filter_low d m k k (Nat.le_refl k)
      · next h1 h2 => simp [SMap.get, h1, h2, ih]

theorem SMap.get_erase_ne (d : α) (m : SMap α) (k j : Nat) (h : j ≠ k) : (SMap.erase k m).get d j = m.get d j := by
  induction m with
  | nil => rfl
  | cons e m ih =>
    obtain ⟨k', v'⟩ := e
    simp only [SMap.erase]
    split
    · rfl
    · split
      · next h1 h2 =>
        subst h2
        by_cases h3 : j < k
        · rw [SMap.get_filter_low d m k j (Nat.le_of_lt h3)]; simp [SMap.get, h3]
        · rw [SMap.get_filter_above d m k j (by omega)]; simp [SMap.get, h3, h]
      · simp only [SMap.get, ih]

/-- Reading the key just written gives the value written. -/
@[simp] theorem SMap.get_set_same [DecidableEq α] (d v : α) (m : SMap α) (k : Nat) : (m.set d k v).get d k = v := by
  simp only [SMap.set]
  split
  · next h => subst h; exact SMap.get_erase_same v m k
  · exact SMap.get_insert_same d v m k

/-- A write leaves every other key alone. -/
theorem SMap.get_set_ne [DecidableEq α] (d v : α) (m : SMap α) (k j : Nat) (h : j ≠ k) :
    (m.set d k v).get d j = m.get d j := by
  simp only [SMap.set]
  split
  · exact SMap.get_erase_ne d m k j h
  · exact SMap.get_insert_ne d v m k j h

/-- Reading any key after a write. -/
theorem SMap.get_set [DecidableEq α] (d v : α) (m : SMap α) (k j : Nat) :
    (m.set d k v).get d j = if j = k then v else m.get d j := by
  split
  · next h => subst h; exact SMap.get_set_same d v m j
  · next h => exact SMap.get_set_ne d v m k j h

/-! The canonical form -/

theorem SMap.okFrom_mono [DecidableEq α] (d : α) (a b : Nat) (m : SMap α) (h : SMap.okFrom d b m = true) (hab : a ≤ b) :
    SMap.okFrom d a m = true := by
  cases m with
  | nil => rfl
  | cons e m =>
    obtain ⟨k', v'⟩ := e
    simp only [SMap.okFrom, Bool.and_eq_true, decide_eq_true_eq] at h ⊢
    exact ⟨⟨by omega, h.1.2⟩, h.2⟩

theorem SMap.okFrom_insert [DecidableEq α] (d v : α) (hv : v ≠ d) (k lo : Nat) (m : SMap α) (hk : lo ≤ k)
    (h : SMap.okFrom d lo m = true) : SMap.okFrom d lo (SMap.insert k v m) = true := by
  induction m generalizing lo with
  | nil => simp [SMap.insert, SMap.okFrom, hk, hv]
  | cons e m ih =>
    obtain ⟨k', v'⟩ := e
    simp only [SMap.okFrom, Bool.and_eq_true, decide_eq_true_eq] at h
    simp only [SMap.insert]
    split
    · simp only [SMap.okFrom, Bool.and_eq_true, decide_eq_true_eq]
      exact ⟨⟨hk, hv⟩, ⟨by omega, h.1.2⟩, h.2⟩
    · split
      · next h1 h2 =>
        subst h2
        simp only [SMap.okFrom, Bool.and_eq_true, decide_eq_true_eq]
        exact ⟨⟨hk, hv⟩, h.2⟩
      · simp only [SMap.okFrom, Bool.and_eq_true, decide_eq_true_eq]
        exact ⟨h.1, ih (k' + 1) (by omega) h.2⟩

/-- Dropping entries keeps the canonical form. -/
theorem SMap.okFrom_filter [DecidableEq α] (d : α) (p : Nat × α → Bool) (lo : Nat) (m : SMap α)
    (h : SMap.okFrom d lo m = true) : SMap.okFrom d lo (m.filter p) = true := by
  induction m generalizing lo with
  | nil => rfl
  | cons e m ih =>
    obtain ⟨k', v'⟩ := e
    simp only [SMap.okFrom, Bool.and_eq_true, decide_eq_true_eq] at h
    by_cases hp : p (k', v') = true
    · simp only [List.filter, hp, SMap.okFrom, Bool.and_eq_true, decide_eq_true_eq]
      exact ⟨h.1, ih _ h.2⟩
    · simp only [Bool.not_eq_true] at hp
      simp only [List.filter, hp]
      exact SMap.okFrom_mono d lo (k' + 1) _ (ih _ h.2) (by omega)

theorem SMap.okFrom_erase [DecidableEq α] (d : α) (k lo : Nat) (m : SMap α) (h : SMap.okFrom d lo m = true) :
    SMap.okFrom d lo (SMap.erase k m) = true := by
  induction m generalizing lo with
  | nil => rfl
  | cons e m ih =>
    obtain ⟨k', v'⟩ := e
    simp only [SMap.erase]
    split
    · exact h
    · simp only [SMap.okFrom, Bool.and_eq_true, decide_eq_true_eq] at h
      split
      · exact SMap.okFrom_mono d lo (k' + 1) _ (SMap.okFrom_filter d _ _ m h.2) (by omega)
      · simp only [SMap.okFrom, Bool.and_eq_true, decide_eq_true_eq]
        exact ⟨h.1, ih _ h.2⟩

/-- A write keeps the canonical form. -/
theorem SMap.wf_set [DecidableEq α] (d v : α) (m : SMap α) (k : Nat) (h : SMap.wf d m = true) :
    SMap.wf d (m.set d k v) = true := by
  simp only [SMap.wf, SMap.set] at *
  split
  · exact SMap.okFrom_erase d k 0 m h
  · next hv => exact SMap.okFrom_insert d v hv k 0 m (Nat.zero_le k) h

/-- Dropping entries keeps the canonical form. -/
theorem SMap.wf_filter [DecidableEq α] (d : α) (p : Nat × α → Bool) (m : SMap α) (h : SMap.wf d m = true) :
    SMap.wf d (m.filter p) = true := SMap.okFrom_filter d p 0 m h

/-- Writing a run of values keeps the canonical form. -/
theorem SMap.wf_setRange [DecidableEq α] (d : α) (vs : List α) (m : SMap α) (k : Nat) (h : SMap.wf d m = true) :
    SMap.wf d (m.setRange d k vs) = true := by
  induction vs generalizing m k with
  | nil => exact h
  | cons v vs ih => exact ih _ _ (SMap.wf_set d v m k h)

/-- A run of values leaves every key outside it alone. -/
theorem SMap.get_setRange_ne [DecidableEq α] (d : α) (vs : List α) (m : SMap α) (k j : Nat)
    (h : j < k ∨ k + vs.length ≤ j) : (m.setRange d k vs).get d j = m.get d j := by
  induction vs generalizing m k with
  | nil => rfl
  | cons v vs ih =>
    simp only [List.length_cons] at h
    simp only [SMap.setRange]
    rw [ih _ _ (by omega), SMap.get_set_ne d v m k j (by omega)]

/-- Two canonical maps that read alike are equal. -/
theorem SMap.okFrom_ext [DecidableEq α] (d : α) (m n : SMap α) (lo : Nat) (hm : SMap.okFrom d lo m = true)
    (hn : SMap.okFrom d lo n = true) (h : ∀ k, lo ≤ k → m.get d k = n.get d k) : m = n := by
  induction m generalizing n lo with
  | nil =>
    cases n with
    | nil => rfl
    | cons e n =>
      obtain ⟨k, v⟩ := e
      simp only [SMap.okFrom, Bool.and_eq_true, decide_eq_true_eq] at hn
      have := h k hn.1.1
      simp [SMap.get] at this
      exact absurd this.symm hn.1.2
  | cons e m ih =>
    obtain ⟨k, v⟩ := e
    simp only [SMap.okFrom, Bool.and_eq_true, decide_eq_true_eq] at hm
    cases n with
    | nil =>
      have := h k hm.1.1
      simp [SMap.get] at this
      exact absurd this hm.1.2
    | cons e' n =>
      obtain ⟨k', v'⟩ := e'
      simp only [SMap.okFrom, Bool.and_eq_true, decide_eq_true_eq] at hn
      have hk : k = k' := by
        rcases Nat.lt_trichotomy k k' with hlt | heq | hgt
        · have := h k hm.1.1
          simp [SMap.get, hlt] at this
          exact absurd this hm.1.2
        · exact heq
        · have := h k' hn.1.1
          simp [SMap.get, hgt] at this
          exact absurd this.symm hn.1.2
      subst hk
      have hv : v = v' := by simpa [SMap.get] using h k hm.1.1
      subst hv
      have := ih n (k + 1) hm.2 hn.2 (fun j hj => by
        have := h j (by omega)
        have h1 : ¬ j < k := by omega
        have h2 : j ≠ k := by omega
        simpa [SMap.get, h1, h2] using this)
      rw [this]

/-- Two canonical maps that read alike are equal. -/
theorem SMap.wf_ext [DecidableEq α] (d : α) (m n : SMap α) (hm : SMap.wf d m = true) (hn : SMap.wf d n = true)
    (h : ∀ k, m.get d k = n.get d k) : m = n :=
  SMap.okFrom_ext d m n 0 hm hn (fun k _ => h k)

end Sys2Proof
end

