-- ==== Sys2Proof/Laws/Words.lean ====
section
/-! SUPPORT. The laws of bit fields: what a field reads after it, or another field, has been set (R7). -/

namespace Sys2Proof

/-- A bit of a field's value. -/
theorem Word.fld_testBit (w : Word) (f : Fld) (j : Nat) :
    (w.fld f).testBit j = (decide (j < f.width) && w.toNat.testBit (f.lo + j)) := by
  simp only [Word.fld, Nat.testBit_mod_two_pow, Nat.testBit_div_two_pow]
  rw [Nat.add_comm]

/-- A field's value fits its width. -/
theorem Word.fld_lt (w : Word) (f : Fld) : w.fld f < 2 ^ f.width := Nat.mod_lt _ (Nat.two_pow_pos _)

/-- A bit of a field's mask. -/
theorem Fld.mask_testBit (f : Fld) (i : Nat) :
    f.mask.toNat.testBit i = decide (f.lo ≤ i ∧ i < f.lo + f.width ∧ i < 32) := by
  simp only [Fld.mask, BitVec.toNat_ofNat, Nat.testBit_mod_two_pow, Nat.testBit_mul_two_pow,
    Nat.testBit_two_pow_sub_one]
  by_cases h1 : i < 32 <;> by_cases h2 : f.lo ≤ i <;> by_cases h3 : i < f.lo + f.width
  all_goals simp [h1, h2, h3]
  all_goals omega

/-- A bit of a word one of whose fields has been set. -/
theorem Word.setFld_testBit (w : Word) (f : Fld) (n i : Nat) :
    (w.setFld f n).toNat.testBit i =
      if f.lo ≤ i ∧ i < f.lo + f.width ∧ i < 32 then n.testBit (i - f.lo) else w.toNat.testBit i := by
  have hn : (~~~ f.mask).toNat.testBit i = (decide (i < 32) && !f.mask.toNat.testBit i) := by
    rw [BitVec.testBit_toNat, BitVec.getLsbD_not, BitVec.testBit_toNat]
  simp only [Word.setFld, BitVec.toNat_or, BitVec.toNat_and, Nat.testBit_or, Nat.testBit_and, hn,
    Fld.mask_testBit f, BitVec.toNat_ofNat, Nat.testBit_mod_two_pow, Nat.testBit_mul_two_pow]
  by_cases h1 : i < 32
  · by_cases h2 : f.lo ≤ i
    · by_cases h3 : i < f.lo + f.width
      · have : i - f.lo < f.width := by omega
        simp [h1, h2, h3, this]
      · have : ¬ i - f.lo < f.width := by omega
        simp [h1, h2, h3, this]
    · simp [h1, h2]
  · have hw : w.toNat.testBit i = false := by
      rw [BitVec.testBit_toNat]; exact BitVec.getLsbD_of_ge w i (by omega)
    simp [h1, hw]

/-- A field reads as what was set in it. -/
theorem Word.fld_setFld (w : Word) (f : Fld) (n : Nat) (hlo : f.lo ≤ f.hi) (hhi : f.hi < 32) :
    (w.setFld f n).fld f = n % 2 ^ f.width := by
  refine Nat.eq_of_testBit_eq (fun j => ?_)
  rw [Word.fld_testBit, Word.setFld_testBit w f, Nat.testBit_mod_two_pow]
  by_cases h : j < f.width
  · have h1 : f.lo + j < 32 := by unfold Fld.width at h; omega
    simp [h, h1]
  · simp [h]

/-- A field reads as before when a field apart from it is set. -/
theorem Word.fld_setFld_ne (w : Word) (f g : Fld) (n : Nat) (hf : f.lo ≤ f.hi)
    (h : g.hi < f.lo ∨ f.hi < g.lo) (hg : g.lo ≤ g.hi) : (w.setFld f n).fld g = w.fld g := by
  refine Nat.eq_of_testBit_eq (fun j => ?_)
  rw [Word.fld_testBit, Word.fld_testBit, Word.setFld_testBit w f]
  by_cases hj : j < g.width
  · have : ¬ (f.lo ≤ g.lo + j ∧ g.lo + j < f.lo + f.width ∧ g.lo + j < 32) := by
      unfold Fld.width at *; omega
    simp [hj, this]
  · simp [hj]

end Sys2Proof
end

