-- ==== Sys2Proof/Laws/State.lean ====
section
/-! SUPPORT. The small laws of State: what each update leaves alone, and what each accessor reads after each update. -/

namespace Sys2Proof.Machine
open Sys2Proof

/-- wr changes regs alone. -/
@[simp] theorem State.wr_fields (s : State) (off : Nat) (w : Word) :
    (s.wr off w).now = s.now ∧ (s.wr off w).free = s.free ∧ (s.wr off w).hold = s.hold ∧ (s.wr off w).cap = s.cap
    ∧ (s.wr off w).recCap = s.recCap ∧ (s.wr off w).wlog = s.wlog ∧ (s.wr off w).wlogAt = s.wlogAt
    ∧ (s.wr off w).cores = s.cores ∧ (s.wr off w).cl = s.cl ∧ (s.wr off w).rx = s.rx
    ∧ (s.wr off w).calFails = s.calFails ∧ (s.wr off w).cut = s.cut ∧ (s.wr off w).frames = s.frames
    ∧ (s.wr off w).nextFid = s.nextFid ∧ (s.wr off w).egress = s.egress ∧ (s.wr off w).links = s.links
    ∧ (s.wr off w).srcs = s.srcs ∧ (s.wr off w).derrq = s.derrq ∧ (s.wr off w).lastRec = s.lastRec
    ∧ (s.wr off w).wstack = s.wstack ∧ (s.wr off w).saEvt = s.saEvt ∧ (s.wr off w).bitmap = s.bitmap
    ∧ (s.wr off w).chosen = s.chosen ∧ (s.wr off w).decAt = s.decAt ∧ (s.wr off w).decN = s.decN
    ∧ (s.wr off w).tfree = s.tfree ∧ (s.wr off w).spillFree = s.spillFree ∧ (s.wr off w).rot = s.rot
    ∧ (s.wr off w).dma = s.dma ∧ (s.wr off w).dmaServed = s.dmaServed ∧ (s.wr off w).rport = s.rport
    ∧ (s.wr off w).ring = s.ring ∧ (s.wr off w).pwrq = s.pwrq ∧ (s.wr off w).pwrAt = s.pwrAt
    ∧ (s.wr off w).clk = s.clk ∧ (s.wr off w).memwin = s.memwin ∧ (s.wr off w).warden = s.warden
    ∧ (s.wr off w).mbx = s.mbx ∧ (s.wr off w).vault = s.vault ∧ (s.wr off w).root = s.root
    ∧ (s.wr off w).fuses = s.fuses ∧ (s.wr off w).flash = s.flash ∧ (s.wr off w).msixTab = s.msixTab
    ∧ (s.wr off w).msixPba = s.msixPba ∧ (s.wr off w).msixHold = s.msixHold ∧ (s.wr off w).out = s.out
    ∧ (s.wr off w).pending = s.pending := by
  repeat' constructor

/-- setCore changes cores alone. -/
@[simp] theorem State.setCore_fields (s : State) (g : Nat) (c : Core) :
    (s.setCore g c).now = s.now ∧ (s.setCore g c).free = s.free ∧ (s.setCore g c).regs = s.regs
    ∧ (s.setCore g c).hold = s.hold ∧ (s.setCore g c).cap = s.cap ∧ (s.setCore g c).recCap = s.recCap
    ∧ (s.setCore g c).wlog = s.wlog ∧ (s.setCore g c).wlogAt = s.wlogAt ∧ (s.setCore g c).cl = s.cl
    ∧ (s.setCore g c).rx = s.rx ∧ (s.setCore g c).calFails = s.calFails ∧ (s.setCore g c).cut = s.cut
    ∧ (s.setCore g c).frames = s.frames ∧ (s.setCore g c).nextFid = s.nextFid ∧ (s.setCore g c).egress = s.egress
    ∧ (s.setCore g c).links = s.links ∧ (s.setCore g c).srcs = s.srcs ∧ (s.setCore g c).derrq = s.derrq
    ∧ (s.setCore g c).lastRec = s.lastRec ∧ (s.setCore g c).wstack = s.wstack ∧ (s.setCore g c).saEvt = s.saEvt
    ∧ (s.setCore g c).bitmap = s.bitmap ∧ (s.setCore g c).chosen = s.chosen ∧ (s.setCore g c).decAt = s.decAt
    ∧ (s.setCore g c).decN = s.decN ∧ (s.setCore g c).tfree = s.tfree ∧ (s.setCore g c).spillFree = s.spillFree
    ∧ (s.setCore g c).rot = s.rot ∧ (s.setCore g c).dma = s.dma ∧ (s.setCore g c).dmaServed = s.dmaServed
    ∧ (s.setCore g c).rport = s.rport ∧ (s.setCore g c).ring = s.ring ∧ (s.setCore g c).pwrq = s.pwrq
    ∧ (s.setCore g c).pwrAt = s.pwrAt ∧ (s.setCore g c).clk = s.clk ∧ (s.setCore g c).memwin = s.memwin
    ∧ (s.setCore g c).warden = s.warden ∧ (s.setCore g c).mbx = s.mbx ∧ (s.setCore g c).vault = s.vault
    ∧ (s.setCore g c).root = s.root ∧ (s.setCore g c).fuses = s.fuses ∧ (s.setCore g c).flash = s.flash
    ∧ (s.setCore g c).msixTab = s.msixTab ∧ (s.setCore g c).msixPba = s.msixPba
    ∧ (s.setCore g c).msixHold = s.msixHold ∧ (s.setCore g c).out = s.out ∧ (s.setCore g c).pending = s.pending := by
  repeat' constructor

/-- setClu changes cl alone. -/
@[simp] theorem State.setClu_fields (s : State) (c : Nat) (x : Cluster) :
    (s.setClu c x).now = s.now ∧ (s.setClu c x).free = s.free ∧ (s.setClu c x).regs = s.regs
    ∧ (s.setClu c x).hold = s.hold ∧ (s.setClu c x).cap = s.cap ∧ (s.setClu c x).recCap = s.recCap
    ∧ (s.setClu c x).wlog = s.wlog ∧ (s.setClu c x).wlogAt = s.wlogAt ∧ (s.setClu c x).cores = s.cores
    ∧ (s.setClu c x).rx = s.rx ∧ (s.setClu c x).calFails = s.calFails ∧ (s.setClu c x).cut = s.cut
    ∧ (s.setClu c x).frames = s.frames ∧ (s.setClu c x).nextFid = s.nextFid ∧ (s.setClu c x).egress = s.egress
    ∧ (s.setClu c x).links = s.links ∧ (s.setClu c x).srcs = s.srcs ∧ (s.setClu c x).derrq = s.derrq
    ∧ (s.setClu c x).lastRec = s.lastRec ∧ (s.setClu c x).wstack = s.wstack ∧ (s.setClu c x).saEvt = s.saEvt
    ∧ (s.setClu c x).bitmap = s.bitmap ∧ (s.setClu c x).chosen = s.chosen ∧ (s.setClu c x).decAt = s.decAt
    ∧ (s.setClu c x).decN = s.decN ∧ (s.setClu c x).tfree = s.tfree ∧ (s.setClu c x).spillFree = s.spillFree
    ∧ (s.setClu c x).rot = s.rot ∧ (s.setClu c x).dma = s.dma ∧ (s.setClu c x).dmaServed = s.dmaServed
    ∧ (s.setClu c x).rport = s.rport ∧ (s.setClu c x).ring = s.ring ∧ (s.setClu c x).pwrq = s.pwrq
    ∧ (s.setClu c x).pwrAt = s.pwrAt ∧ (s.setClu c x).clk = s.clk ∧ (s.setClu c x).memwin = s.memwin
    ∧ (s.setClu c x).warden = s.warden ∧ (s.setClu c x).mbx = s.mbx ∧ (s.setClu c x).vault = s.vault
    ∧ (s.setClu c x).root = s.root ∧ (s.setClu c x).fuses = s.fuses ∧ (s.setClu c x).flash = s.flash
    ∧ (s.setClu c x).msixTab = s.msixTab ∧ (s.setClu c x).msixPba = s.msixPba ∧ (s.setClu c x).msixHold = s.msixHold
    ∧ (s.setClu c x).out = s.out ∧ (s.setClu c x).pending = s.pending := by
  repeat' constructor

/-- setFrame changes frames alone. -/
@[simp] theorem State.setFrame_fields (s : State) (f : Nat) (x : Frame) :
    (s.setFrame f x).now = s.now ∧ (s.setFrame f x).free = s.free ∧ (s.setFrame f x).regs = s.regs
    ∧ (s.setFrame f x).hold = s.hold ∧ (s.setFrame f x).cap = s.cap ∧ (s.setFrame f x).recCap = s.recCap
    ∧ (s.setFrame f x).wlog = s.wlog ∧ (s.setFrame f x).wlogAt = s.wlogAt ∧ (s.setFrame f x).cores = s.cores
    ∧ (s.setFrame f x).cl = s.cl ∧ (s.setFrame f x).rx = s.rx ∧ (s.setFrame f x).calFails = s.calFails
    ∧ (s.setFrame f x).cut = s.cut ∧ (s.setFrame f x).nextFid = s.nextFid ∧ (s.setFrame f x).egress = s.egress
    ∧ (s.setFrame f x).links = s.links ∧ (s.setFrame f x).srcs = s.srcs ∧ (s.setFrame f x).derrq = s.derrq
    ∧ (s.setFrame f x).lastRec = s.lastRec ∧ (s.setFrame f x).wstack = s.wstack ∧ (s.setFrame f x).saEvt = s.saEvt
    ∧ (s.setFrame f x).bitmap = s.bitmap ∧ (s.setFrame f x).chosen = s.chosen ∧ (s.setFrame f x).decAt = s.decAt
    ∧ (s.setFrame f x).decN = s.decN ∧ (s.setFrame f x).tfree = s.tfree ∧ (s.setFrame f x).spillFree = s.spillFree
    ∧ (s.setFrame f x).rot = s.rot ∧ (s.setFrame f x).dma = s.dma ∧ (s.setFrame f x).dmaServed = s.dmaServed
    ∧ (s.setFrame f x).rport = s.rport ∧ (s.setFrame f x).ring = s.ring ∧ (s.setFrame f x).pwrq = s.pwrq
    ∧ (s.setFrame f x).pwrAt = s.pwrAt ∧ (s.setFrame f x).clk = s.clk ∧ (s.setFrame f x).memwin = s.memwin
    ∧ (s.setFrame f x).warden = s.warden ∧ (s.setFrame f x).mbx = s.mbx ∧ (s.setFrame f x).vault = s.vault
    ∧ (s.setFrame f x).root = s.root ∧ (s.setFrame f x).fuses = s.fuses ∧ (s.setFrame f x).flash = s.flash
    ∧ (s.setFrame f x).msixTab = s.msixTab ∧ (s.setFrame f x).msixPba = s.msixPba
    ∧ (s.setFrame f x).msixHold = s.msixHold ∧ (s.setFrame f x).out = s.out ∧ (s.setFrame f x).pending = s.pending := by
  repeat' constructor

/-- setRx changes rx alone. -/
@[simp] theorem State.setRx_fields (s : State) (k : Nat) (x : Rx) :
    (s.setRx k x).now = s.now ∧ (s.setRx k x).free = s.free ∧ (s.setRx k x).regs = s.regs
    ∧ (s.setRx k x).hold = s.hold ∧ (s.setRx k x).cap = s.cap ∧ (s.setRx k x).recCap = s.recCap
    ∧ (s.setRx k x).wlog = s.wlog ∧ (s.setRx k x).wlogAt = s.wlogAt ∧ (s.setRx k x).cores = s.cores
    ∧ (s.setRx k x).cl = s.cl ∧ (s.setRx k x).calFails = s.calFails ∧ (s.setRx k x).cut = s.cut
    ∧ (s.setRx k x).frames = s.frames ∧ (s.setRx k x).nextFid = s.nextFid ∧ (s.setRx k x).egress = s.egress
    ∧ (s.setRx k x).links = s.links ∧ (s.setRx k x).srcs = s.srcs ∧ (s.setRx k x).derrq = s.derrq
    ∧ (s.setRx k x).lastRec = s.lastRec ∧ (s.setRx k x).wstack = s.wstack ∧ (s.setRx k x).saEvt = s.saEvt
    ∧ (s.setRx k x).bitmap = s.bitmap ∧ (s.setRx k x).chosen = s.chosen ∧ (s.setRx k x).decAt = s.decAt
    ∧ (s.setRx k x).decN = s.decN ∧ (s.setRx k x).tfree = s.tfree ∧ (s.setRx k x).spillFree = s.spillFree
    ∧ (s.setRx k x).rot = s.rot ∧ (s.setRx k x).dma = s.dma ∧ (s.setRx k x).dmaServed = s.dmaServed
    ∧ (s.setRx k x).rport = s.rport ∧ (s.setRx k x).ring = s.ring ∧ (s.setRx k x).pwrq = s.pwrq
    ∧ (s.setRx k x).pwrAt = s.pwrAt ∧ (s.setRx k x).clk = s.clk ∧ (s.setRx k x).memwin = s.memwin
    ∧ (s.setRx k x).warden = s.warden ∧ (s.setRx k x).mbx = s.mbx ∧ (s.setRx k x).vault = s.vault
    ∧ (s.setRx k x).root = s.root ∧ (s.setRx k x).fuses = s.fuses ∧ (s.setRx k x).flash = s.flash
    ∧ (s.setRx k x).msixTab = s.msixTab ∧ (s.setRx k x).msixPba = s.msixPba ∧ (s.setRx k x).msixHold = s.msixHold
    ∧ (s.setRx k x).out = s.out ∧ (s.setRx k x).pending = s.pending := by
  repeat' constructor

/-- setEgr changes egress alone. -/
@[simp] theorem State.setEgr_fields (s : State) (k : Nat) (x : Egress) :
    (s.setEgr k x).now = s.now ∧ (s.setEgr k x).free = s.free ∧ (s.setEgr k x).regs = s.regs
    ∧ (s.setEgr k x).hold = s.hold ∧ (s.setEgr k x).cap = s.cap ∧ (s.setEgr k x).recCap = s.recCap
    ∧ (s.setEgr k x).wlog = s.wlog ∧ (s.setEgr k x).wlogAt = s.wlogAt ∧ (s.setEgr k x).cores = s.cores
    ∧ (s.setEgr k x).cl = s.cl ∧ (s.setEgr k x).rx = s.rx ∧ (s.setEgr k x).calFails = s.calFails
    ∧ (s.setEgr k x).cut = s.cut ∧ (s.setEgr k x).frames = s.frames ∧ (s.setEgr k x).nextFid = s.nextFid
    ∧ (s.setEgr k x).links = s.links ∧ (s.setEgr k x).srcs = s.srcs ∧ (s.setEgr k x).derrq = s.derrq
    ∧ (s.setEgr k x).lastRec = s.lastRec ∧ (s.setEgr k x).wstack = s.wstack ∧ (s.setEgr k x).saEvt = s.saEvt
    ∧ (s.setEgr k x).bitmap = s.bitmap ∧ (s.setEgr k x).chosen = s.chosen ∧ (s.setEgr k x).decAt = s.decAt
    ∧ (s.setEgr k x).decN = s.decN ∧ (s.setEgr k x).tfree = s.tfree ∧ (s.setEgr k x).spillFree = s.spillFree
    ∧ (s.setEgr k x).rot = s.rot ∧ (s.setEgr k x).dma = s.dma ∧ (s.setEgr k x).dmaServed = s.dmaServed
    ∧ (s.setEgr k x).rport = s.rport ∧ (s.setEgr k x).ring = s.ring ∧ (s.setEgr k x).pwrq = s.pwrq
    ∧ (s.setEgr k x).pwrAt = s.pwrAt ∧ (s.setEgr k x).clk = s.clk ∧ (s.setEgr k x).memwin = s.memwin
    ∧ (s.setEgr k x).warden = s.warden ∧ (s.setEgr k x).mbx = s.mbx ∧ (s.setEgr k x).vault = s.vault
    ∧ (s.setEgr k x).root = s.root ∧ (s.setEgr k x).fuses = s.fuses ∧ (s.setEgr k x).flash = s.flash
    ∧ (s.setEgr k x).msixTab = s.msixTab ∧ (s.setEgr k x).msixPba = s.msixPba ∧ (s.setEgr k x).msixHold = s.msixHold
    ∧ (s.setEgr k x).out = s.out ∧ (s.setEgr k x).pending = s.pending := by
  repeat' constructor

/-- setLink changes links alone. -/
@[simp] theorem State.setLink_fields (s : State) (k : Nat) (x : Link) :
    (s.setLink k x).now = s.now ∧ (s.setLink k x).free = s.free ∧ (s.setLink k x).regs = s.regs
    ∧ (s.setLink k x).hold = s.hold ∧ (s.setLink k x).cap = s.cap ∧ (s.setLink k x).recCap = s.recCap
    ∧ (s.setLink k x).wlog = s.wlog ∧ (s.setLink k x).wlogAt = s.wlogAt ∧ (s.setLink k x).cores = s.cores
    ∧ (s.setLink k x).cl = s.cl ∧ (s.setLink k x).rx = s.rx ∧ (s.setLink k x).calFails = s.calFails
    ∧ (s.setLink k x).cut = s.cut ∧ (s.setLink k x).frames = s.frames ∧ (s.setLink k x).nextFid = s.nextFid
    ∧ (s.setLink k x).egress = s.egress ∧ (s.setLink k x).srcs = s.srcs ∧ (s.setLink k x).derrq = s.derrq
    ∧ (s.setLink k x).lastRec = s.lastRec ∧ (s.setLink k x).wstack = s.wstack ∧ (s.setLink k x).saEvt = s.saEvt
    ∧ (s.setLink k x).bitmap = s.bitmap ∧ (s.setLink k x).chosen = s.chosen ∧ (s.setLink k x).decAt = s.decAt
    ∧ (s.setLink k x).decN = s.decN ∧ (s.setLink k x).tfree = s.tfree ∧ (s.setLink k x).spillFree = s.spillFree
    ∧ (s.setLink k x).rot = s.rot ∧ (s.setLink k x).dma = s.dma ∧ (s.setLink k x).dmaServed = s.dmaServed
    ∧ (s.setLink k x).rport = s.rport ∧ (s.setLink k x).ring = s.ring ∧ (s.setLink k x).pwrq = s.pwrq
    ∧ (s.setLink k x).pwrAt = s.pwrAt ∧ (s.setLink k x).clk = s.clk ∧ (s.setLink k x).memwin = s.memwin
    ∧ (s.setLink k x).warden = s.warden ∧ (s.setLink k x).mbx = s.mbx ∧ (s.setLink k x).vault = s.vault
    ∧ (s.setLink k x).root = s.root ∧ (s.setLink k x).fuses = s.fuses ∧ (s.setLink k x).flash = s.flash
    ∧ (s.setLink k x).msixTab = s.msixTab ∧ (s.setLink k x).msixPba = s.msixPba
    ∧ (s.setLink k x).msixHold = s.msixHold ∧ (s.setLink k x).out = s.out ∧ (s.setLink k x).pending = s.pending := by
  repeat' constructor

/-- setRot changes rot alone. -/
@[simp] theorem State.setRot_fields (s : State) (g : Nat) (x : Rot) :
    (s.setRot g x).now = s.now ∧ (s.setRot g x).free = s.free ∧ (s.setRot g x).regs = s.regs
    ∧ (s.setRot g x).hold = s.hold ∧ (s.setRot g x).cap = s.cap ∧ (s.setRot g x).recCap = s.recCap
    ∧ (s.setRot g x).wlog = s.wlog ∧ (s.setRot g x).wlogAt = s.wlogAt ∧ (s.setRot g x).cores = s.cores
    ∧ (s.setRot g x).cl = s.cl ∧ (s.setRot g x).rx = s.rx ∧ (s.setRot g x).calFails = s.calFails
    ∧ (s.setRot g x).cut = s.cut ∧ (s.setRot g x).frames = s.frames ∧ (s.setRot g x).nextFid = s.nextFid
    ∧ (s.setRot g x).egress = s.egress ∧ (s.setRot g x).links = s.links ∧ (s.setRot g x).srcs = s.srcs
    ∧ (s.setRot g x).derrq = s.derrq ∧ (s.setRot g x).lastRec = s.lastRec ∧ (s.setRot g x).wstack = s.wstack
    ∧ (s.setRot g x).saEvt = s.saEvt ∧ (s.setRot g x).bitmap = s.bitmap ∧ (s.setRot g x).chosen = s.chosen
    ∧ (s.setRot g x).decAt = s.decAt ∧ (s.setRot g x).decN = s.decN ∧ (s.setRot g x).tfree = s.tfree
    ∧ (s.setRot g x).spillFree = s.spillFree ∧ (s.setRot g x).dma = s.dma ∧ (s.setRot g x).dmaServed = s.dmaServed
    ∧ (s.setRot g x).rport = s.rport ∧ (s.setRot g x).ring = s.ring ∧ (s.setRot g x).pwrq = s.pwrq
    ∧ (s.setRot g x).pwrAt = s.pwrAt ∧ (s.setRot g x).clk = s.clk ∧ (s.setRot g x).memwin = s.memwin
    ∧ (s.setRot g x).warden = s.warden ∧ (s.setRot g x).mbx = s.mbx ∧ (s.setRot g x).vault = s.vault
    ∧ (s.setRot g x).root = s.root ∧ (s.setRot g x).fuses = s.fuses ∧ (s.setRot g x).flash = s.flash
    ∧ (s.setRot g x).msixTab = s.msixTab ∧ (s.setRot g x).msixPba = s.msixPba ∧ (s.setRot g x).msixHold = s.msixHold
    ∧ (s.setRot g x).out = s.out ∧ (s.setRot g x).pending = s.pending := by
  repeat' constructor

/-- setSrc changes srcs alone. -/
@[simp] theorem State.setSrc_fields (s : State) (k : Nat) (x : Src) :
    (s.setSrc k x).now = s.now ∧ (s.setSrc k x).free = s.free ∧ (s.setSrc k x).regs = s.regs
    ∧ (s.setSrc k x).hold = s.hold ∧ (s.setSrc k x).cap = s.cap ∧ (s.setSrc k x).recCap = s.recCap
    ∧ (s.setSrc k x).wlog = s.wlog ∧ (s.setSrc k x).wlogAt = s.wlogAt ∧ (s.setSrc k x).cores = s.cores
    ∧ (s.setSrc k x).cl = s.cl ∧ (s.setSrc k x).rx = s.rx ∧ (s.setSrc k x).calFails = s.calFails
    ∧ (s.setSrc k x).cut = s.cut ∧ (s.setSrc k x).frames = s.frames ∧ (s.setSrc k x).nextFid = s.nextFid
    ∧ (s.setSrc k x).egress = s.egress ∧ (s.setSrc k x).links = s.links ∧ (s.setSrc k x).derrq = s.derrq
    ∧ (s.setSrc k x).lastRec = s.lastRec ∧ (s.setSrc k x).wstack = s.wstack ∧ (s.setSrc k x).saEvt = s.saEvt
    ∧ (s.setSrc k x).bitmap = s.bitmap ∧ (s.setSrc k x).chosen = s.chosen ∧ (s.setSrc k x).decAt = s.decAt
    ∧ (s.setSrc k x).decN = s.decN ∧ (s.setSrc k x).tfree = s.tfree ∧ (s.setSrc k x).spillFree = s.spillFree
    ∧ (s.setSrc k x).rot = s.rot ∧ (s.setSrc k x).dma = s.dma ∧ (s.setSrc k x).dmaServed = s.dmaServed
    ∧ (s.setSrc k x).rport = s.rport ∧ (s.setSrc k x).ring = s.ring ∧ (s.setSrc k x).pwrq = s.pwrq
    ∧ (s.setSrc k x).pwrAt = s.pwrAt ∧ (s.setSrc k x).clk = s.clk ∧ (s.setSrc k x).memwin = s.memwin
    ∧ (s.setSrc k x).warden = s.warden ∧ (s.setSrc k x).mbx = s.mbx ∧ (s.setSrc k x).vault = s.vault
    ∧ (s.setSrc k x).root = s.root ∧ (s.setSrc k x).fuses = s.fuses ∧ (s.setSrc k x).flash = s.flash
    ∧ (s.setSrc k x).msixTab = s.msixTab ∧ (s.setSrc k x).msixPba = s.msixPba ∧ (s.setSrc k x).msixHold = s.msixHold
    ∧ (s.setSrc k x).out = s.out ∧ (s.setSrc k x).pending = s.pending := by
  repeat' constructor

/-- emit changes out alone. -/
@[simp] theorem State.emit_fields (s : State) (o : Out) :
    (s.emit o).now = s.now ∧ (s.emit o).free = s.free ∧ (s.emit o).regs = s.regs ∧ (s.emit o).hold = s.hold
    ∧ (s.emit o).cap = s.cap ∧ (s.emit o).recCap = s.recCap ∧ (s.emit o).wlog = s.wlog ∧ (s.emit o).wlogAt = s.wlogAt
    ∧ (s.emit o).cores = s.cores ∧ (s.emit o).cl = s.cl ∧ (s.emit o).rx = s.rx ∧ (s.emit o).calFails = s.calFails
    ∧ (s.emit o).cut = s.cut ∧ (s.emit o).frames = s.frames ∧ (s.emit o).nextFid = s.nextFid
    ∧ (s.emit o).egress = s.egress ∧ (s.emit o).links = s.links ∧ (s.emit o).srcs = s.srcs
    ∧ (s.emit o).derrq = s.derrq ∧ (s.emit o).lastRec = s.lastRec ∧ (s.emit o).wstack = s.wstack
    ∧ (s.emit o).saEvt = s.saEvt ∧ (s.emit o).bitmap = s.bitmap ∧ (s.emit o).chosen = s.chosen
    ∧ (s.emit o).decAt = s.decAt ∧ (s.emit o).decN = s.decN ∧ (s.emit o).tfree = s.tfree
    ∧ (s.emit o).spillFree = s.spillFree ∧ (s.emit o).rot = s.rot ∧ (s.emit o).dma = s.dma
    ∧ (s.emit o).dmaServed = s.dmaServed ∧ (s.emit o).rport = s.rport ∧ (s.emit o).ring = s.ring
    ∧ (s.emit o).pwrq = s.pwrq ∧ (s.emit o).pwrAt = s.pwrAt ∧ (s.emit o).clk = s.clk ∧ (s.emit o).memwin = s.memwin
    ∧ (s.emit o).warden = s.warden ∧ (s.emit o).mbx = s.mbx ∧ (s.emit o).vault = s.vault ∧ (s.emit o).root = s.root
    ∧ (s.emit o).fuses = s.fuses ∧ (s.emit o).flash = s.flash ∧ (s.emit o).msixTab = s.msixTab
    ∧ (s.emit o).msixPba = s.msixPba ∧ (s.emit o).msixHold = s.msixHold ∧ (s.emit o).pending = s.pending := by
  repeat' constructor

/-- upTo changes now alone. -/
@[simp] theorem State.upTo_fields (s : State) (t : Nat) :
    (s.upTo t).free = s.free ∧ (s.upTo t).regs = s.regs ∧ (s.upTo t).hold = s.hold ∧ (s.upTo t).cap = s.cap
    ∧ (s.upTo t).recCap = s.recCap ∧ (s.upTo t).wlog = s.wlog ∧ (s.upTo t).wlogAt = s.wlogAt
    ∧ (s.upTo t).cores = s.cores ∧ (s.upTo t).cl = s.cl ∧ (s.upTo t).rx = s.rx ∧ (s.upTo t).calFails = s.calFails
    ∧ (s.upTo t).cut = s.cut ∧ (s.upTo t).frames = s.frames ∧ (s.upTo t).nextFid = s.nextFid
    ∧ (s.upTo t).egress = s.egress ∧ (s.upTo t).links = s.links ∧ (s.upTo t).srcs = s.srcs
    ∧ (s.upTo t).derrq = s.derrq ∧ (s.upTo t).lastRec = s.lastRec ∧ (s.upTo t).wstack = s.wstack
    ∧ (s.upTo t).saEvt = s.saEvt ∧ (s.upTo t).bitmap = s.bitmap ∧ (s.upTo t).chosen = s.chosen
    ∧ (s.upTo t).decAt = s.decAt ∧ (s.upTo t).decN = s.decN ∧ (s.upTo t).tfree = s.tfree
    ∧ (s.upTo t).spillFree = s.spillFree ∧ (s.upTo t).rot = s.rot ∧ (s.upTo t).dma = s.dma
    ∧ (s.upTo t).dmaServed = s.dmaServed ∧ (s.upTo t).rport = s.rport ∧ (s.upTo t).ring = s.ring
    ∧ (s.upTo t).pwrq = s.pwrq ∧ (s.upTo t).pwrAt = s.pwrAt ∧ (s.upTo t).clk = s.clk ∧ (s.upTo t).memwin = s.memwin
    ∧ (s.upTo t).warden = s.warden ∧ (s.upTo t).mbx = s.mbx ∧ (s.upTo t).vault = s.vault ∧ (s.upTo t).root = s.root
    ∧ (s.upTo t).fuses = s.fuses ∧ (s.upTo t).flash = s.flash ∧ (s.upTo t).msixTab = s.msixTab
    ∧ (s.upTo t).msixPba = s.msixPba ∧ (s.upTo t).msixHold = s.msixHold ∧ (s.upTo t).out = s.out
    ∧ (s.upTo t).pending = s.pending := by
  repeat' constructor

/-- setTfree changes tfree alone. -/
@[simp] theorem State.setTfree_fields (s : State) (g : Nat) (w : Word) :
    (s.setTfree g w).now = s.now ∧ (s.setTfree g w).free = s.free ∧ (s.setTfree g w).regs = s.regs
    ∧ (s.setTfree g w).hold = s.hold ∧ (s.setTfree g w).cap = s.cap ∧ (s.setTfree g w).recCap = s.recCap
    ∧ (s.setTfree g w).wlog = s.wlog ∧ (s.setTfree g w).wlogAt = s.wlogAt ∧ (s.setTfree g w).cores = s.cores
    ∧ (s.setTfree g w).cl = s.cl ∧ (s.setTfree g w).rx = s.rx ∧ (s.setTfree g w).calFails = s.calFails
    ∧ (s.setTfree g w).cut = s.cut ∧ (s.setTfree g w).frames = s.frames ∧ (s.setTfree g w).nextFid = s.nextFid
    ∧ (s.setTfree g w).egress = s.egress ∧ (s.setTfree g w).links = s.links ∧ (s.setTfree g w).srcs = s.srcs
    ∧ (s.setTfree g w).derrq = s.derrq ∧ (s.setTfree g w).lastRec = s.lastRec ∧ (s.setTfree g w).wstack = s.wstack
    ∧ (s.setTfree g w).saEvt = s.saEvt ∧ (s.setTfree g w).bitmap = s.bitmap ∧ (s.setTfree g w).chosen = s.chosen
    ∧ (s.setTfree g w).decAt = s.decAt ∧ (s.setTfree g w).decN = s.decN ∧ (s.setTfree g w).spillFree = s.spillFree
    ∧ (s.setTfree g w).rot = s.rot ∧ (s.setTfree g w).dma = s.dma ∧ (s.setTfree g w).dmaServed = s.dmaServed
    ∧ (s.setTfree g w).rport = s.rport ∧ (s.setTfree g w).ring = s.ring ∧ (s.setTfree g w).pwrq = s.pwrq
    ∧ (s.setTfree g w).pwrAt = s.pwrAt ∧ (s.setTfree g w).clk = s.clk ∧ (s.setTfree g w).memwin = s.memwin
    ∧ (s.setTfree g w).warden = s.warden ∧ (s.setTfree g w).mbx = s.mbx ∧ (s.setTfree g w).vault = s.vault
    ∧ (s.setTfree g w).root = s.root ∧ (s.setTfree g w).fuses = s.fuses ∧ (s.setTfree g w).flash = s.flash
    ∧ (s.setTfree g w).msixTab = s.msixTab ∧ (s.setTfree g w).msixPba = s.msixPba
    ∧ (s.setTfree g w).msixHold = s.msixHold ∧ (s.setTfree g w).out = s.out ∧ (s.setTfree g w).pending = s.pending := by
  repeat' constructor

/-- setRp changes rport alone. -/
@[simp] theorem State.setRp_fields (s : State) (d : Nat) (p : RPortSt) :
    (s.setRp d p).now = s.now ∧ (s.setRp d p).free = s.free ∧ (s.setRp d p).regs = s.regs
    ∧ (s.setRp d p).hold = s.hold ∧ (s.setRp d p).cap = s.cap ∧ (s.setRp d p).recCap = s.recCap
    ∧ (s.setRp d p).wlog = s.wlog ∧ (s.setRp d p).wlogAt = s.wlogAt ∧ (s.setRp d p).cores = s.cores
    ∧ (s.setRp d p).cl = s.cl ∧ (s.setRp d p).rx = s.rx ∧ (s.setRp d p).calFails = s.calFails
    ∧ (s.setRp d p).cut = s.cut ∧ (s.setRp d p).frames = s.frames ∧ (s.setRp d p).nextFid = s.nextFid
    ∧ (s.setRp d p).egress = s.egress ∧ (s.setRp d p).links = s.links ∧ (s.setRp d p).srcs = s.srcs
    ∧ (s.setRp d p).derrq = s.derrq ∧ (s.setRp d p).lastRec = s.lastRec ∧ (s.setRp d p).wstack = s.wstack
    ∧ (s.setRp d p).saEvt = s.saEvt ∧ (s.setRp d p).bitmap = s.bitmap ∧ (s.setRp d p).chosen = s.chosen
    ∧ (s.setRp d p).decAt = s.decAt ∧ (s.setRp d p).decN = s.decN ∧ (s.setRp d p).tfree = s.tfree
    ∧ (s.setRp d p).spillFree = s.spillFree ∧ (s.setRp d p).rot = s.rot ∧ (s.setRp d p).dma = s.dma
    ∧ (s.setRp d p).dmaServed = s.dmaServed ∧ (s.setRp d p).ring = s.ring ∧ (s.setRp d p).pwrq = s.pwrq
    ∧ (s.setRp d p).pwrAt = s.pwrAt ∧ (s.setRp d p).clk = s.clk ∧ (s.setRp d p).memwin = s.memwin
    ∧ (s.setRp d p).warden = s.warden ∧ (s.setRp d p).mbx = s.mbx ∧ (s.setRp d p).vault = s.vault
    ∧ (s.setRp d p).root = s.root ∧ (s.setRp d p).fuses = s.fuses ∧ (s.setRp d p).flash = s.flash
    ∧ (s.setRp d p).msixTab = s.msixTab ∧ (s.setRp d p).msixPba = s.msixPba ∧ (s.setRp d p).msixHold = s.msixHold
    ∧ (s.setRp d p).out = s.out ∧ (s.setRp d p).pending = s.pending := by
  repeat' constructor

/-- core reads what setCore wrote. -/
@[simp] theorem State.core_setCore (s : State) (i : Nat) (x : Core) : (s.setCore i x).core i = x := SMap.get_set_same _ _ _ _

/-- core of another number is as before. -/
theorem State.core_setCore_ne (s : State) (i j : Nat) (x : Core) (h : j ≠ i) : (s.setCore i x).core j = s.core j :=
  SMap.get_set_ne _ _ _ _ _ h

/-- clu reads what setClu wrote. -/
@[simp] theorem State.clu_setClu (s : State) (i : Nat) (x : Cluster) : (s.setClu i x).clu i = x := SMap.get_set_same _ _ _ _

/-- clu of another number is as before. -/
theorem State.clu_setClu_ne (s : State) (i j : Nat) (x : Cluster) (h : j ≠ i) : (s.setClu i x).clu j = s.clu j :=
  SMap.get_set_ne _ _ _ _ _ h

/-- frame reads what setFrame wrote. -/
@[simp] theorem State.frame_setFrame (s : State) (i : Nat) (x : Frame) : (s.setFrame i x).frame i = x := SMap.get_set_same _ _ _ _

/-- frame of another number is as before. -/
theorem State.frame_setFrame_ne (s : State) (i j : Nat) (x : Frame) (h : j ≠ i) : (s.setFrame i x).frame j = s.frame j :=
  SMap.get_set_ne _ _ _ _ _ h

/-- rxOf reads what setRx wrote. -/
@[simp] theorem State.rxOf_setRx (s : State) (i : Nat) (x : Rx) : (s.setRx i x).rxOf i = x := SMap.get_set_same _ _ _ _

/-- rxOf of another number is as before. -/
theorem State.rxOf_setRx_ne (s : State) (i j : Nat) (x : Rx) (h : j ≠ i) : (s.setRx i x).rxOf j = s.rxOf j :=
  SMap.get_set_ne _ _ _ _ _ h

/-- egr reads what setEgr wrote. -/
@[simp] theorem State.egr_setEgr (s : State) (i : Nat) (x : Egress) : (s.setEgr i x).egr i = x := SMap.get_set_same _ _ _ _

/-- egr of another number is as before. -/
theorem State.egr_setEgr_ne (s : State) (i j : Nat) (x : Egress) (h : j ≠ i) : (s.setEgr i x).egr j = s.egr j :=
  SMap.get_set_ne _ _ _ _ _ h

/-- link reads what setLink wrote. -/
@[simp] theorem State.link_setLink (s : State) (i : Nat) (x : Link) : (s.setLink i x).link i = x := SMap.get_set_same _ _ _ _

/-- link of another number is as before. -/
theorem State.link_setLink_ne (s : State) (i j : Nat) (x : Link) (h : j ≠ i) : (s.setLink i x).link j = s.link j :=
  SMap.get_set_ne _ _ _ _ _ h

/-- rotOf reads what setRot wrote. -/
@[simp] theorem State.rotOf_setRot (s : State) (i : Nat) (x : Rot) : (s.setRot i x).rotOf i = x := SMap.get_set_same _ _ _ _

/-- rotOf of another number is as before. -/
theorem State.rotOf_setRot_ne (s : State) (i j : Nat) (x : Rot) (h : j ≠ i) : (s.setRot i x).rotOf j = s.rotOf j :=
  SMap.get_set_ne _ _ _ _ _ h

/-- src reads what setSrc wrote. -/
@[simp] theorem State.src_setSrc (s : State) (i : Nat) (x : Src) : (s.setSrc i x).src i = x := SMap.get_set_same _ _ _ _

/-- src of another number is as before. -/
theorem State.src_setSrc_ne (s : State) (i j : Nat) (x : Src) (h : j ≠ i) : (s.setSrc i x).src j = s.src j :=
  SMap.get_set_ne _ _ _ _ _ h

/-- rp reads what setRp wrote. -/
@[simp] theorem State.rp_setRp (s : State) (i : Nat) (x : RPortSt) : (s.setRp i x).rp i = x := SMap.get_set_same _ _ _ _

/-- rp of another number is as before. -/
theorem State.rp_setRp_ne (s : State) (i j : Nat) (x : RPortSt) (h : j ≠ i) : (s.setRp i x).rp j = s.rp j :=
  SMap.get_set_ne _ _ _ _ _ h

/-- tfreeOf reads what setTfree wrote. -/
@[simp] theorem State.tfreeOf_setTfree (s : State) (i : Nat) (x : Word) : (s.setTfree i x).tfreeOf i = x := SMap.get_set_same _ _ _ _

/-- tfreeOf of another number is as before. -/
theorem State.tfreeOf_setTfree_ne (s : State) (i j : Nat) (x : Word) (h : j ≠ i) : (s.setTfree i x).tfreeOf j = s.tfreeOf j :=
  SMap.get_set_ne _ _ _ _ _ h

/-- The accessors that wr leaves alone. -/
@[simp] theorem State.wr_reads (s : State) (off : Nat) (w : Word) :
    (∀ i, (s.wr off w).core i = s.core i) ∧ (∀ i, (s.wr off w).clu i = s.clu i)
    ∧ (∀ i, (s.wr off w).frame i = s.frame i) ∧ (∀ i, (s.wr off w).rxOf i = s.rxOf i)
    ∧ (∀ i, (s.wr off w).egr i = s.egr i) ∧ (∀ i, (s.wr off w).link i = s.link i)
    ∧ (∀ i, (s.wr off w).rotOf i = s.rotOf i) ∧ (∀ i, (s.wr off w).src i = s.src i)
    ∧ (∀ i, (s.wr off w).rp i = s.rp i) ∧ (∀ i, (s.wr off w).tfreeOf i = s.tfreeOf i) := by
  refine ⟨fun _ => rfl, fun _ => rfl, fun _ => rfl, fun _ => rfl, fun _ => rfl, fun _ => rfl, fun _ => rfl, fun _ => rfl, fun _ => rfl, fun _ => rfl⟩

/-- The accessors that setCore leaves alone. -/
@[simp] theorem State.setCore_reads (s : State) (g : Nat) (c : Core) :
    (∀ i, (s.setCore g c).clu i = s.clu i) ∧ (∀ i, (s.setCore g c).frame i = s.frame i)
    ∧ (∀ i, (s.setCore g c).rxOf i = s.rxOf i) ∧ (∀ i, (s.setCore g c).egr i = s.egr i)
    ∧ (∀ i, (s.setCore g c).link i = s.link i) ∧ (∀ i, (s.setCore g c).rotOf i = s.rotOf i)
    ∧ (∀ i, (s.setCore g c).src i = s.src i) ∧ (∀ i, (s.setCore g c).rp i = s.rp i)
    ∧ (∀ i, (s.setCore g c).tfreeOf i = s.tfreeOf i) ∧ (∀ i, (s.setCore g c).rd i = s.rd i) := by
  refine ⟨fun _ => rfl, fun _ => rfl, fun _ => rfl, fun _ => rfl, fun _ => rfl, fun _ => rfl, fun _ => rfl, fun _ => rfl, fun _ => rfl, fun _ => rfl⟩

/-- The accessors that setClu leaves alone. -/
@[simp] theorem State.setClu_reads (s : State) (c : Nat) (x : Cluster) :
    (∀ i, (s.setClu c x).core i = s.core i) ∧ (∀ i, (s.setClu c x).frame i = s.frame i)
    ∧ (∀ i, (s.setClu c x).rxOf i = s.rxOf i) ∧ (∀ i, (s.setClu c x).egr i = s.egr i)
    ∧ (∀ i, (s.setClu c x).link i = s.link i) ∧ (∀ i, (s.setClu c x).rotOf i = s.rotOf i)
    ∧ (∀ i, (s.setClu c x).src i = s.src i) ∧ (∀ i, (s.setClu c x).rp i = s.rp i)
    ∧ (∀ i, (s.setClu c x).tfreeOf i = s.tfreeOf i) ∧ (∀ i, (s.setClu c x).rd i = s.rd i) := by
  refine ⟨fun _ => rfl, fun _ => rfl, fun _ => rfl, fun _ => rfl, fun _ => rfl, fun _ => rfl, fun _ => rfl, fun _ => rfl, fun _ => rfl, fun _ => rfl⟩

/-- The accessors that setFrame leaves alone. -/
@[simp] theorem State.setFrame_reads (s : State) (f : Nat) (x : Frame) :
    (∀ i, (s.setFrame f x).core i = s.core i) ∧ (∀ i, (s.setFrame f x).clu i = s.clu i)
    ∧ (∀ i, (s.setFrame f x).rxOf i = s.rxOf i) ∧ (∀ i, (s.setFrame f x).egr i = s.egr i)
    ∧ (∀ i, (s.setFrame f x).link i = s.link i) ∧ (∀ i, (s.setFrame f x).rotOf i = s.rotOf i)
    ∧ (∀ i, (s.setFrame f x).src i = s.src i) ∧ (∀ i, (s.setFrame f x).rp i = s.rp i)
    ∧ (∀ i, (s.setFrame f x).tfreeOf i = s.tfreeOf i) ∧ (∀ i, (s.setFrame f x).rd i = s.rd i) := by
  refine ⟨fun _ => rfl, fun _ => rfl, fun _ => rfl, fun _ => rfl, fun _ => rfl, fun _ => rfl, fun _ => rfl, fun _ => rfl, fun _ => rfl, fun _ => rfl⟩

/-- The accessors that setRx leaves alone. -/
@[simp] theorem State.setRx_reads (s : State) (k : Nat) (x : Rx) :
    (∀ i, (s.setRx k x).core i = s.core i) ∧ (∀ i, (s.setRx k x).clu i = s.clu i)
    ∧ (∀ i, (s.setRx k x).frame i = s.frame i) ∧ (∀ i, (s.setRx k x).egr i = s.egr i)
    ∧ (∀ i, (s.setRx k x).link i = s.link i) ∧ (∀ i, (s.setRx k x).rotOf i = s.rotOf i)
    ∧ (∀ i, (s.setRx k x).src i = s.src i) ∧ (∀ i, (s.setRx k x).rp i = s.rp i)
    ∧ (∀ i, (s.setRx k x).tfreeOf i = s.tfreeOf i) ∧ (∀ i, (s.setRx k x).rd i = s.rd i) := by
  refine ⟨fun _ => rfl, fun _ => rfl, fun _ => rfl, fun _ => rfl, fun _ => rfl, fun _ => rfl, fun _ => rfl, fun _ => rfl, fun _ => rfl, fun _ => rfl⟩

/-- The accessors that setEgr leaves alone. -/
@[simp] theorem State.setEgr_reads (s : State) (k : Nat) (x : Egress) :
    (∀ i, (s.setEgr k x).core i = s.core i) ∧ (∀ i, (s.setEgr k x).clu i = s.clu i)
    ∧ (∀ i, (s.setEgr k x).frame i = s.frame i) ∧ (∀ i, (s.setEgr k x).rxOf i = s.rxOf i)
    ∧ (∀ i, (s.setEgr k x).link i = s.link i) ∧ (∀ i, (s.setEgr k x).rotOf i = s.rotOf i)
    ∧ (∀ i, (s.setEgr k x).src i = s.src i) ∧ (∀ i, (s.setEgr k x).rp i = s.rp i)
    ∧ (∀ i, (s.setEgr k x).tfreeOf i = s.tfreeOf i) ∧ (∀ i, (s.setEgr k x).rd i = s.rd i) := by
  refine ⟨fun _ => rfl, fun _ => rfl, fun _ => rfl, fun _ => rfl, fun _ => rfl, fun _ => rfl, fun _ => rfl, fun _ => rfl, fun _ => rfl, fun _ => rfl⟩

/-- The accessors that setLink leaves alone. -/
@[simp] theorem State.setLink_reads (s : State) (k : Nat) (x : Link) :
    (∀ i, (s.setLink k x).core i = s.core i) ∧ (∀ i, (s.setLink k x).clu i = s.clu i)
    ∧ (∀ i, (s.setLink k x).frame i = s.frame i) ∧ (∀ i, (s.setLink k x).rxOf i = s.rxOf i)
    ∧ (∀ i, (s.setLink k x).egr i = s.egr i) ∧ (∀ i, (s.setLink k x).rotOf i = s.rotOf i)
    ∧ (∀ i, (s.setLink k x).src i = s.src i) ∧ (∀ i, (s.setLink k x).rp i = s.rp i)
    ∧ (∀ i, (s.setLink k x).tfreeOf i = s.tfreeOf i) ∧ (∀ i, (s.setLink k x).rd i = s.rd i) := by
  refine ⟨fun _ => rfl, fun _ => rfl, fun _ => rfl, fun _ => rfl, fun _ => rfl, fun _ => rfl, fun _ => rfl, fun _ => rfl, fun _ => rfl, fun _ => rfl⟩

/-- The accessors that setRot leaves alone. -/
@[simp] theorem State.setRot_reads (s : State) (g : Nat) (x : Rot) :
    (∀ i, (s.setRot g x).core i = s.core i) ∧ (∀ i, (s.setRot g x).clu i = s.clu i)
    ∧ (∀ i, (s.setRot g x).frame i = s.frame i) ∧ (∀ i, (s.setRot g x).rxOf i = s.rxOf i)
    ∧ (∀ i, (s.setRot g x).egr i = s.egr i) ∧ (∀ i, (s.setRot g x).link i = s.link i)
    ∧ (∀ i, (s.setRot g x).src i = s.src i) ∧ (∀ i, (s.setRot g x).rp i = s.rp i)
    ∧ (∀ i, (s.setRot g x).tfreeOf i = s.tfreeOf i) ∧ (∀ i, (s.setRot g x).rd i = s.rd i) := by
  refine ⟨fun _ => rfl, fun _ => rfl, fun _ => rfl, fun _ => rfl, fun _ => rfl, fun _ => rfl, fun _ => rfl, fun _ => rfl, fun _ => rfl, fun _ => rfl⟩

/-- The accessors that setSrc leaves alone. -/
@[simp] theorem State.setSrc_reads (s : State) (k : Nat) (x : Src) :
    (∀ i, (s.setSrc k x).core i = s.core i) ∧ (∀ i, (s.setSrc k x).clu i = s.clu i)
    ∧ (∀ i, (s.setSrc k x).frame i = s.frame i) ∧ (∀ i, (s.setSrc k x).rxOf i = s.rxOf i)
    ∧ (∀ i, (s.setSrc k x).egr i = s.egr i) ∧ (∀ i, (s.setSrc k x).link i = s.link i)
    ∧ (∀ i, (s.setSrc k x).rotOf i = s.rotOf i) ∧ (∀ i, (s.setSrc k x).rp i = s.rp i)
    ∧ (∀ i, (s.setSrc k x).tfreeOf i = s.tfreeOf i) ∧ (∀ i, (s.setSrc k x).rd i = s.rd i) := by
  refine ⟨fun _ => rfl, fun _ => rfl, fun _ => rfl, fun _ => rfl, fun _ => rfl, fun _ => rfl, fun _ => rfl, fun _ => rfl, fun _ => rfl, fun _ => rfl⟩

/-- The accessors that emit leaves alone. -/
@[simp] theorem State.emit_reads (s : State) (o : Out) :
    (∀ i, (s.emit o).core i = s.core i) ∧ (∀ i, (s.emit o).clu i = s.clu i) ∧ (∀ i, (s.emit o).frame i = s.frame i)
    ∧ (∀ i, (s.emit o).rxOf i = s.rxOf i) ∧ (∀ i, (s.emit o).egr i = s.egr i) ∧ (∀ i, (s.emit o).link i = s.link i)
    ∧ (∀ i, (s.emit o).rotOf i = s.rotOf i) ∧ (∀ i, (s.emit o).src i = s.src i) ∧ (∀ i, (s.emit o).rp i = s.rp i)
    ∧ (∀ i, (s.emit o).tfreeOf i = s.tfreeOf i) ∧ (∀ i, (s.emit o).rd i = s.rd i) := by
  refine ⟨fun _ => rfl, fun _ => rfl, fun _ => rfl, fun _ => rfl, fun _ => rfl, fun _ => rfl, fun _ => rfl, fun _ => rfl, fun _ => rfl, fun _ => rfl, fun _ => rfl⟩

/-- The accessors that upTo leaves alone. -/
@[simp] theorem State.upTo_reads (s : State) (t : Nat) :
    (∀ i, (s.upTo t).core i = s.core i) ∧ (∀ i, (s.upTo t).clu i = s.clu i) ∧ (∀ i, (s.upTo t).frame i = s.frame i)
    ∧ (∀ i, (s.upTo t).rxOf i = s.rxOf i) ∧ (∀ i, (s.upTo t).egr i = s.egr i) ∧ (∀ i, (s.upTo t).link i = s.link i)
    ∧ (∀ i, (s.upTo t).rotOf i = s.rotOf i) ∧ (∀ i, (s.upTo t).src i = s.src i) ∧ (∀ i, (s.upTo t).rp i = s.rp i)
    ∧ (∀ i, (s.upTo t).tfreeOf i = s.tfreeOf i) ∧ (∀ i, (s.upTo t).rd i = s.rd i) := by
  refine ⟨fun _ => rfl, fun _ => rfl, fun _ => rfl, fun _ => rfl, fun _ => rfl, fun _ => rfl, fun _ => rfl, fun _ => rfl, fun _ => rfl, fun _ => rfl, fun _ => rfl⟩

/-- The accessors that setTfree leaves alone. -/
@[simp] theorem State.setTfree_reads (s : State) (g : Nat) (w : Word) :
    (∀ i, (s.setTfree g w).core i = s.core i) ∧ (∀ i, (s.setTfree g w).clu i = s.clu i)
    ∧ (∀ i, (s.setTfree g w).frame i = s.frame i) ∧ (∀ i, (s.setTfree g w).rxOf i = s.rxOf i)
    ∧ (∀ i, (s.setTfree g w).egr i = s.egr i) ∧ (∀ i, (s.setTfree g w).link i = s.link i)
    ∧ (∀ i, (s.setTfree g w).rotOf i = s.rotOf i) ∧ (∀ i, (s.setTfree g w).src i = s.src i)
    ∧ (∀ i, (s.setTfree g w).rp i = s.rp i) ∧ (∀ i, (s.setTfree g w).rd i = s.rd i) := by
  refine ⟨fun _ => rfl, fun _ => rfl, fun _ => rfl, fun _ => rfl, fun _ => rfl, fun _ => rfl, fun _ => rfl, fun _ => rfl, fun _ => rfl, fun _ => rfl⟩

/-- The accessors that setRp leaves alone. -/
@[simp] theorem State.setRp_reads (s : State) (d : Nat) (p : RPortSt) :
    (∀ i, (s.setRp d p).core i = s.core i) ∧ (∀ i, (s.setRp d p).clu i = s.clu i)
    ∧ (∀ i, (s.setRp d p).frame i = s.frame i) ∧ (∀ i, (s.setRp d p).rxOf i = s.rxOf i)
    ∧ (∀ i, (s.setRp d p).egr i = s.egr i) ∧ (∀ i, (s.setRp d p).link i = s.link i)
    ∧ (∀ i, (s.setRp d p).rotOf i = s.rotOf i) ∧ (∀ i, (s.setRp d p).src i = s.src i)
    ∧ (∀ i, (s.setRp d p).tfreeOf i = s.tfreeOf i) ∧ (∀ i, (s.setRp d p).rd i = s.rd i) := by
  refine ⟨fun _ => rfl, fun _ => rfl, fun _ => rfl, fun _ => rfl, fun _ => rfl, fun _ => rfl, fun _ => rfl, fun _ => rfl, fun _ => rfl, fun _ => rfl⟩

/-- A register reads what was written to it. -/
@[simp] theorem State.rd_wr (s : State) (off : Nat) (w : Word) : (s.wr off w).rd off = w := by
  simp only [State.rd, State.wr, SMap.get_set_same]
  split
  · next v h => split at h <;> simp_all
  · next h => split at h <;> simp_all

/-- Every other register reads as before. -/
theorem State.rd_wr_ne (s : State) (off o : Nat) (w : Word) (h : o ≠ off) : (s.wr off w).rd o = s.rd o := by
  simp only [State.rd, State.wr, SMap.get_set_ne _ _ _ _ _ h]

/-- A field reads what was set in it. -/
theorem State.fld_setFld (s : State) (off : Nat) (f : Fld) (n : Nat) (hlo : f.lo ≤ f.hi) (hhi : f.hi < 32) :
    (s.setFld off f n).fld off f = n % 2 ^ f.width := by
  simp only [State.fld, State.setFld, State.rd_wr, Word.fld_setFld _ _ _ hlo hhi]

/-- Another field of the register reads as before. -/
theorem State.fld_setFld_ne (s : State) (off : Nat) (f g : Fld) (n : Nat) (hf : f.lo ≤ f.hi)
    (h : g.hi < f.lo ∨ f.hi < g.lo) (hg : g.lo ≤ g.hi) : (s.setFld off f n).fld off g = s.fld off g := by
  simp only [State.fld, State.setFld, State.rd_wr, Word.fld_setFld_ne _ _ _ _ hf h hg]

/-- A field of another register reads as before. -/
theorem State.fld_setFld_off (s : State) (off o : Nat) (f g : Fld) (n : Nat) (h : o ≠ off) :
    (s.setFld off f n).fld o g = s.fld o g := by
  simp only [State.fld, State.setFld, State.rd_wr_ne _ _ _ _ h]

/-- A one-bit field reads what was set in it. -/
theorem State.flag_setFlag (s : State) (off i : Nat) (b : Bool) (hi : i < 32) :
    (s.setFlag off ⟨i, i⟩ b).flag off ⟨i, i⟩ = b := by
  simp only [State.flag, State.setFlag, State.fld_setFld _ _ ⟨i, i⟩ _ (Nat.le_refl i) hi]
  cases b <;> simp [b2n, Fld.width]

/-- A 64-bit register reads what was written to it. -/
theorem State.rd64_wr64 (s : State) (off v : Nat) (h : v < 2 ^ 64) : (s.wr64 off v).rd64 off = v := by
  simp only [State.rd64, State.wr64, State.rd_wr]
  rw [State.rd_wr_ne _ _ _ _ (by omega), State.rd_wr]
  simp only [BitVec.toNat_ofNat]
  omega

/-- Counting one in a 64-bit counter counts one, modulo 2^64 (R65). -/
theorem State.rd64_inc64 (s : State) (off : Nat) : (s.inc64 off).rd64 off = (s.rd64 off + 1) % 2 ^ 64 := by
  simp only [State.inc64, State.add64]
  exact State.rd64_wr64 _ _ _ (Nat.mod_lt _ (by decide))

/-- A word outside the counter reads as before. -/
theorem State.rd_inc64_ne (s : State) (off o : Nat) (h : o ≠ off) (h' : o ≠ off + 4) : (s.inc64 off).rd o = s.rd o := by
  simp only [State.inc64, State.add64, State.wr64]
  rw [State.rd_wr_ne _ _ _ _ h', State.rd_wr_ne _ _ _ _ h]

end Sys2Proof.Machine
end

