-- ==== Sys2Proof/Laws/Issue.lean ====
section
/-! SUPPORT. What issuing one operation does, said once: the command is the operation's issue, the conditions of
`State.issues` lead to `State.issueOk`, and there an operation with results alone only puts them in flight. -/

namespace Sys2Proof.Machine
open Sys2Proof

/-- A command that is an operation of a core is the issue of that operation alone. -/
theorem exec_coreOp (i : Instr) (s : State) (g : CoreId) (sl : Slot) (op : Op) (h : coreOp i = some (g, sl, op)) :
    exec i s = s.issueOne g sl op := by
  cases i <;> first | (cases h; rfl) | (cases h; done)

/-- Under the conditions of `State.issues` nothing stands between the boundary and the operation. -/
theorem State.issue_issues (s : State) (g : Nat) (sl : Slot) (op : Op) (h : s.issues g sl op = true) :
    s.issue g (some (sl, op)) .ok .ok = (s.toBoundary g).issueOk g ⟨[(sl, op)], 4 * opSyllables op⟩ .ok := by
  simp only [State.issues, Bool.and_eq_true, Bool.not_eq_true', decide_eq_true_eq, beq_iff_eq, Option.isNone_iff_eq_none]
    at h
  obtain ⟨⟨⟨⟨⟨⟨⟨⟨⟨⟨⟨⟨⟨⟨⟨hl, hv⟩, hb⟩, hr⟩, ha⟩, hp⟩, hq⟩, hk⟩, hs⟩, ho⟩, hd⟩, hst⟩, hpr⟩, ht⟩, hx⟩, hf⟩ := h
  have here : ((s.toBoundary g).core g).bundleHere (some (sl, op)) = some ⟨[(sl, op)], 4 * opSyllables op⟩ := by
    simp [Core.bundleHere, hs, ho]
  have tint : ((s.toBoundary g).core g).tintFault [(sl, op)] = none := by
    simp [Core.tintFault, List.find?, ht]
  have retx : (if op == Op.retx then ((s.toBoundary g).core g).retxFault else none) = none := by
    cases hop : (op == Op.retx)
    · rfl
    · simp only [beq_iff_eq] at hop
      subst hop
      simpa using hx
  simp only [State.issue, hl, Bool.not_true, Bool.false_eq_true, if_false, hv, Option.isSome_none, hb]
  simp only [State.issueAt, here, hr, Option.isSome_none, Bool.false_and, Bool.not_false, Bool.and_true, ha,
    Bool.false_eq_true, if_false, Option.getD_none, List.contains_nil, List.filter_cons, List.filter_nil, if_true,
    List.length_singleton, hp, hk, List.any_cons, List.any_nil, Bool.or_false]
  simp only [Core.succOf] at hd hst hf
  have hq' : ¬ (131072 ≤ ((s.toBoundary g).core g).pc.toNat) := by omega
  simp only [Core.asMaker, Bool.false_eq_true, if_false, hq', decide_false, Bool.false_or, bne_self_eq_false, hd, hst, hpr, tint, retx, hf,
    ne_eq, not_true_eq_false, Bool.not_true, beq_self_eq_true, if_true]
  simp


/-- An operation all of whose effect is the results it puts in flight. -/
def opPlain (op : Op) : Bool :=
  match op with
  | .nop => true
  | .alu _ _ _ _ => true
  | .sel _ _ _ => true
  | .cmp _ _ _ _ _ => true
  | .ext _ _ _ => true
  | .clz _ _ => true
  | .popc _ _ => true
  | .alui _ _ _ _ => true
  | .shi _ _ _ _ => true
  | .mfc _ _ => true
  | .div _ _ _ _ => true
  | .declass _ _ => true
  | .rclr _ _ => true
  | .lea _ _ _ => true
  | .amod _ => true
  | .movta _ _ => true
  | .movfa _ _ => true
  | .mul _ _ _ => true
  | .mac _ _ _ _ _ => true
  | .mfa _ _ _ _ _ => true
  | .mta _ _ _ => true
  | .accadd _ _ _ => true
  | .mulw16 _ _ _ _ => true
  | .mulw32 _ _ _ _ => true
  | .macw _ _ _ _ => true
  | .dot4b _ _ _ _ _ => true
  | .dot4h _ _ _ _ => true
  | .mmad _ _ _ _ _ => true
  | .vop _ _ => true
  | .vshi _ _ => true
  | .vdupg _ => true
  | .vdeclass _ _ _ => true
  | .vrclr _ _ _ => true
  | _ => false

/-- What every bundle leaves alone as it ends its issue cycle and moves on. -/
structure Core.Moves (c c' : Core) : Prop extends Core.Keeps c c' where
  flight : c'.flight = c.flight
  issueCyc : c'.issueCyc = c.issueCyc
  vrun : c'.vrun = c.vrun

theorem Core.Moves.refl (c : Core) : c.Moves c := ⟨⟨rfl, rfl, rfl, rfl, rfl, rfl, rfl, rfl, rfl, rfl, rfl, rfl,
      rfl, rfl, rfl, rfl, rfl, rfl, rfl, rfl, rfl, rfl, rfl⟩, rfl, rfl, rfl⟩

theorem Core.Keeps.trans {a b c : Core} (h : a.Keeps b) (k : b.Keeps c) : a.Keeps c :=
  ⟨k.g.trans h.g, k.a.trans h.a, k.o.trans h.o, k.m.trans h.m, k.acc.trans h.acc,
    k.q.trans h.q, k.p.trans h.p, k.cr.trans h.cr, k.krgn.trans h.krgn, k.slots.trans h.slots,
    k.imem.trans h.imem, k.dmem.trans h.dmem, k.far.trans h.far, k.kloads.trans h.kloads, k.kexp.trans h.kexp,
    k.fnext.trans h.fnext, k.popped.trans h.popped, k.stack.trans h.stack, k.declCnt.trans h.declCnt, k.rclrCnt.trans h.rclrCnt,
    k.lock.trans h.lock, k.callPend.trans h.callPend, k.sleep.trans h.sleep⟩

theorem Core.Moves.trans {a b c : Core} (h : a.Moves b) (k : b.Moves c) : a.Moves c :=
  ⟨h.toKeeps.trans k.toKeeps, k.flight.trans h.flight, k.issueCyc.trans h.issueCyc, k.vrun.trans h.vrun⟩

theorem Core.loopTest_moves (c : Core) (pc succ : Word) (t n : Nat) : c.Moves (c.loopTest pc succ t n).1 := by
  induction n generalizing c with
  | zero => exact Core.Moves.refl c
  | succ n ih =>
    simp only [Core.loopTest]
    (repeat' split)
    all_goals first
      | exact ih c
      | (refine Core.Moves.trans ?_ (ih _); exact ⟨⟨rfl, rfl, rfl, rfl, rfl, rfl, rfl, rfl, rfl, rfl, rfl, rfl,
      rfl, rfl, rfl, rfl, rfl, rfl, rfl, rfl, rfl, rfl, rfl⟩, rfl, rfl, rfl⟩)
      | (exact ⟨⟨rfl, rfl, rfl, rfl, rfl, rfl, rfl, rfl, rfl, rfl, rfl, rfl,
      rfl, rfl, rfl, rfl, rfl, rfl, rfl, rfl, rfl, rfl, rfl⟩, rfl, rfl, rfl⟩)

theorem Core.advance_moves (c : Core) (succ : Word) (made : Bool) (t : Nat) : c.Moves (c.advance succ made t) := by
  simp only [Core.advance]
  split
  · exact ⟨⟨rfl, rfl, rfl, rfl, rfl, rfl, rfl, rfl, rfl, rfl, rfl, rfl,
      rfl, rfl, rfl, rfl, rfl, rfl, rfl, rfl, rfl, rfl, rfl⟩, rfl, rfl, rfl⟩
  · split
    · have h := Core.loopTest_moves c c.pc succ t 3
      generalize c.loopTest c.pc succ t 3 = r at h
      obtain ⟨c1, p, b⟩ := r
      split <;> (refine Core.Moves.trans h ?_; exact ⟨⟨rfl, rfl, rfl, rfl, rfl, rfl, rfl, rfl, rfl, rfl, rfl, rfl,
      rfl, rfl, rfl, rfl, rfl, rfl, rfl, rfl, rfl, rfl, rfl⟩, rfl, rfl, rfl⟩)
    · (repeat' split) <;> (exact ⟨⟨rfl, rfl, rfl, rfl, rfl, rfl, rfl, rfl, rfl, rfl, rfl, rfl,
      rfl, rfl, rfl, rfl, rfl, rfl, rfl, rfl, rfl, rfl, rfl⟩, rfl, rfl, rfl⟩)

theorem Core.endCycle_keeps (c0 c : Core) :
    c.Keeps (c0.endCycle c) ∧ (c0.endCycle c).flight = c.flight ∧ (c0.endCycle c).issueCyc = c0.issueCyc + 1
      ∧ (c0.endCycle c).vrun = c.vrun := by
  unfold Core.endCycle
  dsimp only
  (repeat' split) <;> exact ⟨⟨rfl, rfl, rfl, rfl, rfl, rfl, rfl, rfl, rfl, rfl, rfl, rfl,
      rfl, rfl, rfl, rfl, rfl, rfl, rfl, rfl, rfl, rfl, rfl⟩, rfl, rfl, rfl⟩

/-- A plain operation changes nothing of the core at once but the divider's interval and the counter capture. -/
theorem Core.opEffect_plain (c x : Core) (e : Env) (sl : Slot) (pc succ : Word) (op : Op) (hp : opPlain op = true) :
    x.Moves (c.opEffect x e sl pc succ op) := by
  cases op
  case mfc d n =>
    change x.Moves (x.crCapture e n.toNat)
    unfold Core.crCapture
    split
    · exact ⟨⟨rfl, rfl, rfl, rfl, rfl, rfl, rfl, rfl, rfl, rfl, rfl, rfl,
      rfl, rfl, rfl, rfl, rfl, rfl, rfl, rfl, rfl, rfl, rfl⟩, rfl, rfl, rfl⟩
    · exact Core.Moves.refl x
  case div f d a b => exact ⟨⟨rfl, rfl, rfl, rfl, rfl, rfl, rfl, rfl, rfl, rfl, rfl, rfl,
      rfl, rfl, rfl, rfl, rfl, rfl, rfl, rfl, rfl, rfl, rfl⟩, rfl, rfl, rfl⟩
  all_goals first
    | (cases hp; done)
    | exact Core.Moves.refl x

/-- A plain operation sets up no shadow. -/
theorem Core.setShadow_plain (c x : Core) (pc succ : Word) (op : Op) (hp : opPlain op = true) :
    c.setShadow x pc succ op = x := by
  cases op <;> simp only [opPlain, Bool.false_eq_true] at hp <;> rfl

/-- None of the kinds of operation that a bundle treats apart is plain. -/
theorem opPlain_kinds (c : Core) (sl : Slot) (op : Op) (hp : opPlain op = true) :
    opShadow op = false ∧ opKeyChange op = false ∧ (op == Op.retx) = false ∧ c.partStores [(sl, op)] = [] := by
  cases op <;> simp only [opPlain, Bool.false_eq_true] at hp <;> exact ⟨rfl, rfl, rfl, rfl⟩

/-- A plain operation has no part outside its core. -/
theorem State.afterIssue_plain (s : State) (g : Nat) (c : Core) (sl : Slot) (op : Op) (hp : opPlain op = true)
    (h : (s.core g).lock.active = c.lock.active) : s.afterIssue g c [(sl, op)] = s := by
  cases op <;> simp only [opPlain, Bool.false_eq_true] at hp <;>
    simp only [State.afterIssue, List.foldl_cons, List.foldl_nil, h, Bool.and_not_self, Bool.false_eq_true, if_false]

/-- A bundle of one plain operation: what it leaves of the core, and the results it puts in flight. -/
theorem Core.issueCore_plain (c : Core) (e : Env) (sl : Slot) (op : Op) (n : Nat) (hp : opPlain op = true)
    (hv : c.vrun = none) (hr : c.replay = none) :
    (c.issueCore e ⟨[(sl, op)], n⟩).flight
        = (c.addFlights (c.opFlights c e sl c.pc (c.seqNext c.pc n) op)).flight
      ∧ (c.issueCore e ⟨[(sl, op)], n⟩).issueCyc = c.issueCyc + 1
      ∧ (c.issueCore e ⟨[(sl, op)], n⟩).vrun = none ∧ c.Keeps (c.issueCore e ⟨[(sl, op)], n⟩) := by
  obtain ⟨hno, hkey, hretx, -⟩ := opPlain_kinds c sl op hp
  have eff := Core.opEffect_plain c c e sl c.pc (c.seqNext c.pc n) op hp
  simp only [Core.issueCore, hr, Option.getD_none, List.contains_nil, Bool.not_false, Bool.false_eq_true,
    List.filter_cons, List.filter_nil, if_true, if_false, List.any_cons, List.any_nil, hno, hretx, Bool.or_self,
    Core.execute, hkey, List.append_nil, List.foldl_cons, List.foldl_nil, Core.setShadow_plain _ _ _ _ _ hp,
    Core.bundleFlights, List.flatMap_cons, List.flatMap_nil, Core.phantom, List.map_nil]
  generalize c.opEffect c e sl c.pc (c.seqNext c.pc n) op = x at eff
  generalize c.opFlights c e sl c.pc (c.seqNext c.pc n) op = l
  have h1 := Core.endCycle_keeps c ((x.addFlights l).addFlights []).counted
  have h2 := Core.advance_moves (c.endCycle ((x.addFlights l).addFlights []).counted) (c.seqNext c.pc n) false c.issueCyc
  have h3 : x.Keeps ((x.addFlights l).addFlights []).counted := ⟨rfl, rfl, rfl, rfl, rfl, rfl, rfl, rfl, rfl, rfl, rfl, rfl,
      rfl, rfl, rfl, rfl, rfl, rfl, rfl, rfl, rfl, rfl, rfl⟩
  have hl : (c.endCycle ((x.addFlights l).addFlights []).counted).vrun = none := h1.2.2.2.trans (eff.vrun.trans hv)
  simp only [Core.leave, Bool.false_eq_true, if_false, hl]
  refine ⟨?_, h2.issueCyc.trans h1.2.2.1, h2.vrun.trans hl, (eff.toKeeps.trans h3).trans (h1.1.trans h2.toKeeps)⟩
  rw [h2.flight, h1.2.1]
  simp only [Core.addFlights, Core.counted, List.foldl_nil, eff.flight]

/-- An operation with results alone, in a bundle of its own that passes every check, only puts them in flight. -/
theorem State.issueOk_plain (s : State) (g : Nat) (sl : Slot) (op : Op) (n : Nat) (hp : opPlain op = true)
    (hv : (s.core g).vrun = none) (hr : (s.core g).replay = none) :
    s.issueOk g ⟨[(sl, op)], n⟩ .ok = s.setCore g ((s.core g).issueCore (s.env g) ⟨[(sl, op)], n⟩) := by
  have hc := Core.issueCore_plain (s.core g) (s.env g) sl op n hp hv hr
  have hk := opPlain_kinds (s.core g) sl op hp
  simp only [State.issueOk, hr, Option.getD_none, List.contains_nil, Bool.not_false, List.filter_cons, List.filter_nil,
    if_true, hk.2.2.2, List.foldl_nil]
  rw [State.afterIssue_plain _ g _ sl op hp (by rw [State.core_setCore, hc.2.2.2.lock])]
  simp only [State.stepRun, State.core_setCore, hc.2.2.1]

/-- A command whose operation is plain and issues puts its results in flight and does nothing else. -/
theorem putsInFlight (s : State) (i : Instr) (g : CoreId) (sl : Slot) (op : Op) (hi : coreOp i = some (g, sl, op))
    (hp : opPlain op = true) (h : s.issues g sl op = true) :
    PutsInFlight s g i ((s.found g).opFlights (s.found g) ((s.toBoundary g).env g) sl (s.found g).pc
      ((s.found g).succOf op) op) := by
  have hv : ((s.toBoundary g).core g).vrun = none ∧ ((s.toBoundary g).core g).replay = none := by
    simp only [State.issues, Bool.and_eq_true, Option.isNone_iff_eq_none] at h
    exact ⟨h.1.1.1.1.1.1.1.1.1.1.1.1.1.1.2, h.1.1.1.1.1.1.1.1.1.1.1.1.2⟩
  have hc := Core.issueCore_plain ((s.toBoundary g).core g) ((s.toBoundary g).env g) sl op (4 * opSyllables op) hp hv.1 hv.2
  simp only [PutsInFlight, State.found, Core.succOf]
  refine ⟨_, ?_, hc.1, hc.2.1, hc.2.2.2⟩
  rw [exec_coreOp i s g sl op hi]
  simp only [State.issueOne, State.issue_issues s g sl op h]
  rw [State.issueOk_plain _ g sl op _ hp hv.1 hv.2]

/-- The core as one operation of its own leaves it, before its issue cycle ends. -/
def Core.afterOp (c : Core) (e : Env) (sl : Slot) (succ : Word) (op : Op) : Core :=
  (c.setShadow (c.opEffect c e sl c.pc succ op) c.pc succ op).addFlights (c.opFlights c e sl c.pc succ op)

/-- A bundle of one operation: its effect, the end of its issue cycle, and the way on. -/
theorem Core.issueCore_one (c : Core) (e : Env) (sl : Slot) (op : Op) (n : Nat) (hr : c.replay = none) :
    c.issueCore e ⟨[(sl, op)], n⟩ =
      (c.endCycle (c.afterOp e sl (c.seqNext c.pc n) op).counted).leave e.now (op == .retx)
        (if opRun op then [] else [slotCode sl]) (opShadow op) (c.seqNext c.pc n) c.issueCyc := by
  simp only [Core.issueCore, hr, Option.getD_none, List.contains_nil, Bool.not_false, Bool.false_eq_true,
    List.filter_cons, List.filter_nil, if_true, if_false, List.any_cons, List.any_nil, Bool.or_false,
    Core.bundleFlights, List.flatMap_cons, List.flatMap_nil, Core.phantom, List.map_nil, Core.afterOp, Core.execute]
  cases opKeyChange op <;> cases opRun op <;>
    simp [Core.addFlights]

/-- A part-word store without an error has no second part. -/
theorem State.partStoreErr_ok (s : State) (g : Nat) (l : List (Word × Nat)) :
    l.foldl (fun (s : State) x => s.partStoreErr g x.1 x.2 .ok) s = s := by
  induction l with
  | nil => rfl
  | cons x l ih => exact ih

/-- Issuing one operation of its own, part by part. -/
theorem State.issueOk_one (s : State) (g : Nat) (sl : Slot) (op : Op) (n : Nat) (hr : (s.core g).replay = none) :
    s.issueOk g ⟨[(sl, op)], n⟩ .ok =
      ((s.setCore g ((s.core g).issueCore (s.env g) ⟨[(sl, op)], n⟩)).afterIssue g (s.core g) [(sl, op)]).stepRun g .ok true := by
  simp only [State.issueOk, hr, Option.getD_none, List.contains_nil, Bool.not_false, List.filter_cons, List.filter_nil,
    if_true, State.partStoreErr_ok]

/-- An operation that neither ends an interrupt nor a lock sequence has no part outside its core. -/
theorem State.afterIssue_none (s : State) (g : Nat) (c : Core) (sl : Slot) (op : Op) (h46 : ∀ a, op ≠ .mtc 46 a)
    (h : (s.core g).lock.active = c.lock.active) : s.afterIssue g c [(sl, op)] = s := by
  cases op
  case mtc n a =>
    have hn : n ≠ 46 := fun hn => h46 a (by rw [hn])
    simp only [State.afterIssue, List.foldl_cons, List.foldl_nil, if_neg hn, h, Bool.and_not_self, Bool.false_eq_true, if_false]
  all_goals
    simp only [State.afterIssue, List.foldl_cons, List.foldl_nil, h, Bool.and_not_self, Bool.false_eq_true, if_false]

/-- What the end of the issue cycle and the way on leave alone, for an operation that neither returns nor runs on. -/
theorem Core.leave_keeps (c x : Core) (now : Nat) (others : List Nat) (made : Bool) (succ : Word) (hv : x.vrun = none) :
    x.Keeps ((c.endCycle x.counted).leave now false others made succ c.issueCyc)
      ∧ ((c.endCycle x.counted).leave now false others made succ c.issueCyc).flight = x.flight
      ∧ ((c.endCycle x.counted).leave now false others made succ c.issueCyc).issueCyc = c.issueCyc + 1
      ∧ ((c.endCycle x.counted).leave now false others made succ c.issueCyc).vrun = none := by
  have h1 := Core.endCycle_keeps c x.counted
  have h2 := Core.advance_moves (c.endCycle x.counted) succ made c.issueCyc
  have h3 : x.Keeps x.counted := ⟨rfl, rfl, rfl, rfl, rfl, rfl, rfl, rfl, rfl, rfl, rfl, rfl,
      rfl, rfl, rfl, rfl, rfl, rfl, rfl, rfl, rfl, rfl, rfl⟩
  have hl : (c.endCycle x.counted).vrun = none := h1.2.2.2.trans hv
  simp only [Core.leave, Bool.false_eq_true, if_false, hl]
  exact ⟨h3.trans (h1.1.trans h2.toKeeps), h2.flight.trans h1.2.1, h2.issueCyc.trans h1.2.2.1, h2.vrun.trans hl⟩

/-- A command whose operation stays in its core and is done at once leaves the core as `issueCore` says. -/
theorem exec_one (s : State) (i : Instr) (g : CoreId) (sl : Slot) (op : Op) (hi : coreOp i = some (g, sl, op))
    (h : s.issues g sl op = true) (h46 : ∀ a, op ≠ .mtc 46 a) (hrx : (op == .retx) = false)
    (hv : ((s.found g).afterOp ((s.toBoundary g).env g) sl ((s.found g).succOf op) op).vrun = none)
    (hl : ((s.found g).afterOp ((s.toBoundary g).env g) sl ((s.found g).succOf op) op).lock.active = (s.found g).lock.active) :
    exec i s = .next ((s.toBoundary g).setCore g
      (((s.found g).endCycle ((s.found g).afterOp ((s.toBoundary g).env g) sl ((s.found g).succOf op) op).counted).leave
        ((s.toBoundary g).env g).now false (if opRun op then [] else [slotCode sl]) (opShadow op) ((s.found g).succOf op)
        (s.found g).issueCyc)) := by
  have hr : ((s.toBoundary g).core g).replay = none := by
    simp only [State.issues, Bool.and_eq_true, Option.isNone_iff_eq_none] at h
    exact h.1.1.1.1.1.1.1.1.1.1.1.1.2
  have one := Core.issueCore_one ((s.toBoundary g).core g) ((s.toBoundary g).env g) sl op (4 * opSyllables op) hr
  rw [hrx] at one
  have k := Core.leave_keeps ((s.toBoundary g).core g) (((s.toBoundary g).core g).afterOp ((s.toBoundary g).env g) sl
    (((s.toBoundary g).core g).seqNext ((s.toBoundary g).core g).pc (4 * opSyllables op)) op) ((s.toBoundary g).env g).now
    (if opRun op then [] else [slotCode sl]) (opShadow op)
    (((s.toBoundary g).core g).seqNext ((s.toBoundary g).core g).pc (4 * opSyllables op)) hv
  rw [exec_coreOp i s g sl op hi]
  simp only [State.issueOne, State.issue_issues s g sl op h]
  rw [State.issueOk_one _ g sl op _ hr, one,
    State.afterIssue_none _ g _ sl op h46 (by rw [State.core_setCore, k.1.lock]; exact hl)]
  simp only [State.stepRun, State.core_setCore, k.2.2.2]
  rfl

end Sys2Proof.Machine
end

