-- ==== Sys2Proof/Laws/Kept.lean ====
section
/-! SUPPORT. What every operation of the block keeps: the queue of commands, and, but for three mailbox commands and the end
of a zeroisation, the fuses. One lemma for each operation over the state. -/

set_option maxRecDepth 4000

namespace Sys2Proof.Machine
open Sys2Proof

/-- The queue and the fuses of a conditional state. -/
@[simp] theorem ite_kept (c : Prop) [Decidable c] (a b : State) :
    ((if c then a else b).pending = if c then a.pending else b.pending)
      ∧ ((if c then a else b).fuses = if c then a.fuses else b.fuses) := by
  split <;> exact ⟨rfl, rfl⟩

/-- A fold of an operation that keeps them keeps them. -/
@[simp] theorem foldl_kept {α : Type} (f : State → α → State) (l : List α)
    (h : ∀ s x, (f s x).pending = s.pending ∧ (f s x).fuses = s.fuses) (s : State) :
    (l.foldl f s).pending = s.pending ∧ (l.foldl f s).fuses = s.fuses := by
  induction l generalizing s with
  | nil => exact ⟨rfl, rfl⟩
  | cons x l ih => exact ⟨(ih _).1.trans (h _ _).1, (ih _).2.trans (h _ _).2⟩

@[simp] theorem State.wr_kept (s : State) (off : Nat) (w : Word) :
    (State.wr s off w).pending = s.pending ∧ (State.wr s off w).fuses = s.fuses := by
  simp [State.wr]

@[simp] theorem State.setFld_kept (s : State) (off : Nat) (f : Fld) (n : Nat) :
    (State.setFld s off f n).pending = s.pending ∧ (State.setFld s off f n).fuses = s.fuses := by
  simp [State.setFld]

@[simp] theorem State.setFlag_kept (s : State) (off : Nat) (f : Fld) (b : Bool) :
    (State.setFlag s off f b).pending = s.pending ∧ (State.setFlag s off f b).fuses = s.fuses := by
  simp [State.setFlag]

@[simp] theorem State.wr64_kept (s : State) (off v : Nat) :
    (State.wr64 s off v).pending = s.pending ∧ (State.wr64 s off v).fuses = s.fuses := by
  simp [State.wr64]

@[simp] theorem State.add64_kept (s : State) (off n : Nat) :
    (State.add64 s off n).pending = s.pending ∧ (State.add64 s off n).fuses = s.fuses := by
  simp [State.add64]

@[simp] theorem State.inc64_kept (s : State) (off : Nat) :
    (State.inc64 s off).pending = s.pending ∧ (State.inc64 s off).fuses = s.fuses := by
  simp [State.inc64]

@[simp] theorem State.inc32_kept (s : State) (off : Nat) :
    (State.inc32 s off).pending = s.pending ∧ (State.inc32 s off).fuses = s.fuses := by
  simp [State.inc32]

@[simp] theorem State.incSat_kept (s : State) (off : Nat) (f : Fld) :
    (State.incSat s off f).pending = s.pending ∧ (State.incSat s off f).fuses = s.fuses := by
  simp [State.incSat]

@[simp] theorem State.pwr_kept (s : State) (off : Nat) (w : Word) :
    (State.pwr s off w).pending = s.pending ∧ (State.pwr s off w).fuses = s.fuses := by
  simp [State.pwr]

@[simp] theorem State.pwr64_kept (s : State) (off v : Nat) :
    (State.pwr64 s off v).pending = s.pending ∧ (State.pwr64 s off v).fuses = s.fuses := by
  simp [State.pwr64]

@[simp] theorem State.logWrite_kept (s : State) (off : Nat) :
    (State.logWrite s off).pending = s.pending ∧ (State.logWrite s off).fuses = s.fuses := by
  simp [State.logWrite]

@[simp] theorem State.setCore_kept (s : State) (g : Nat) (c : Core) :
    (State.setCore s g c).pending = s.pending ∧ (State.setCore s g c).fuses = s.fuses := by
  simp [State.setCore]

@[simp] theorem State.setClu_kept (s : State) (c : Nat) (x : Cluster) :
    (State.setClu s c x).pending = s.pending ∧ (State.setClu s c x).fuses = s.fuses := by
  simp [State.setClu]

@[simp] theorem State.setFrame_kept (s : State) (f : Nat) (x : Frame) :
    (State.setFrame s f x).pending = s.pending ∧ (State.setFrame s f x).fuses = s.fuses := by
  simp [State.setFrame]

@[simp] theorem State.setRx_kept (s : State) (k : Nat) (x : Rx) :
    (State.setRx s k x).pending = s.pending ∧ (State.setRx s k x).fuses = s.fuses := by
  simp [State.setRx]

@[simp] theorem State.setEgr_kept (s : State) (k : Nat) (x : Egress) :
    (State.setEgr s k x).pending = s.pending ∧ (State.setEgr s k x).fuses = s.fuses := by
  simp [State.setEgr]

@[simp] theorem State.setLink_kept (s : State) (k : Nat) (x : Link) :
    (State.setLink s k x).pending = s.pending ∧ (State.setLink s k x).fuses = s.fuses := by
  simp [State.setLink]

@[simp] theorem State.setRot_kept (s : State) (g : Nat) (x : Rot) :
    (State.setRot s g x).pending = s.pending ∧ (State.setRot s g x).fuses = s.fuses := by
  simp [State.setRot]

@[simp] theorem State.emit_kept (s : State) (o : Out) :
    (State.emit s o).pending = s.pending ∧ (State.emit s o).fuses = s.fuses := by
  simp [State.emit]

@[simp] theorem State.setSrc_kept (s : State) (k : Nat) (x : Src) :
    (State.setSrc s k x).pending = s.pending ∧ (State.setSrc s k x).fuses = s.fuses := by
  simp [State.setSrc]

@[simp] theorem State.msixSend_kept (s : State) (v : Nat) :
    (State.msixSend s v).pending = s.pending ∧ (State.msixSend s v).fuses = s.fuses := by
  simp [State.msixSend]

@[simp] theorem State.msixRise_kept (s : State) (v : Nat) :
    (State.msixRise s v).pending = s.pending ∧ (State.msixRise s v).fuses = s.fuses := by
  simp [State.msixRise]

@[simp] theorem State.devRise_kept (s : State) (i : Nat) :
    (State.devRise s i).pending = s.pending ∧ (State.devRise s i).fuses = s.fuses := by
  simp [State.devRise]

@[simp] theorem State.raiseDev_kept (s : State) (i : Nat) :
    (State.raiseDev s i).pending = s.pending ∧ (State.raiseDev s i).fuses = s.fuses := by
  simp [State.raiseDev]

@[simp] theorem State.evtSet_kept (s : State) (evt en src : Nat) (f : Fld) :
    (State.evtSet s evt en src f).pending = s.pending ∧ (State.evtSet s evt en src f).fuses = s.fuses := by
  simp [State.evtSet]

@[simp] theorem State.fallback_kept (s : State) (c i : Nat) :
    (State.fallback s c i).pending = s.pending ∧ (State.fallback s c i).fuses = s.fuses := by
  simp [State.fallback]

@[simp] theorem State.raise_kept (s : State) (k : Nat) :
    (State.raise s k).pending = s.pending ∧ (State.raise s k).fuses = s.fuses := by
  simp [State.raise]

@[simp] theorem State.raisePriv_kept (s : State) (g i : Nat) :
    (State.raisePriv s g i).pending = s.pending ∧ (State.raisePriv s g i).fuses = s.fuses := by
  simp [State.raisePriv]

@[simp] theorem State.raiseShared_kept (s : State) (c i : Nat) :
    (State.raiseShared s c i).pending = s.pending ∧ (State.raiseShared s c i).fuses = s.fuses := by
  simp [State.raiseShared]

@[simp] theorem State.closeKeOf_kept (s : State) (g : Nat) :
    (State.closeKeOf s g).pending = s.pending ∧ (State.closeKeOf s g).fuses = s.fuses := by
  unfold State.closeKeOf; (repeat' split) <;> simp

@[simp] theorem State.faultStat_kept (s : State) (f : Fld) :
    (State.faultStat s f).pending = s.pending ∧ (State.faultStat s f).fuses = s.fuses := by
  simp [State.faultStat]

@[simp] theorem State.pushDev_kept (s : State) (r : ErrRec) :
    (State.pushDev s r).pending = s.pending ∧ (State.pushDev s r).fuses = s.fuses := by
  simp [State.pushDev]

@[simp] theorem State.pushCl_kept (s : State) (c : Nat) (r : ErrRec) :
    (State.pushCl s c r).pending = s.pending ∧ (State.pushCl s c r).fuses = s.fuses := by
  simp [State.pushCl]

@[simp] theorem State.record_kept (s : State) (c : Option Nat) (cls action kind index : Nat) (info0 info1 : Word) :
    (State.record s c cls action kind index info0 info1).pending = s.pending ∧ (State.record s c cls action kind index info0 info1).fuses = s.fuses := by
  unfold State.record; (repeat' split) <;> simp

@[simp] theorem State.recordMs_kept (s : State) (c : Option Nat) (cls action kind index unit : Nat) (info0 info1 : Word) :
    (State.recordMs s c cls action kind index unit info0 info1).pending = s.pending ∧ (State.recordMs s c cls action kind index unit info0 info1).fuses = s.fuses := by
  simp [State.recordMs]

@[simp] theorem State.coreMemErr_kept (s : State) (g mem : Nat) (ue : Bool) (addr : Word) :
    (State.coreMemErr s g mem ue addr).pending = s.pending ∧ (State.coreMemErr s g mem ue addr).fuses = s.fuses := by
  simp [State.coreMemErr]

@[simp] theorem State.cmemErr_kept (s : State) (c : Nat) (ue : Bool) (off : Nat) :
    (State.cmemErr s c ue off).pending = s.pending ∧ (State.cmemErr s c ue off).fuses = s.fuses := by
  simp [State.cmemErr]

@[simp] theorem State.skbErr_kept (s : State) (c : Nat) (ue : Bool) (idx : Nat) :
    (State.skbErr s c ue idx).pending = s.pending ∧ (State.skbErr s c ue idx).fuses = s.fuses := by
  simp [State.skbErr]

@[simp] theorem State.setDomain_kept (s : State) (d n : Nat) :
    (State.setDomain s d n).pending = s.pending ∧ (State.setDomain s d n).fuses = s.fuses := by
  simp [State.setDomain]

@[simp] theorem State.pushRecord_kept (s : State) (c : Option Nat) (r : ErrRec) :
    (State.pushRecord s c r).pending = s.pending ∧ (State.pushRecord s c r).fuses = s.fuses := by
  unfold State.pushRecord; (repeat' split) <;> simp

@[simp] theorem State.dmaStop_kept (s : State) (cause : Nat) (hold : Bool) (test : Nat → DmaRun → Bool) :
    (State.dmaStop s cause hold test).pending = s.pending ∧ (State.dmaStop s cause hold test).fuses = s.fuses := by
  unfold State.dmaStop
  refine foldl_kept _ _ ?_ _
  intro s x
  dsimp only
  (repeat' split) <;> simp

@[simp] theorem State.dmaHold_kept (s : State) (d : Nat) :
    (State.dmaHold s d).pending = s.pending ∧ (State.dmaHold s d).fuses = s.fuses := by
  simp [State.dmaHold]

@[simp] theorem State.pwrResult_kept (s : State) (c : PwrCmd) (result : Nat) :
    (State.pwrResult s c result).pending = s.pending ∧ (State.pwrResult s c result).fuses = s.fuses := by
  unfold State.pwrResult; (repeat' split) <;> simp

@[simp] theorem State.pwrBegin_kept (s : State) (l : List PwrCmd) :
    (s.pwrBegin l).pending = s.pending ∧ (s.pwrBegin l).fuses = s.fuses := by
  induction l generalizing s with
  | nil => exact ⟨rfl, rfl⟩
  | cons c l ih => simp only [State.pwrBegin]; (repeat' split) <;> simp [ih]

@[simp] theorem State.pwrAdd_kept (s : State) (c : PwrCmd) :
    (State.pwrAdd s c).pending = s.pending ∧ (State.pwrAdd s c).fuses = s.fuses := by
  simp [State.pwrAdd]

@[simp] theorem State.pwrEnd_kept (s : State) (result dom : Nat) :
    (State.pwrEnd s result dom).pending = s.pending ∧ (State.pwrEnd s result dom).fuses = s.fuses := by
  unfold State.pwrEnd; (repeat' split) <;> simp

@[simp] theorem State.sheetOff_kept (s : State) (d : Nat) (note : Option (Option Nat × ErrRec)) :
    (State.sheetOff s d note).pending = s.pending ∧ (State.sheetOff s d note).fuses = s.fuses := by
  simp [State.sheetOff]

@[simp] theorem State.ledger_kept (s : State) (side p k : Nat) :
    (State.ledger s side p k).pending = s.pending ∧ (State.ledger s side p k).fuses = s.fuses := by
  simp [State.ledger]

@[simp] theorem State.inflight_kept (s : State) (side p : Nat) (up : Bool) :
    (State.inflight s side p up).pending = s.pending ∧ (State.inflight s side p up).fuses = s.fuses := by
  simp [State.inflight]

@[simp] theorem State.prune_kept (s : State) (f : Nat) :
    (State.prune s f).pending = s.pending ∧ (State.prune s f).fuses = s.fuses := by
  simp [State.prune]

@[simp] theorem State.saCount_kept (s : State) (sa k : Nat) :
    (State.saCount s sa k).pending = s.pending ∧ (State.saCount s sa k).fuses = s.fuses := by
  simp [State.saCount]

@[simp] theorem State.unrelease_kept (s : State) (f : Nat) :
    (State.unrelease s f).pending = s.pending ∧ (State.unrelease s f).fuses = s.fuses := by
  simp [State.unrelease]

@[simp] theorem State.ledgerDrop_kept (s : State) (x : Frame) (code : Nat) :
    (State.ledgerDrop s x code).pending = s.pending ∧ (State.ledgerDrop s x code).fuses = s.fuses := by
  simp [State.ledgerDrop]

@[simp] theorem State.drop_kept (s : State) (f code : Nat) :
    (State.drop s f code).pending = s.pending ∧ (State.drop s f code).fuses = s.fuses := by
  simp only [State.drop]; (repeat' split) <;> simp_all

@[simp] theorem State.setTfree_kept (s : State) (g : Nat) (w : Word) :
    (State.setTfree s g w).pending = s.pending ∧ (State.setTfree s g w).fuses = s.fuses := by
  simp [State.setTfree]

@[simp] theorem State.lose_kept (s : State) (f : Nat) :
    (State.lose s f).pending = s.pending ∧ (State.lose s f).fuses = s.fuses := by
  simp [State.lose]

@[simp] theorem State.coreLost_kept (s : State) (g : Nat) :
    (State.coreLost s g).pending = s.pending ∧ (State.coreLost s g).fuses = s.fuses := by
  simp [State.coreLost]

@[simp] theorem State.fallbackAll_kept (s : State) (c : Nat) :
    (State.fallbackAll s c).pending = s.pending ∧ (State.fallbackAll s c).fuses = s.fuses := by
  simp [State.fallbackAll]

@[simp] theorem State.evcRelease_kept (s : State) (g : Nat) :
    (State.evcRelease s g).pending = s.pending ∧ (State.evcRelease s g).fuses = s.fuses := by
  simp [State.evcRelease]

@[simp] theorem State.evcBankReset_kept (s : State) (g : Nat) :
    (State.evcBankReset s g).pending = s.pending ∧ (State.evcBankReset s g).fuses = s.fuses := by
  simp [State.evcBankReset]

@[simp] theorem State.performBeats_kept (s : State) (c : Nat) :
    (State.performBeats s c).pending = s.pending ∧ (State.performBeats s c).fuses = s.fuses := by
  simp [State.performBeats]

@[simp] theorem State.withdraw_kept (s : State) (g : Nat) :
    (State.withdraw s g).pending = s.pending ∧ (State.withdraw s g).fuses = s.fuses := by
  simp [State.withdraw]

@[simp] theorem State.unlock_kept (s : State) (g : Nat) :
    (State.unlock s g).pending = s.pending ∧ (State.unlock s g).fuses = s.fuses := by
  simp [State.unlock]

@[simp] theorem State.dropCaptures_kept (s : State) (key : Nat) :
    (State.dropCaptures s key).pending = s.pending ∧ (State.dropCaptures s key).fuses = s.fuses := by
  simp [State.dropCaptures]

@[simp] theorem State.resetCore_kept (s : State) (g sub : Nat) :
    (State.resetCore s g sub).pending = s.pending ∧ (State.resetCore s g sub).fuses = s.fuses := by
  simp [State.resetCore]

@[simp] theorem State.toRot_kept (s : State) (g st : Nat) :
    (State.toRot s g st).pending = s.pending ∧ (State.toRot s g st).fuses = s.fuses := by
  simp [State.toRot]

@[simp] theorem State.promoteSpare_kept (s : State) (c : Nat) :
    (State.promoteSpare s c).pending = s.pending ∧ (State.promoteSpare s c).fuses = s.fuses := by
  unfold State.promoteSpare; (repeat' split) <;> simp

@[simp] theorem State.unuseCore_kept (s : State) (g st : Nat) :
    (State.unuseCore s g st).pending = s.pending ∧ (State.unuseCore s g st).fuses = s.fuses := by
  simp [State.unuseCore]

@[simp] theorem State.fenceCore_kept (s : State) (g st cls : Nat) (info0 info1 : Word) :
    (State.fenceCore s g st cls info0 info1).pending = s.pending ∧ (State.fenceCore s g st cls info0 info1).fuses = s.fuses := by
  simp [State.fenceCore]

@[simp] theorem State.puttyLost_kept (s : State) (c : Nat) :
    (State.puttyLost s c).pending = s.pending ∧ (State.puttyLost s c).fuses = s.fuses := by
  simp [State.puttyLost]

@[simp] theorem State.clearLink_kept (s : State) (c : Nat) :
    (State.clearLink s c).pending = s.pending ∧ (State.clearLink s c).fuses = s.fuses := by
  simp [State.clearLink]

@[simp] theorem State.fenceCluster_kept (s : State) (c why : Nat) (note : Option ErrRec) :
    (State.fenceCluster s c why note).pending = s.pending ∧ (State.fenceCluster s c why note).fuses = s.fuses := by
  simp [State.fenceCluster]

@[simp] theorem State.linkLost_kept (s : State) (c : Nat) :
    (State.linkLost s c).pending = s.pending ∧ (State.linkLost s c).fuses = s.fuses := by
  simp [State.linkLost]

@[simp] theorem State.fenceLink_kept (s : State) (c cause : Nat) :
    (State.fenceLink s c cause).pending = s.pending ∧ (State.fenceLink s c cause).fuses = s.fuses := by
  simp [State.fenceLink]

@[simp] theorem State.upTo_kept (s : State) (t : Nat) :
    (State.upTo s t).pending = s.pending ∧ (State.upTo s t).fuses = s.fuses := by
  simp [State.upTo]

@[simp] theorem State.putCore_kept (s : State) (g : Nat) (c : Core) :
    (State.putCore s g c).pending = s.pending ∧ (State.putCore s g c).fuses = s.fuses := by
  simp [State.putCore]

@[simp] theorem State.keeperAbort_kept (s : State) (g : Nat) (code : Nat) :
    (State.keeperAbort s g code).pending = s.pending ∧ (State.keeperAbort s g code).fuses = s.fuses := by
  simp [State.keeperAbort]

@[simp] theorem State.thirdFault_kept (s : State) (g : Nat) (x : Accept) :
    (State.thirdFault s g x).pending = s.pending ∧ (State.thirdFault s g x).fuses = s.fuses := by
  simp [State.thirdFault]

@[simp] theorem State.doubleFault_kept (s : State) (g : Nat) (x : Accept) (badTsb : Bool) :
    (State.doubleFault s g x badTsb).pending = s.pending ∧ (State.doubleFault s g x badTsb).fuses = s.fuses := by
  simp [State.doubleFault]

@[simp] theorem State.enterTsb_kept (s : State) (g : Nat) (x : Accept) :
    (State.enterTsb s g x).pending = s.pending ∧ (State.enterTsb s g x).fuses = s.fuses := by
  simp [State.enterTsb]

@[simp] theorem State.enter_kept (s : State) (g : Nat) (x : Accept) :
    (State.enter s g x).pending = s.pending ∧ (State.enter s g x).fuses = s.fuses := by
  simp [State.enter]

@[simp] theorem State.except_kept (s : State) (g code sub : Nat) (faddr : Option Word) :
    (State.except s g code sub faddr).pending = s.pending ∧ (State.except s g code sub faddr).fuses = s.fuses := by
  simp [State.except]

@[simp] theorem State.toBoundary_kept (s : State) (g : Nat) :
    (State.toBoundary s g).pending = s.pending ∧ (State.toBoundary s g).fuses = s.fuses := by
  simp [State.toBoundary]

@[simp] theorem State.lensRefused_kept (s : State) :
    (State.lensRefused s).pending = s.pending ∧ (State.lensRefused s).fuses = s.fuses := by
  simp [State.lensRefused]

@[simp] theorem State.accRefused_kept (s : State) (who : Prin) (off : Nat) (wr : Bool) (reason : Nat) :
    (State.accRefused s who off wr reason).pending = s.pending ∧ (State.accRefused s who off wr reason).fuses = s.fuses := by
  unfold State.accRefused; (repeat' split) <;> simp

@[simp] theorem State.accUnavail_kept (s : State) (who : Prin) :
    (State.accUnavail s who).pending = s.pending ∧ (State.accUnavail s who).fuses = s.fuses := by
  simp [State.accUnavail]

@[simp] theorem State.guarded_kept (s : State) (who : Prin) (off : Nat) (act : State → State)
    (h : ∀ s, (act s).pending = s.pending ∧ (act s).fuses = s.fuses) :
    (s.guarded who off act).pending = s.pending ∧ (s.guarded who off act).fuses = s.fuses := by
  simp only [State.guarded]; (repeat' split) <;> simp [h]

@[simp] theorem State.tintFault_kept (s : State) (g slot trig : Nat) :
    (State.tintFault s g slot trig).pending = s.pending ∧ (State.tintFault s g slot trig).fuses = s.fuses := by
  simp [State.tintFault]

@[simp] theorem State.draw_kept (s : State) :
    (State.draw s).2.pending = s.pending ∧ (State.draw s).2.fuses = s.fuses := by
  simp [State.draw]

@[simp] theorem State.partStoreErr_kept (s : State) (g : Nat) (ea : Word) (size : Nat) (ecc : Ecc) :
    (State.partStoreErr s g ea size ecc).pending = s.pending ∧ (State.partStoreErr s g ea size ecc).fuses = s.fuses := by
  unfold State.partStoreErr; (repeat' split) <;> simp

@[simp] theorem State.dmemElem_kept (s : State) (g : Nat) (r : VRun) (i : Nat) (ecc : Ecc) :
    (State.dmemElem s g r i ecc).pending = s.pending ∧ (State.dmemElem s g r i ecc).fuses = s.fuses := by
  simp [State.dmemElem]

@[simp] theorem State.stepRun_kept (s : State) (g : Nat) (ecc : Ecc) (first : Bool) :
    (State.stepRun s g ecc first).pending = s.pending ∧ (State.stepRun s g ecc first).fuses = s.fuses := by
  simp only [State.stepRun]; (repeat' split) <;> simp_all

@[simp] theorem State.evcEoi_kept (s : State) (g id : Nat) :
    (State.evcEoi s g id).pending = s.pending ∧ (State.evcEoi s g id).fuses = s.fuses := by
  simp [State.evcEoi]

@[simp] theorem State.afterIssue_kept (s : State) (g : Nat) (c0 : Core) (ops : List (Slot × Op)) :
    (State.afterIssue s g c0 ops).pending = s.pending ∧ (State.afterIssue s g c0 ops).fuses = s.fuses := by
  unfold State.afterIssue
  dsimp only
  simp only [ite_kept, State.unlock_kept, ite_self]
  refine foldl_kept _ _ ?_ _
  intro s o
  (repeat' split) <;> simp

@[simp] theorem State.issueOk_kept (s : State) (g : Nat) (b : Bundle) (data : Ecc) :
    (State.issueOk s g b data).pending = s.pending ∧ (State.issueOk s g b data).fuses = s.fuses := by
  simp [State.issueOk]

theorem State.boundaryEntry_kept (s t : State) (g : Nat) (h : s.boundaryEntry g = some t) :
    t.pending = s.pending ∧ t.fuses = s.fuses := by
  unfold State.boundaryEntry at h
  dsimp only at h
  (repeat' split at h) <;> simp at h <;> (try subst h) <;> simp

@[simp] theorem State.issueAt_kept (s : State) (g : Nat) (alone : Option (Slot × Op)) (fetch data : Ecc) :
    (State.issueAt s g alone fetch data).pending = s.pending ∧ (State.issueAt s g alone fetch data).fuses = s.fuses := by
  unfold State.issueAt
  extract_lets c e pc off b? own s1
  have hs : s1.pending = s.pending ∧ s1.fuses = s.fuses := by
    simp only [s1]; split
    · exact ⟨rfl, rfl⟩
    · exact State.coreMemErr_kept _ _ _ _ _
  clear_value s1 own b?
  split
  · exact State.setCore_kept _ _ _
  · split
    · exact State.except_kept _ _ _ _ _
    · split
      · exact State.except_kept _ _ _ _ _
      · split
        · simp only [State.except_kept, hs, and_self]
        · split
          · simp only [State.except_kept, hs, and_self]
          · dsimp only
            (repeat' split) <;>
              simp only [State.except_kept, State.setCore_kept, State.tintFault_kept, State.issueOk_kept, hs, and_self]

@[simp] theorem State.issue_kept (s : State) (g : Nat) (alone : Option (Slot × Op)) (fetch data : Ecc) :
    (State.issue s g alone fetch data).pending = s.pending ∧ (State.issue s g alone fetch data).fuses = s.fuses := by
  simp only [State.issue]
  split
  · exact ⟨rfl, rfl⟩
  · split
    · simp
    · split
      · next t h => simp [State.boundaryEntry_kept _ _ _ h]
      · simp

@[simp] theorem State.loadErr_kept (s : State) (g : Nat) (f : Flight) (a : Word) (ecc : Ecc) :
    (State.loadErr s g f a ecc).1.pending = s.pending ∧ (State.loadErr s g f a ecc).1.fuses = s.fuses := by
  unfold State.loadErr; (repeat' split) <;> simp

@[simp] theorem State.accept_kept (s : State) (g : Nat) :
    (State.accept s g).1.pending = s.pending ∧ (State.accept s g).1.fuses = s.fuses := by
  unfold State.accept; (repeat' split) <;> simp

@[simp] theorem State.wake_kept (s : State) (g why : Nat) (src : Option Nat) :
    (State.wake s g why src).pending = s.pending ∧ (State.wake s g why src).fuses = s.fuses := by
  unfold State.wake; (repeat' split) <;> simp

@[simp] theorem State.prismWake_kept (s : State) (g : Nat) :
    (State.prismWake s g).pending = s.pending ∧ (State.prismWake s g).fuses = s.fuses := by
  unfold State.prismWake; (repeat' split) <;> simp

@[simp] theorem State.retireCtx_kept (s : State) (c i err : Nat) :
    (State.retireCtx s c i err).pending = s.pending ∧ (State.retireCtx s c i err).fuses = s.fuses := by
  simp [State.retireCtx]

@[simp] theorem State.lockWrite_kept (s : State) (g v : Nat) :
    (State.lockWrite s g v).pending = s.pending ∧ (State.lockWrite s g v).fuses = s.fuses := by
  simp [State.lockWrite]

@[simp] theorem State.arbGrant_kept (s : State) (c k : Nat) (p : Pres) :
    (State.arbGrant s c k p).pending = s.pending ∧ (State.arbGrant s c k p).fuses = s.fuses := by
  simp only [State.arbGrant]; (repeat' split) <;> simp_all

@[simp] theorem State.arbBanks_kept (s : State) (c k : Nat) (ps : List Pres) :
    (State.arbBanks s c k ps).1.pending = s.pending ∧ (State.arbBanks s c k ps).1.fuses = s.fuses := by
  unfold State.arbBanks
  have key : ∀ (l : List Nat) (a : State × List Pres) (f : State × List Pres → Nat → State × List Pres),
      (∀ a b, (f a b).1.pending = a.1.pending ∧ (f a b).1.fuses = a.1.fuses) →
      (l.foldl f a).1.pending = a.1.pending ∧ (l.foldl f a).1.fuses = a.1.fuses := by
    intro l a f hf
    induction l generalizing a with
    | nil => exact ⟨rfl, rfl⟩
    | cons b l ih => simp only [List.foldl_cons, ih, hf, and_self]
  refine key _ _ _ ?_
  intro a b
  split <;> simp

@[simp] theorem State.arbAge_kept (s : State) (c r : Nat) (ps won : List Pres) (masked : Bool) :
    (State.arbAge s c r ps won masked).pending = s.pending ∧ (State.arbAge s c r ps won masked).fuses = s.fuses := by
  simp [State.arbAge]

@[simp] theorem State.arbPri_kept (s : State) (c r : Nat) (v : Word) :
    (State.arbPri s c r v).pending = s.pending ∧ (State.arbPri s c r v).fuses = s.fuses := by
  simp [State.arbPri]

@[simp] theorem State.remapStart_kept (s : State) (c f : Nat) :
    (State.remapStart s c f).pending = s.pending ∧ (State.remapStart s c f).fuses = s.fuses := by
  simp [State.remapStart]

@[simp] theorem State.skimUe_kept (s : State) (c j : Nat) :
    (State.skimUe s c j).pending = s.pending ∧ (State.skimUe s c j).fuses = s.fuses := by
  simp [State.skimUe]

@[simp] theorem State.skimFail_kept (s : State) (c j b : Nat) :
    (State.skimFail s c j b).pending = s.pending ∧ (State.skimFail s c j b).fuses = s.fuses := by
  simp [State.skimFail]

@[simp] theorem State.mrepCount_kept (s : State) (c n : Nat) :
    (State.mrepCount s c n).pending = s.pending ∧ (State.mrepCount s c n).fuses = s.fuses := by
  simp [State.mrepCount]

@[simp] theorem State.softRepair_kept (s : State) (c n a col : Nat) :
    (State.softRepair s c n a col).pending = s.pending ∧ (State.softRepair s c n a col).fuses = s.fuses := by
  simp [State.softRepair]

@[simp] theorem State.mrepWrite_kept (s : State) (c n : Nat) (v : Word) :
    (State.mrepWrite s c n v).pending = s.pending ∧ (State.mrepWrite s c n v).fuses = s.fuses := by
  simp [State.mrepWrite]

@[simp] theorem State.portCount_kept (s : State) (sd p k n : Nat) :
    (State.portCount s sd p k n).pending = s.pending ∧ (State.portCount s sd p k n).fuses = s.fuses := by
  simp [State.portCount]

@[simp] theorem State.portEvt_kept (s : State) (sd p : Nat) (f : Fld) :
    (State.portEvt s sd p f).pending = s.pending ∧ (State.portEvt s sd p f).fuses = s.fuses := by
  simp [State.portEvt]

@[simp] theorem State.countOut_kept (s : State) (x : Frame) (n : Nat) :
    (State.countOut s x n).pending = s.pending ∧ (State.countOut s x n).fuses = s.fuses := by
  simp [State.countOut]

@[simp] theorem State.linkFill_kept (s : State) (k n : Nat) :
    (s.linkFill k n).pending = s.pending ∧ (s.linkFill k n).fuses = s.fuses := by
  induction n generalizing s with
  | zero => exact ⟨rfl, rfl⟩
  | succ n ih => simp only [State.linkFill]; (repeat' split) <;> simp [ih]

@[simp] theorem State.linkPush_kept (s : State) (k : Nat) (m : LMsg) :
    (State.linkPush s k m).pending = s.pending ∧ (State.linkPush s k m).fuses = s.fuses := by
  simp [State.linkPush]

@[simp] theorem State.sendCell_kept (s : State) (f : Nat) (bytes : List Byte) (last : Bool) :
    (State.sendCell s f bytes last).pending = s.pending ∧ (State.sendCell s f bytes last).fuses = s.fuses := by
  simp only [State.sendCell]; (repeat' split) <;> simp_all

@[simp] theorem State.endCorrect_kept (s : State) (f : Nat) :
    (State.endCorrect s f).pending = s.pending ∧ (State.endCorrect s f).fuses = s.fuses := by
  simp [State.endCorrect]

@[simp] theorem State.lateDiscard_kept (s : State) (sd p f : Nat) :
    (State.lateDiscard s sd p f).pending = s.pending ∧ (State.lateDiscard s sd p f).fuses = s.fuses := by
  simp only [State.lateDiscard]; (repeat' split) <;> simp_all

@[simp] theorem State.setRp_kept (s : State) (d : Nat) (x : RPortSt) :
    (State.setRp s d x).pending = s.pending ∧ (State.setRp s d x).fuses = s.fuses := by
  simp [State.setRp]

@[simp] theorem State.setRpState_kept (s : State) (d n : Nat) :
    (State.setRpState s d n).pending = s.pending ∧ (State.setRpState s d n).fuses = s.fuses := by
  simp [State.setRpState]

@[simp] theorem State.ringEvt_kept (s : State) (f : Fld) :
    (State.ringEvt s f).pending = s.pending ∧ (State.ringEvt s f).fuses = s.fuses := by
  simp [State.ringEvt]

@[simp] theorem State.ringEmit_kept (s : State) (d : Nat) (m : RMsg) :
    (State.ringEmit s d m).pending = s.pending ∧ (State.ringEmit s d m).fuses = s.fuses := by
  simp [State.ringEmit]

@[simp] theorem State.ringPump_kept (s : State) (k n : Nat) :
    (s.ringPump k n).pending = s.pending ∧ (s.ringPump k n).fuses = s.fuses := by
  induction n generalizing s with
  | zero => exact ⟨rfl, rfl⟩
  | succ n ih => simp only [State.ringPump]; (repeat' split) <;> simp [ih]

@[simp] theorem State.ringSend_kept (s : State) (d dest src : Nat) (dl : Bool) (body : RBody) :
    (State.ringSend s d dest src dl body).pending = s.pending ∧ (State.ringSend s d dest src dl body).fuses = s.fuses := by
  simp [State.ringSend]

@[simp] theorem State.ringOwn_kept (s : State) (d dest : Nat) (body : RBody) :
    (State.ringOwn s d dest body).pending = s.pending ∧ (State.ringOwn s d dest body).fuses = s.fuses := by
  simp [State.ringOwn]

@[simp] theorem State.ringRefused_kept (s : State) :
    (State.ringRefused s).pending = s.pending ∧ (State.ringRefused s).fuses = s.fuses := by
  simp [State.ringRefused]

@[simp] theorem State.replSend_kept (s : State) (sa : Nat) (k full resync : Bool) (pn : Nat) :
    (State.replSend s sa k full resync pn).pending = s.pending ∧ (State.replSend s sa k full resync pn).fuses = s.fuses := by
  simp [State.replSend]

@[simp] theorem State.leaseCheck_kept (s : State) (sa : Nat) (k : Bool) (np : Nat) :
    (State.leaseCheck s sa k np).pending = s.pending ∧ (State.leaseCheck s sa k np).fuses = s.fuses := by
  simp [State.leaseCheck]

@[simp] theorem State.replKey_kept (s : State) (sa : Nat) (k resync : Bool) :
    (State.replKey s sa k resync).pending = s.pending ∧ (State.replKey s sa k resync).fuses = s.fuses := by
  simp [State.replKey]

@[simp] theorem State.replPn_kept (s : State) (sa : Nat) (k : Bool) :
    (State.replPn s sa k).pending = s.pending ∧ (State.replPn s sa k).fuses = s.fuses := by
  simp [State.replPn]

@[simp] theorem State.replAdvance_kept (s : State) (sa : Nat) (k : Bool) :
    (State.replAdvance s sa k).pending = s.pending ∧ (State.replAdvance s sa k).fuses = s.fuses := by
  simp [State.replAdvance]

@[simp] theorem State.spillSend_kept (s : State) (f : Nat) :
    (State.spillSend s f).pending = s.pending ∧ (State.spillSend s f).fuses = s.fuses := by
  simp only [State.spillSend]; (repeat' split) <;> simp_all

@[simp] theorem State.rpTrain_kept (s : State) (d : Nat) :
    (State.rpTrain s d).pending = s.pending ∧ (State.rpTrain s d).fuses = s.fuses := by
  simp [State.rpTrain]

@[simp] theorem State.saKeyWrite_kept (s : State) (sa : Nat) (v : Word) :
    (State.saKeyWrite s sa v).pending = s.pending ∧ (State.saKeyWrite s sa v).fuses = s.fuses := by
  simp [State.saKeyWrite]

@[simp] theorem State.txIdle_kept (s : State) (sd p : Nat) (b : Bool) :
    (State.txIdle s sd p b).pending = s.pending ∧ (State.txIdle s sd p b).fuses = s.fuses := by
  simp [State.txIdle]

@[simp] theorem State.enablePort_kept (s : State) (sd p : Nat) (v : Word) :
    (State.enablePort s sd p v).pending = s.pending ∧ (State.enablePort s sd p v).fuses = s.fuses := by
  simp [State.enablePort]

@[simp] theorem State.rxAbort_kept (s : State) (sd p : Nat) :
    (State.rxAbort s sd p).pending = s.pending ∧ (State.rxAbort s sd p).fuses = s.fuses := by
  simp only [State.rxAbort]; (repeat' split) <;> simp_all

@[simp] theorem State.disablePort_kept (s : State) (sd p : Nat) :
    (State.disablePort s sd p).pending = s.pending ∧ (State.disablePort s sd p).fuses = s.fuses := by
  simp [State.disablePort]

@[simp] theorem State.linkFall_kept (s : State) (sd p code : Nat) :
    (State.linkFall s sd p code).pending = s.pending ∧ (State.linkFall s sd p code).fuses = s.fuses := by
  simp [State.linkFall]

@[simp] theorem State.unlockRx_kept (s : State) (sd p : Nat) :
    (State.unlockRx s sd p).pending = s.pending ∧ (State.unlockRx s sd p).fuses = s.fuses := by
  simp [State.unlockRx]

@[simp] theorem State.handOver_kept (s : State) (sd p : Nat) (cell : List Byte) (ended : Bool) :
    (State.handOver s sd p cell ended).1.pending = s.pending ∧ (State.handOver s sd p cell ended).1.fuses = s.fuses := by
  simp [State.handOver]

@[simp] theorem State.refreshFenced_kept (s : State) (sd : Nat) :
    (State.refreshFenced s sd).pending = s.pending ∧ (State.refreshFenced s sd).fuses = s.fuses := by
  simp [State.refreshFenced]

@[simp] theorem State.portFenced_kept (s : State) (sd p : Nat) :
    (State.portFenced s sd p).pending = s.pending ∧ (State.portFenced s sd p).fuses = s.fuses := by
  simp [State.portFenced]

@[simp] theorem State.fenceLane_kept (s : State) (sd l : Nat) :
    (State.fenceLane s sd l).pending = s.pending ∧ (State.fenceLane s sd l).fuses = s.fuses := by
  simp [State.fenceLane]

@[simp] theorem State.unfenceLane_kept (s : State) (sd l : Nat) :
    (State.unfenceLane s sd l).pending = s.pending ∧ (State.unfenceLane s sd l).fuses = s.fuses := by
  simp [State.unfenceLane]

@[simp] theorem State.fenceQuad_kept (s : State) (sd q code : Nat) :
    (State.fenceQuad s sd q code).pending = s.pending ∧ (State.fenceQuad s sd q code).fuses = s.fuses := by
  simp [State.fenceQuad]

@[simp] theorem State.bufErr_kept (s : State) (sd p : Nat) (egress ue : Bool) :
    (State.bufErr s sd p egress ue).pending = s.pending ∧ (State.bufErr s sd p egress ue).fuses = s.fuses := by
  simp [State.bufErr]

@[simp] theorem State.abandon_kept (s : State) (sd p : Nat) (sent : List Byte) :
    (State.abandon s sd p sent).pending = s.pending ∧ (State.abandon s sd p sent).fuses = s.fuses := by
  simp [State.abandon]

@[simp] theorem State.underrun_kept (s : State) (sd p f : Nat) (sent : List Byte) :
    (State.underrun s sd p f sent).pending = s.pending ∧ (State.underrun s sd p f sent).fuses = s.fuses := by
  simp [State.underrun]

@[simp] theorem State.deadlineMiss_kept (s : State) (f : Nat) :
    (State.deadlineMiss s f).pending = s.pending ∧ (State.deadlineMiss s f).fuses = s.fuses := by
  simp [State.deadlineMiss]

@[simp] theorem State.txFrame_kept (s : State) (sd p f n : Nat) :
    (State.txFrame s sd p f n).pending = s.pending ∧ (State.txFrame s sd p f n).fuses = s.fuses := by
  simp [State.txFrame]

@[simp] theorem State.saEvent_kept (s : State) (kind sa : Nat) :
    (State.saEvent s kind sa).pending = s.pending ∧ (State.saEvent s kind sa).fuses = s.fuses := by
  simp [State.saEvent]

@[simp] theorem State.stopSa_kept (s : State) (sa : Nat) :
    (State.stopSa s sa).pending = s.pending ∧ (State.stopSa s sa).fuses = s.fuses := by
  simp [State.stopSa]

@[simp] theorem State.pnTake_kept (s : State) (sa : Nat) (k : Bool) (np : Nat) :
    (State.pnTake s sa k np).pending = s.pending ∧ (State.pnTake s sa k np).fuses = s.fuses := by
  simp [State.pnTake]

@[simp] theorem State.refuse_kept (s : State) (f code : Nat) (sa : Option Nat) :
    (State.refuse s f code sa).pending = s.pending ∧ (State.refuse s f code sa).fuses = s.fuses := by
  unfold State.refuse; (repeat' split) <;> simp

@[simp] theorem State.admitFrame_kept (s : State) (f : Nat) (h : Hdr) (k : Found) (pl : Place) (l : Nat) (whole : Bool) (q outL : Nat) (cand : List Nat) (buf cells : Nat) :
    (State.admitFrame s f h k pl l whole q outL cand buf cells).pending = s.pending ∧ (State.admitFrame s f h k pl l whole q outL cand buf cells).fuses = s.fuses := by
  unfold State.admitFrame; (repeat' split) <;> simp

@[simp] theorem State.judge_kept (s : State) (f : Nat) (ue : Bool) :
    (State.judge s f ue).pending = s.pending ∧ (State.judge s f ue).fuses = s.fuses := by
  simp only [State.judge]; (repeat' split) <;> simp_all

@[simp] theorem State.takeDesc_kept (s : State) (f : Nat) :
    (State.takeDesc s f).pending = s.pending ∧ (State.takeDesc s f).fuses = s.fuses := by
  simp [State.takeDesc]

@[simp] theorem State.takeCell_kept (s : State) (f idx : Nat) (bytes : List Byte) (last ue : Bool) :
    (State.takeCell s f idx bytes last ue).pending = s.pending ∧ (State.takeCell s f idx bytes last ue).fuses = s.fuses := by
  simp [State.takeCell]

@[simp] theorem State.takeArrival_kept (s : State) (f : Nat) (discard : Bool) :
    (State.takeArrival s f discard).pending = s.pending ∧ (State.takeArrival s f discard).fuses = s.fuses := by
  simp [State.takeArrival]

@[simp] theorem State.pullAll_kept (s : State) (f : Nat) :
    (State.pullAll s f).pending = s.pending ∧ (State.pullAll s f).fuses = s.fuses := by
  simp [State.pullAll]

@[simp] theorem State.exitRefused_kept (s : State) (f : Nat) (red : Bool) :
    (State.exitRefused s f red).pending = s.pending ∧ (State.exitRefused s f red).fuses = s.fuses := by
  simp [State.exitRefused]

@[simp] theorem State.handToShaper_kept (s : State) (f : Nat) :
    (State.handToShaper s f).pending = s.pending ∧ (State.handToShaper s f).fuses = s.fuses := by
  simp [State.handToShaper]

@[simp] theorem State.takePull_kept (s : State) (f idx : Nat) (ecc : Ecc) :
    (State.takePull s f idx ecc).pending = s.pending ∧ (State.takePull s f idx ecc).fuses = s.fuses := by
  simp [State.takePull]

@[simp] theorem State.takeProgress_kept (s : State) (f n : Nat) :
    (State.takeProgress s f n).pending = s.pending ∧ (State.takeProgress s f n).fuses = s.fuses := by
  simp [State.takeProgress]

@[simp] theorem State.reservePull_kept (s : State) (q b : Nat) :
    (State.reservePull s q b).pending = s.pending ∧ (State.reservePull s q b).fuses = s.fuses := by
  unfold State.reservePull; (repeat' split) <;> simp

@[simp] theorem State.puttyDrop_kept (s : State) (f : Nat) :
    (State.puttyDrop s f).pending = s.pending ∧ (State.puttyDrop s f).fuses = s.fuses := by
  simp [State.puttyDrop]

@[simp] theorem State.ringResult_kept (s : State) (f result len : Nat) :
    (State.ringResult s f result len).pending = s.pending ∧ (State.ringResult s f result len).fuses = s.fuses := by
  simp [State.ringResult]

@[simp] theorem State.takeDone_kept (s : State) (f result len : Nat) :
    (State.takeDone s f result len).pending = s.pending ∧ (State.takeDone s f result len).fuses = s.fuses := by
  simp only [State.takeDone]; (repeat' split) <;> simp_all

@[simp] theorem State.frmNext_kept (s : State) (g : Nat) :
    (State.frmNext s g).1.pending = s.pending ∧ (State.frmNext s g).1.fuses = s.fuses := by
  simp only [State.frmNext]; (repeat' split) <;> simp_all

@[simp] theorem State.frmStray_kept (s : State) (g tag : Nat) :
    (State.frmStray s g tag).pending = s.pending ∧ (State.frmStray s g tag).fuses = s.fuses := by
  simp [State.frmStray]

@[simp] theorem State.frmProgress_kept (s : State) (g : Nat) (v : Word) :
    (State.frmProgress s g v).pending = s.pending ∧ (State.frmProgress s g v).fuses = s.fuses := by
  simp only [State.frmProgress]; (repeat' split) <;> simp_all

@[simp] theorem State.completeAt_kept (s : State) (g f : Nat) :
    (State.completeAt s g f).pending = s.pending ∧ (State.completeAt s g f).fuses = s.fuses := by
  simp [State.completeAt]

@[simp] theorem State.frmDone_kept (s : State) (g : Nat) (lo hi : Word) :
    (State.frmDone s g lo hi).pending = s.pending ∧ (State.frmDone s g lo hi).fuses = s.fuses := by
  simp only [State.frmDone]; (repeat' split) <;> simp_all

@[simp] theorem State.linkRetry_kept (s : State) (k : Nat) :
    (State.linkRetry s k).pending = s.pending ∧ (State.linkRetry s k).fuses = s.fuses := by
  simp [State.linkRetry]

@[simp] theorem State.linkAudit_kept (s : State) (k : Nat) :
    (State.linkAudit s k).pending = s.pending ∧ (State.linkAudit s k).fuses = s.fuses := by
  simp [State.linkAudit]

@[simp] theorem State.poolWrite_kept (s : State) (c : Nat) (v : Word) :
    (State.poolWrite s c v).pending = s.pending ∧ (State.poolWrite s c v).fuses = s.fuses := by
  simp [State.poolWrite]

@[simp] theorem State.setBitmap_kept (s : State) (sa : Nat) (k : Bool) (b : BitVec 256) :
    (State.setBitmap s sa k b).pending = s.pending ∧ (State.setBitmap s sa k b).fuses = s.fuses := by
  simp [State.setBitmap]

@[simp] theorem State.replayTake_kept (s : State) (sa : Nat) (k : Bool) (pn : Nat) :
    (State.replayTake s sa k pn).pending = s.pending ∧ (State.replayTake s sa k pn).fuses = s.fuses := by
  simp [State.replayTake]

@[simp] theorem State.leaveOrder_kept (s : State) (sd p f : Nat) :
    (State.leaveOrder s sd p f).pending = s.pending ∧ (State.leaveOrder s sd p f).fuses = s.fuses := by
  simp [State.leaveOrder]

@[simp] theorem State.release_kept (s : State) (sd p f : Nat) :
    (State.release s sd p f).pending = s.pending ∧ (State.release s sd p f).fuses = s.fuses := by
  simp [State.release]

@[simp] theorem State.auditPort_kept (s : State) (sd p : Nat) :
    (State.auditPort s sd p).pending = s.pending ∧ (State.auditPort s sd p).fuses = s.fuses := by
  simp [State.auditPort]

@[simp] theorem State.ztfCommit_kept (s : State) (q : Nat) :
    (State.ztfCommit s q).pending = s.pending ∧ (State.ztfCommit s q).fuses = s.fuses := by
  simp [State.ztfCommit]

@[simp] theorem State.puttyAdmit_kept (s : State) (q b sa : Nat) (k : Bool) (np cls core : Nat) (c : Word) (pb buf cells : Nat) :
    (State.puttyAdmit s q b sa k np cls core c pb buf cells).pending = s.pending ∧ (State.puttyAdmit s q b sa k np cls core c pb buf cells).fuses = s.fuses := by
  simp [State.puttyAdmit]

@[simp] theorem State.puttyRefuse_kept (s : State) (q : Nat) :
    (State.puttyRefuse s q).pending = s.pending ∧ (State.puttyRefuse s q).fuses = s.fuses := by
  simp [State.puttyRefuse]

@[simp] theorem State.puttyJob_kept (s : State) (q b : Nat) :
    (State.puttyJob s q b).pending = s.pending ∧ (State.puttyJob s q b).fuses = s.fuses := by
  simp only [State.puttyJob]; (repeat' split) <;> simp_all

@[simp] theorem State.sendPutty_kept (s : State) (q b f : Nat) (n : Nat) :
    (State.sendPutty s q b f n).pending = s.pending ∧ (State.sendPutty s q b f n).fuses = s.fuses := by
  simp [State.sendPutty]

@[simp] theorem State.starve_kept (s : State) (q b : Nat) :
    (State.starve s q b).pending = s.pending ∧ (State.starve s q b).fuses = s.fuses := by
  simp [State.starve]

@[simp] theorem State.fillSlot_kept (s : State) (q b : Nat) :
    (State.fillSlot s q b).pending = s.pending ∧ (State.fillSlot s q b).fuses = s.fuses := by
  simp only [State.fillSlot]; (repeat' split) <;> simp_all

@[simp] theorem State.costCommit_kept (s : State) (t : Nat) :
    (State.costCommit s t).pending = s.pending ∧ (State.costCommit s t).fuses = s.fuses := by
  simp [State.costCommit]

@[simp] theorem State.costInval_kept (s : State) (t : Nat) :
    (State.costInval s t).pending = s.pending ∧ (State.costInval s t).fuses = s.fuses := by
  simp [State.costInval]

@[simp] theorem State.nextPnWrite_kept (s : State) (sa : Nat) (k : Bool) (v : Nat) :
    (State.nextPnWrite s sa k v).pending = s.pending ∧ (State.nextPnWrite s sa k v).fuses = s.fuses := by
  simp [State.nextPnWrite]

@[simp] theorem State.saEvtPop_kept (s : State) :
    (State.saEvtPop s).1.pending = s.pending ∧ (State.saEvtPop s).1.fuses = s.fuses := by
  unfold State.saEvtPop; (repeat' split) <;> simp

@[simp] theorem State.enterTest_kept (s : State) (g sub : Nat) :
    (State.enterTest s g sub).pending = s.pending ∧ (State.enterTest s g sub).fuses = s.fuses := by
  simp [State.enterTest]

@[simp] theorem State.stepTake_kept (s : State) (c : Nat) (spare : Option Nat) :
    (State.stepTake s c spare).pending = s.pending ∧ (State.stepTake s c spare).fuses = s.fuses := by
  simp only [State.stepTake]; (repeat' split) <;> simp_all

@[simp] theorem State.rotStep_kept (s : State) (c : Nat) :
    (State.rotStep s c).pending = s.pending ∧ (State.rotStep s c).fuses = s.fuses := by
  simp only [State.rotStep]; (repeat' split) <;> simp_all

@[simp] theorem State.forceCore_kept (s : State) (c n : Nat) :
    (State.forceCore s c n).pending = s.pending ∧ (State.forceCore s c n).fuses = s.fuses := by
  simp [State.forceCore]

@[simp] theorem State.toReload_kept (s : State) (g : Nat) :
    (State.toReload s g).pending = s.pending ∧ (State.toReload s g).fuses = s.fuses := by
  simp [State.toReload]

@[simp] theorem State.drawBytes_kept (s : State) (n : Nat) :
    (State.drawBytes s n).2.pending = s.pending ∧ (State.drawBytes s n).2.fuses = s.fuses := by
  simp [State.drawBytes]

@[simp] theorem State.releaseCore_kept (s : State) (g : Nat) :
    (State.releaseCore s g).pending = s.pending ∧ (State.releaseCore s g).fuses = s.fuses := by
  simp [State.releaseCore]

@[simp] theorem State.rotReady_kept (s : State) (g : Nat) :
    (State.rotReady s g).pending = s.pending ∧ (State.rotReady s g).fuses = s.fuses := by
  simp [State.rotReady]

@[simp] theorem State.recRead_kept (s : State) (who : Prin) (off : Nat) (r : Option ErrRec) :
    (State.recRead s who off r).2.pending = s.pending ∧ (State.recRead s who off r).2.fuses = s.fuses := by
  simp [State.recRead]

@[simp] theorem State.errqRead_kept (s : State) (who : Prin) (c : Nat) :
    (State.errqRead s who c).2.pending = s.pending ∧ (State.errqRead s who c).2.fuses = s.fuses := by
  simp only [State.errqRead]; (repeat' split) <;> simp_all

@[simp] theorem State.derrqRead_kept (s : State) (who : Prin) :
    (State.derrqRead s who).2.pending = s.pending ∧ (State.derrqRead s who).2.fuses = s.fuses := by
  unfold State.derrqRead; (repeat' split) <;> simp

@[simp] theorem State.popGuard_kept (s : State) (who : Prin) (off : Nat) (act : State → Word × State)
    (h : ∀ s, (act s).2.pending = s.pending ∧ (act s).2.fuses = s.fuses) :
    (s.popGuard who off act).pending = s.pending ∧ (s.popGuard who off act).fuses = s.fuses := by
  simp only [State.popGuard]; (repeat' split) <;> simp [h]

@[simp] theorem State.aliveKick_kept (s : State) :
    (State.aliveKick s).pending = s.pending ∧ (State.aliveKick s).fuses = s.fuses := by
  simp [State.aliveKick]

@[simp] theorem State.pwrCmd_kept (s : State) (v : Word) :
    (State.pwrCmd s v).pending = s.pending ∧ (State.pwrCmd s v).fuses = s.fuses := by
  simp [State.pwrCmd]

@[simp] theorem State.loseDomain_kept (s : State) (d : Nat) :
    (State.loseDomain s d).pending = s.pending ∧ (State.loseDomain s d).fuses = s.fuses := by
  simp [State.loseDomain]

@[simp] theorem State.poweredUp_kept (s : State) (d : Nat) :
    (State.poweredUp s d).pending = s.pending ∧ (State.poweredUp s d).fuses = s.fuses := by
  simp [State.poweredUp]

@[simp] theorem State.releaseDomain_kept (s : State) (d : Nat) :
    (State.releaseDomain s d).pending = s.pending ∧ (State.releaseDomain s d).fuses = s.fuses := by
  simp [State.releaseDomain]

@[simp] theorem State.dustCtl_kept (s : State) (v : Word) :
    (State.dustCtl s v).pending = s.pending ∧ (State.dustCtl s v).fuses = s.fuses := by
  simp [State.dustCtl]

@[simp] theorem State.unfenceUnit_kept (s : State) (k i : Nat) :
    (State.unfenceUnit s k i).pending = s.pending ∧ (State.unfenceUnit s k i).fuses = s.fuses := by
  unfold State.unfenceUnit; (repeat' split) <;> simp

@[simp] theorem State.releaseFail_kept (s : State) (k i : Nat) :
    (State.releaseFail s k i).pending = s.pending ∧ (State.releaseFail s k i).fuses = s.fuses := by
  unfold State.releaseFail; (repeat' split) <;> simp

@[simp] theorem State.keepSheet_kept (s : State) (c : Nat) :
    (State.keepSheet s c).pending = s.pending ∧ (State.keepSheet s c).fuses = s.fuses := by
  simp [State.keepSheet]

@[simp] theorem State.warmReset_kept (s : State) (cause : Nat) :
    (State.warmReset s cause).pending = s.pending ∧ (State.warmReset s cause).fuses = s.fuses := by
  simp [State.warmReset]

@[simp] theorem State.powerReset_kept (s : State) (kept : Option Nat) :
    (State.powerReset s kept).pending = s.pending ∧ (State.powerReset s kept).fuses = s.fuses := by
  unfold State.powerReset; (repeat' split) <;> simp

@[simp] theorem State.thermalReset_kept (s : State) :
    (State.thermalReset s).pending = s.pending ∧ (State.thermalReset s).fuses = s.fuses := by
  simp [State.thermalReset]

@[simp] theorem State.resetBy_kept (s : State) (cause : Nat) :
    (State.resetBy s cause).pending = s.pending ∧ (State.resetBy s cause).fuses = s.fuses := by
  simp [State.resetBy]

@[simp] theorem State.requestReset_kept (s : State) (cause : Nat) :
    (State.requestReset s cause).pending = s.pending ∧ (State.requestReset s cause).fuses = s.fuses := by
  simp [State.requestReset]

@[simp] theorem State.clkEvt_kept (s : State) (f : Fld) :
    (State.clkEvt s f).pending = s.pending ∧ (State.clkEvt s f).fuses = s.fuses := by
  simp [State.clkEvt]

@[simp] theorem State.refSwitch_kept (s : State) (b : Bool) :
    (State.refSwitch s b).pending = s.pending ∧ (State.refSwitch s b).fuses = s.fuses := by
  simp [State.refSwitch]

@[simp] theorem State.refFault_kept (s : State) (b : Bool) :
    (State.refFault s b).pending = s.pending ∧ (State.refFault s b).fuses = s.fuses := by
  simp [State.refFault]

@[simp] theorem State.refSel_kept (s : State) (b : Bool) :
    (State.refSel s b).pending = s.pending ∧ (State.refSel s b).fuses = s.fuses := by
  simp [State.refSel]

@[simp] theorem State.pllSwitch_kept (s : State) (fault : Bool) :
    (State.pllSwitch s fault).pending = s.pending ∧ (State.pllSwitch s fault).fuses = s.fuses := by
  simp [State.pllSwitch]

@[simp] theorem State.pllSel_kept (s : State) (b : Bool) :
    (State.pllSel s b).pending = s.pending ∧ (State.pllSel s b).fuses = s.fuses := by
  simp [State.pllSel]

@[simp] theorem State.monEvt_kept (s : State) (f : Fld) :
    (State.monEvt s f).pending = s.pending ∧ (State.monEvt s f).fuses = s.fuses := by
  simp [State.monEvt]

@[simp] theorem State.tintCtl_kept (s : State) (v : Word) :
    (State.tintCtl s v).pending = s.pending ∧ (State.tintCtl s v).fuses = s.fuses := by
  simp [State.tintCtl]

@[simp] theorem State.setDmaRun_kept (s : State) (c n : Nat) (r : Option DmaRun) :
    (State.setDmaRun s c n r).pending = s.pending ∧ (State.setDmaRun s c n r).fuses = s.fuses := by
  simp [State.setDmaRun]

@[simp] theorem State.dmaWrite_kept (s : State) (c a : Nat) (w : TD) :
    (State.dmaWrite s c a w).pending = s.pending ∧ (State.dmaWrite s c a w).fuses = s.fuses := by
  simp [State.dmaWrite]

@[simp] theorem State.dmaReadErr_kept (s : State) (c a : Nat) (ue : Bool) :
    (State.dmaReadErr s c a ue).pending = s.pending ∧ (State.dmaReadErr s c a ue).fuses = s.fuses := by
  unfold State.dmaReadErr; (repeat' split) <;> simp

@[simp] theorem State.dmaFall_kept (s : State) (c n : Nat) :
    (State.dmaFall s c n).pending = s.pending ∧ (State.dmaFall s c n).fuses = s.fuses := by
  unfold State.dmaFall; (repeat' split) <;> simp

@[simp] theorem State.dmaAbort_kept (s : State) (c n cause : Nat) :
    (State.dmaAbort s c n cause).pending = s.pending ∧ (State.dmaAbort s c n cause).fuses = s.fuses := by
  simp only [State.dmaAbort]; (repeat' split) <;> simp_all

@[simp] theorem State.dmaCtl_kept (s : State) (c n : Nat) (v : Word) :
    (State.dmaCtl s c n v).pending = s.pending ∧ (State.dmaCtl s c n v).fuses = s.fuses := by
  simp [State.dmaCtl]

@[simp] theorem State.dmaTail_kept (s : State) (c n : Nat) (v : Word) :
    (State.dmaTail s c n v).pending = s.pending ∧ (State.dmaTail s c n v).fuses = s.fuses := by
  simp [State.dmaTail]

@[simp] theorem State.dmaQcfg_kept (s : State) (c n : Nat) (v : Word) :
    (State.dmaQcfg s c n v).pending = s.pending ∧ (State.dmaQcfg s c n v).fuses = s.fuses := by
  simp [State.dmaQcfg]

@[simp] theorem State.dmaFetch_kept (s : State) (c a k : Nat) (ecc : Ecc) :
    (State.dmaFetch s c a k ecc).2.pending = s.pending ∧ (State.dmaFetch s c a k ecc).2.fuses = s.fuses := by
  unfold State.dmaFetch; (repeat' split) <;> simp

@[simp] theorem State.dmaWrites_kept (s : State) (c a : Nat) (l : List TD) :
    (s.dmaWrites c a l).pending = s.pending ∧ (s.dmaWrites c a l).fuses = s.fuses := by
  induction l generalizing s a with
  | nil => exact ⟨rfl, rfl⟩
  | cons w l ih => simp only [State.dmaWrites]; (repeat' split) <;> simp [ih]

@[simp] theorem State.dmaBurstRun_kept (s : State) (c n : Nat) (r : DmaRun) (ecc : Ecc) :
    (State.dmaBurstRun s c n r ecc).pending = s.pending ∧ (State.dmaBurstRun s c n r ecc).fuses = s.fuses := by
  unfold State.dmaBurstRun; (repeat' split) <;> simp

@[simp] theorem State.levelRise_kept (s : State) (k : Nat) :
    (State.levelRise s k).pending = s.pending ∧ (State.levelRise s k).fuses = s.fuses := by
  simp [State.levelRise]

@[simp] theorem State.srcSet_kept (s : State) (src : EvSrc) :
    (State.srcSet s src).pending = s.pending ∧ (State.srcSet s src).fuses = s.fuses := by
  simp [State.srcSet]

@[simp] theorem State.srcClr_kept (s : State) (src : EvSrc) :
    (State.srcClr s src).pending = s.pending ∧ (State.srcClr s src).fuses = s.fuses := by
  simp [State.srcClr]

@[simp] theorem State.srcCfg_kept (s : State) (src : EvSrc) (v : Word) :
    (State.srcCfg s src v).pending = s.pending ∧ (State.srcCfg s src v).fuses = s.fuses := by
  unfold State.srcCfg; (repeat' split) <;> simp

@[simp] theorem State.pinEvent_kept (s : State) (k : Nat) (v : Bool) :
    (State.pinEvent s k v).pending = s.pending ∧ (State.pinEvent s k v).fuses = s.fuses := by
  simp [State.pinEvent]

@[simp] theorem State.pinFall_kept (s : State) (k : Nat) :
    (State.pinFall s k).pending = s.pending ∧ (State.pinFall s k).fuses = s.fuses := by
  simp [State.pinFall]

@[simp] theorem State.putCtx_kept (s : State) (idx : Nat) (x : SkbCtx) (homes : List Nat) :
    (State.putCtx s idx x homes).pending = s.pending ∧ (State.putCtx s idx x homes).fuses = s.fuses := by
  simp [State.putCtx]

@[simp] theorem State.dropCtx_kept (s : State) (idx : Nat) (homes : List Nat) :
    (State.dropCtx s idx homes).pending = s.pending ∧ (State.dropCtx s idx homes).fuses = s.fuses := by
  simp [State.dropCtx]

@[simp] theorem State.trngWord_kept (s : State) (secret : Bool) :
    (State.trngWord s secret).2.pending = s.pending ∧ (State.trngWord s secret).2.fuses = s.fuses := by
  unfold State.trngWord; (repeat' split) <;> simp

@[simp] theorem State.trngRead_kept (s : State) (g rd : Nat) (secret : Bool) :
    (State.trngRead s g rd secret).pending = s.pending ∧ (State.trngRead s g rd secret).fuses = s.fuses := by
  simp [State.trngRead]

@[simp] theorem State.dmaStopAll_kept (s : State) (cause : Nat) :
    (State.dmaStopAll s cause).pending = s.pending ∧ (State.dmaStopAll s cause).fuses = s.fuses := by
  simp [State.dmaStopAll]

@[simp] theorem State.lineIdle_kept (s : State) :
    (State.lineIdle s).pending = s.pending ∧ (State.lineIdle s).fuses = s.fuses := by
  simp [State.lineIdle]

@[simp] theorem State.clearRoot_kept (s : State) :
    (State.clearRoot s).pending = s.pending ∧ (State.clearRoot s).fuses = s.fuses := by
  simp [State.clearRoot]

@[simp] theorem State.zeroise_kept (s : State) (cause : Nat) (root : Bool) :
    (State.zeroise s cause root).pending = s.pending ∧ (State.zeroise s cause root).fuses = s.fuses := by
  simp [State.zeroise]

@[simp] theorem State.respond_kept (s : State) (gen : Nat) (rsp : List Byte) :
    (State.respond s gen rsp).pending = s.pending ∧ (State.respond s gen rsp).fuses = s.fuses := by
  simp [State.respond]

@[simp] theorem State.store_kept (s : State) (c rsp : List Byte) :
    (State.store s c rsp).pending = s.pending ∧ (State.store s c rsp).fuses = s.fuses := by
  simp [State.store]

@[simp] theorem State.finish_kept (s : State) (gen : Nat) (c : List Byte) (r : Reply) :
    (s.finish gen c r).pending = s.pending ∧ (s.finish gen c r).fuses = s.fuses := by
  cases r <;> simp [State.finish]

@[simp] theorem State.mbxSkip_kept (s : State) (n : Nat) :
    (s.mbxSkip n).pending = s.pending ∧ (s.mbxSkip n).fuses = s.fuses := by
  induction n generalizing s with
  | zero => exact ⟨rfl, rfl⟩
  | succ n ih => simp only [State.mbxSkip]; (repeat' split) <;> simp [ih]

@[simp] theorem State.mbxTake_kept (s : State) :
    (State.mbxTake s).pending = s.pending ∧ (State.mbxTake s).fuses = s.fuses := by
  simp [State.mbxTake]

/-- A mailbox command whose own effect keeps the queue keeps it. -/
theorem State.command_pending (s : State) (op : Nat) (states : List Nat) (recovery : Bool) (len : Nat → Bool)
    (zero : List (Nat × Nat)) (run : State → List Byte → State × Reply) (h : ∀ s p, (run s p).1.pending = s.pending) :
    (s.command op states recovery len zero run).pending = s.pending := by
  simp only [State.command]; (repeat' split) <;> simp [h]

/-- A mailbox command whose own effect keeps the queue and the fuses keeps them. -/
@[simp] theorem State.command_kept (s : State) (op : Nat) (states : List Nat) (recovery : Bool) (len : Nat → Bool)
    (zero : List (Nat × Nat)) (run : State → List Byte → State × Reply)
    (h : ∀ s p, (run s p).1.pending = s.pending ∧ (run s p).1.fuses = s.fuses) :
    (s.command op states recovery len zero run).pending = s.pending ∧ (s.command op states recovery len zero run).fuses = s.fuses := by
  simp only [State.command]; (repeat' split) <;> simp [h]

@[simp] theorem State.mbxRelease_kept (s : State) :
    (State.mbxRelease s).pending = s.pending ∧ (State.mbxRelease s).fuses = s.fuses := by
  simp only [State.mbxRelease]; (repeat' split) <;> simp_all

@[simp] theorem State.mbxGo_kept (s : State) :
    (State.mbxGo s).pending = s.pending ∧ (State.mbxGo s).fuses = s.fuses := by
  simp [State.mbxGo]

@[simp] theorem State.mbxAck_kept (s : State) :
    (State.mbxAck s).pending = s.pending ∧ (State.mbxAck s).fuses = s.fuses := by
  simp [State.mbxAck]

@[simp] theorem State.randomBytes_kept (s : State) (secret : Bool) (n : Nat) :
    (s.randomBytes secret n).2.pending = s.pending ∧ (s.randomBytes secret n).2.fuses = s.fuses := by
  induction n generalizing s with
  | zero => exact ⟨rfl, rfl⟩
  | succ n ih => simp [State.randomBytes, ih]

@[simp] theorem State.afterKey_kept (s s0 : State) (sa : Nat) (p : List Byte) :
    (s.afterKey s0 sa p).1.pending = s.pending ∧ (s.afterKey s0 sa p).1.fuses = s.fuses := by
  simp only [State.afterKey]; split <;> exact ⟨rfl, rfl⟩

@[simp] theorem State.wrW_kept (s : State) (off : Nat) (w : Word) :
    (State.wrW s off w).pending = s.pending ∧ (State.wrW s off w).fuses = s.fuses := by
  simp [State.wrW]

@[simp] theorem State.wrW64_kept (s : State) (off v : Nat) :
    (State.wrW64 s off v).pending = s.pending ∧ (State.wrW64 s off v).fuses = s.fuses := by
  simp [State.wrW64]

@[simp] theorem State.saFill_kept (s : State) (sa : Nat) (p : List Byte) (i : Nat) :
    (State.saFill s sa p i).pending = s.pending ∧ (State.saFill s sa p i).fuses = s.fuses := by
  simp [State.saFill]

@[simp] theorem State.saCreate_kept (s : State) (p : List Byte) :
    (State.saCreate s p).1.pending = s.pending ∧ (State.saCreate s p).1.fuses = s.fuses := by
  simp only [State.saCreate]
  (repeat' split) <;> (try simp) <;> (refine foldl_kept _ _ ?_ _; intro _ _; (try dsimp only); (repeat' split) <;> simp)

@[simp] theorem State.addRetire_kept (s : State) (rs : List Retire) :
    (State.addRetire s rs).pending = s.pending ∧ (State.addRetire s rs).fuses = s.fuses := by
  simp [State.addRetire]

@[simp] theorem State.saDelete_kept (s : State) (p : List Byte) :
    (State.saDelete s p).1.pending = s.pending ∧ (State.saDelete s p).1.fuses = s.fuses := by
  simp only [State.saDelete]; (repeat' split) <;> simp_all

@[simp] theorem State.saUpdate_kept (s : State) (p : List Byte) :
    (State.saUpdate s p).1.pending = s.pending ∧ (State.saUpdate s p).1.fuses = s.fuses := by
  simp only [State.saUpdate]
  (repeat' split) <;> (try simp) <;> (refine foldl_kept _ _ ?_ _; intro _ _; (try dsimp only); (repeat' split) <;> simp)

theorem State.installKey_kept (s t : State) (r : KeyReq) (plain : List Byte) (i : Nat)
    (h : s.installKey r plain = some (t, i)) : t.pending = s.pending ∧ t.fuses = s.fuses := by
  unfold State.installKey at h
  dsimp only at h
  split at h
  · cases h
  · simp only [Option.some.injEq, Prod.mk.injEq] at h
    rw [← h.1]
    simp

@[simp] theorem State.keyImport_kept (s : State) (p : List Byte) :
    (State.keyImport s p).1.pending = s.pending ∧ (State.keyImport s p).1.fuses = s.fuses := by
  unfold State.keyImport
  repeat' split
  all_goals first
    | exact ⟨rfl, rfl⟩
    | (next h => simp [State.installKey_kept _ _ _ _ _ h])

@[simp] theorem State.keyActivate_kept (s : State) (p : List Byte) :
    (State.keyActivate s p).1.pending = s.pending ∧ (State.keyActivate s p).1.fuses = s.fuses := by
  unfold State.keyActivate; (repeat' split) <;> simp

@[simp] theorem State.keyRetire_kept (s : State) (p : List Byte) :
    (State.keyRetire s p).1.pending = s.pending ∧ (State.keyRetire s p).1.fuses = s.fuses := by
  simp only [State.keyRetire]; (repeat' split) <;> simp_all

@[simp] theorem State.replStart_kept (s : State) (sa : Nat) :
    (State.replStart s sa).pending = s.pending ∧ (State.replStart s sa).fuses = s.fuses := by
  simp only [State.replStart]; (repeat' split) <;> simp_all

@[simp] theorem State.saProtect_kept (s : State) (p : List Byte) :
    (State.saProtect s p).1.pending = s.pending ∧ (State.saProtect s p).1.fuses = s.fuses := by
  simp only [State.saProtect]; (repeat' split) <;> simp_all

@[simp] theorem State.sign_kept (s : State) (seed msg : List Byte) :
    (State.sign s seed msg).2.pending = s.pending ∧ (State.sign s seed msg).2.fuses = s.fuses := by
  simp [State.sign]

@[simp] theorem State.runKernel_kept (s : State) (g : Nat) :
    (State.runKernel s g).pending = s.pending ∧ (State.runKernel s g).fuses = s.fuses := by
  simp [State.runKernel]

@[simp] theorem State.unbind_kept (s : State) (g : Nat) :
    (State.unbind s g).pending = s.pending ∧ (State.unbind s g).fuses = s.fuses := by
  unfold State.unbind; (repeat' split) <;> simp

@[simp] theorem State.openHandle_kept (s : State) (slot : Nat) (k : KeHandle) :
    (State.openHandle s slot k).1.pending = s.pending ∧ (State.openHandle s slot k).1.fuses = s.fuses := by
  simp [State.openHandle]

@[simp] theorem State.keInit_kept (s : State) (p : List Byte) :
    (State.keInit s p).1.pending = s.pending ∧ (State.keInit s p).1.fuses = s.fuses := by
  simp only [State.keInit]; (repeat' split) <;> simp_all

@[simp] theorem State.keRespond_kept (s : State) (p : List Byte) :
    (State.keRespond s p).1.pending = s.pending ∧ (State.keRespond s p).1.fuses = s.fuses := by
  unfold State.keRespond
  dsimp only
  repeat' split
  all_goals first
    | exact ⟨rfl, rfl⟩
    | (next h => simp [State.installKey_kept _ _ _ _ _ h])

@[simp] theorem State.keFinish_kept (s : State) (p : List Byte) :
    (State.keFinish s p).1.pending = s.pending ∧ (State.keFinish s p).1.fuses = s.fuses := by
  unfold State.keFinish
  dsimp only
  repeat' split
  all_goals first
    | exact ⟨rfl, rfl⟩
    | (next h => simp [State.installKey_kept _ _ _ _ _ h])

@[simp] theorem State.useNonce_kept (s : State) :
    (State.useNonce s).pending = s.pending ∧ (State.useNonce s).fuses = s.fuses := by
  simp [State.useNonce]

@[simp] theorem State.peerTrust_kept (s : State) (p : List Byte) :
    (State.peerTrust s p).1.pending = s.pending ∧ (State.peerTrust s p).1.fuses = s.fuses := by
  simp only [State.peerTrust]; (repeat' split) <;> simp_all

@[simp] theorem State.ownerProvision_kept (s : State) (p : List Byte) :
    (State.ownerProvision s p).1.pending = s.pending := by
  simp only [State.ownerProvision]; (repeat' split) <;> simp_all

@[simp] theorem State.lcAdvance_kept (s : State) (p : List Byte) : (State.lcAdvance s p).1.pending = s.pending := by
  simp only [State.lcAdvance]; (repeat' split) <;> simp_all

@[simp] theorem State.costPut_kept (s : State) (t : Nat) (bs : List Byte) :
    (State.costPut s t bs).pending = s.pending ∧ (State.costPut s t bs).fuses = s.fuses := by
  simp [State.costPut]

@[simp] theorem State.costLoad_kept (s : State) (p : List Byte) :
    (State.costLoad s p).1.pending = s.pending ∧ (State.costLoad s p).1.fuses = s.fuses := by
  simp only [State.costLoad]; (repeat' split) <;> simp_all

@[simp] theorem State.flashImage_kept (s : State) (b : List Byte) :
    (State.flashImage s b).pending = s.pending ∧ (State.flashImage s b).fuses = s.fuses := by
  simp [State.flashImage]

@[simp] theorem State.mirrorStart_kept (s : State) (im : CoreImage) :
    (State.mirrorStart s im).pending = s.pending ∧ (State.mirrorStart s im).fuses = s.fuses := by
  simp [State.mirrorStart]

@[simp] theorem State.imageCommit_kept (s : State) (p : List Byte) :
    (State.imageCommit s p).1.pending = s.pending ∧ (State.imageCommit s p).1.fuses = s.fuses := by
  simp only [State.imageCommit]; (repeat' split) <;> simp_all

@[simp] theorem State.wardenStart_kept (s : State) (slotB : Bool) :
    (State.wardenStart s slotB).pending = s.pending ∧ (State.wardenStart s slotB).fuses = s.fuses := by
  simp [State.wardenStart]

@[simp] theorem State.coresStart_kept (s : State) :
    (State.coresStart s).pending = s.pending ∧ (State.coresStart s).fuses = s.fuses := by
  simp [State.coresStart]

@[simp] theorem State.coldStart_kept (s : State) :
    (State.coldStart s).pending = s.pending ∧ (State.coldStart s).fuses = s.fuses := by
  simp [State.coldStart]

@[simp] theorem State.rootCheck_kept (s : State) :
    (State.rootCheck s).pending = s.pending ∧ (State.rootCheck s).fuses = s.fuses := by
  simp [State.rootCheck]

@[simp] theorem State.replStale_kept (s : State) (sa : Nat) :
    (State.replStale s sa).pending = s.pending ∧ (State.replStale s sa).fuses = s.fuses := by
  simp [State.replStale]

@[simp] theorem State.boundCheck_kept (s : State) :
    (State.boundCheck s).pending = s.pending ∧ (State.boundCheck s).fuses = s.fuses := by
  simp [State.boundCheck]

@[simp] theorem State.isolated_kept (s : State) :
    (State.isolated s).pending = s.pending ∧ (State.isolated s).fuses = s.fuses := by
  simp [State.isolated]

@[simp] theorem State.lossOf_kept (s : State) (y x : Nat) :
    (State.lossOf s y x).pending = s.pending ∧ (State.lossOf s y x).fuses = s.fuses := by
  simp [State.lossOf]

@[simp] theorem State.neighbourLost_kept (s : State) (d st cause : Nat) :
    (State.neighbourLost s d st cause).pending = s.pending ∧ (State.neighbourLost s d st cause).fuses = s.fuses := by
  simp [State.neighbourLost]

@[simp] theorem State.closeRing_kept (s : State) (d : Nat) :
    (State.closeRing s d).pending = s.pending ∧ (State.closeRing s d).fuses = s.fuses := by
  simp [State.closeRing]

@[simp] theorem State.rpFence_kept (s : State) (d cause : Nat) :
    (State.rpFence s d cause).pending = s.pending ∧ (State.rpFence s d cause).fuses = s.fuses := by
  simp [State.rpFence]

@[simp] theorem State.ringReplay_kept (s : State) (d : Nat) :
    (State.ringReplay s d).pending = s.pending ∧ (State.ringReplay s d).fuses = s.fuses := by
  simp [State.ringReplay]

@[simp] theorem State.ringAck_kept (s : State) (d : Nat) (h : FlitHdr) :
    (State.ringAck s d h).pending = s.pending ∧ (State.ringAck s d h).fuses = s.fuses := by
  simp [State.ringAck]

@[simp] theorem State.ringNack_kept (s : State) (d : Nat) :
    (State.ringNack s d).pending = s.pending ∧ (State.ringNack s d).fuses = s.fuses := by
  simp [State.ringNack]

@[simp] theorem State.rpUp_kept (s : State) (d : Nat) :
    (State.rpUp s d).pending = s.pending ∧ (State.rpUp s d).fuses = s.fuses := by
  simp [State.rpUp]

@[simp] theorem State.ringAccept_kept (s : State) (d : Nat) (x : FlitHdr) (body : RBody) (act : State → State)
    (h : ∀ s, (act s).pending = s.pending ∧ (act s).fuses = s.fuses) :
    (s.ringAccept d x body act).pending = s.pending ∧ (s.ringAccept d x body act).fuses = s.fuses := by
  simp only [State.ringAccept]; (repeat' split) <;> simp [h]

@[simp] theorem State.ringRoute_kept (s : State) (d : Nat) (x : FlitHdr) (body : RBody) (act : State → State)
    (h : ∀ s, (act s).pending = s.pending ∧ (act s).fuses = s.fuses) :
    (s.ringRoute d x body act).pending = s.pending ∧ (s.ringRoute d x body act).fuses = s.fuses := by
  simp only [State.ringRoute]; (repeat' split) <;> simp [h]

@[simp] theorem State.sendClear_kept (s : State) (d : Nat) (b : RBody) :
    (State.sendClear s d b).pending = s.pending ∧ (State.sendClear s d b).fuses = s.fuses := by
  simp [State.sendClear]

@[simp] theorem State.ringKeys_kept (s : State) (d : Nat) (z ek ct : List Byte) :
    (State.ringKeys s d z ek ct).pending = s.pending ∧ (State.ringKeys s d z ek ct).fuses = s.fuses := by
  simp [State.ringKeys]

@[simp] theorem State.ringStep_kept (s : State) (d g : Nat) (seed : List Byte) :
    (State.ringStep s d g seed).pending = s.pending ∧ (State.ringStep s d g seed).fuses = s.fuses := by
  simp only [State.ringStep]; (repeat' split) <;> simp_all

@[simp] theorem State.handshake_kept (s : State) (d : Nat) :
    (State.handshake s d).pending = s.pending ∧ (State.handshake s d).fuses = s.fuses := by
  unfold State.handshake; (repeat' split) <;> simp

@[simp] theorem State.ringPortFence_kept (s : State) (d : Nat) :
    (State.ringPortFence s d).pending = s.pending ∧ (State.ringPortFence s d).fuses = s.fuses := by
  simp [State.ringPortFence]

@[simp] theorem State.ringCfg_kept (s : State) (v : Word) :
    (State.ringCfg s v).pending = s.pending ∧ (State.ringCfg s v).fuses = s.fuses := by
  simp [State.ringCfg]

@[simp] theorem State.latchTarget_kept (s : State) (d : Nat) :
    (State.latchTarget s d).pending = s.pending ∧ (State.latchTarget s d).fuses = s.fuses := by
  simp [State.latchTarget]

@[simp] theorem State.offerOf_kept (s : State) (d : Nat) :
    (State.offerOf s d).pending = s.pending ∧ (State.offerOf s d).fuses = s.fuses := by
  simp only [State.offerOf]; (repeat' split) <;> simp_all

@[simp] theorem State.advertIn_kept (s : State) (a : Advert) :
    (State.advertIn s a).pending = s.pending ∧ (State.advertIn s a).fuses = s.fuses := by
  simp [State.advertIn]

@[simp] theorem State.spillRefuse_kept (s : State) (d : Nat) (x : SpillHdr) :
    (State.spillRefuse s d x).pending = s.pending ∧ (State.spillRefuse s d x).fuses = s.fuses := by
  simp [State.spillRefuse]

@[simp] theorem State.spillTake_kept (s : State) (d : Nat) (x : SpillHdr) (bytes : List Byte) (rmask : List Bool) :
    (State.spillTake s d x bytes rmask).pending = s.pending ∧ (State.spillTake s d x bytes rmask).fuses = s.fuses := by
  simp only [State.spillTake]; (repeat' split) <;> simp_all

@[simp] theorem State.spillResult_kept (s : State) (x : SpillHdr) (bytes : List Byte) (rmask : List Bool) :
    (State.spillResult s x bytes rmask).pending = s.pending ∧ (State.spillResult s x bytes rmask).fuses = s.fuses := by
  simp only [State.spillResult]; (repeat' split) <;> simp_all

theorem State.replicaKey_kept (s t : State) (sa : Nat) (m : ReplMsg) (h : s.replicaKey sa m = some t) :
    t.pending = s.pending ∧ t.fuses = s.fuses := by
  unfold State.replicaKey at h
  dsimp only at h
  (repeat' split at h) <;> first | (cases h; done) | (simp only [Option.some.injEq] at h; subst h; simp)

@[simp] theorem State.replIn_kept (s : State) (h : FlitHdr) (m : ReplMsg) :
    (State.replIn s h m).pending = s.pending ∧ (State.replIn s h m).fuses = s.fuses := by
  unfold State.replIn
  dsimp only
  split
  · exact ⟨rfl, rfl⟩
  · split
    · simp
    · next t h => have k := State.replicaKey_kept _ _ _ _ h; simp [k]

@[simp] theorem State.leaseAcked_kept (s : State) (sa seq : Nat) (k : Bool) :
    (State.leaseAcked s sa seq k).pending = s.pending ∧ (State.leaseAcked s sa seq k).fuses = s.fuses := by
  simp [State.leaseAcked]

@[simp] theorem State.resyncAcked_kept (s : State) (sa seq : Nat) :
    (State.resyncAcked s sa seq).pending = s.pending ∧ (State.resyncAcked s sa seq).fuses = s.fuses := by
  simp [State.resyncAcked]

@[simp] theorem State.replAcked_kept (s : State) (sa seq : Nat) :
    (State.replAcked s sa seq).pending = s.pending ∧ (State.replAcked s sa seq).fuses = s.fuses := by
  simp only [State.replAcked]
  (repeat' split) <;> (try simp) <;> (refine foldl_kept _ _ ?_ _; intro _ _; (try dsimp only); (repeat' split) <;> simp)

@[simp] theorem State.promote_kept (s : State) (sa : Nat) :
    (State.promote s sa).pending = s.pending ∧ (State.promote s sa).fuses = s.fuses := by
  simp [State.promote]

@[simp] theorem State.setMemwin_kept (s : State) (who : Prin) (v : Word) :
    (State.setMemwin s who v).pending = s.pending ∧ (State.setMemwin s who v).fuses = s.fuses := by
  simp [State.setMemwin]

@[simp] theorem State.regRead_kept (s : State) (who : Prin) (off : Nat) :
    (State.regRead s who off).2.pending = s.pending ∧ (State.regRead s who off).2.fuses = s.fuses := by
  unfold State.regRead; (repeat' split) <;> simp

@[simp] theorem State.busRead_kept (s : State) (who : Prin) (off : Nat) :
    (State.busRead s who off).2.pending = s.pending ∧ (State.busRead s who off).2.fuses = s.fuses := by
  simp only [State.busRead]; (repeat' split) <;> simp_all

@[simp] theorem State.storeFields_kept (s : State) (who : Prin) (f : RegFam) (off : Nat) (v : Word) :
    (State.storeFields s who f off v).pending = s.pending ∧ (State.storeFields s who f off v).fuses = s.fuses := by
  simp [State.storeFields]

@[simp] theorem State.storeFields64_kept (s : State) (who : Prin) (f : RegFam) (off : Nat) (v : Word) (hi : Option Word) :
    (State.storeFields64 s who f off v hi).pending = s.pending ∧ (State.storeFields64 s who f off v hi).fuses = s.fuses := by
  unfold State.storeFields64; (repeat' split) <;> simp

@[simp] theorem State.portCfg_kept (s : State) (who : Prin) (f : RegFam) (sd p off : Nat) (v : Word) :
    (State.portCfg s who f sd p off v).pending = s.pending ∧ (State.portCfg s who f sd p off v).fuses = s.fuses := by
  simp [State.portCfg]

@[simp] theorem State.laneCfg_kept (s : State) (who : Prin) (f : RegFam) (sd l off : Nat) (v : Word) :
    (State.laneCfg s who f sd l off v).pending = s.pending ∧ (State.laneCfg s who f sd l off v).fuses = s.fuses := by
  simp [State.laneCfg]

@[simp] theorem State.costCtl_kept (s : State) (v : Word) :
    (State.costCtl s v).pending = s.pending ∧ (State.costCtl s v).fuses = s.fuses := by
  simp [State.costCtl]

@[simp] theorem State.srcCmd_kept (s : State) (src : EvSrc) (v : Word) :
    (State.srcCmd s src v).pending = s.pending ∧ (State.srcCmd s src v).fuses = s.fuses := by
  simp [State.srcCmd]

@[simp] theorem State.srcWrite_kept (s : State) (src : EvSrc) (w : Nat) (v : Word) :
    (State.srcWrite s src w v).pending = s.pending ∧ (State.srcWrite s src w v).fuses = s.fuses := by
  unfold State.srcWrite; (repeat' split) <;> simp

@[simp] theorem State.clkCtl_kept (s : State) (v : Word) :
    (State.clkCtl s v).pending = s.pending ∧ (State.clkCtl s v).fuses = s.fuses := by
  simp [State.clkCtl]

@[simp] theorem State.tamperCtl_kept (s : State) (v : Word) :
    (State.tamperCtl s v).pending = s.pending ∧ (State.tamperCtl s v).fuses = s.fuses := by
  simp [State.tamperCtl]

@[simp] theorem State.rotCtl_kept (s : State) (who : Prin) (f : RegFam) (c off : Nat) (v : Word) :
    (State.rotCtl s who f c off v).pending = s.pending ∧ (State.rotCtl s who f c off v).fuses = s.fuses := by
  simp [State.rotCtl]

@[simp] theorem State.rotCoreWrite_kept (s : State) (g : Nat) (v : Word) :
    (State.rotCoreWrite s g v).pending = s.pending ∧ (State.rotCoreWrite s g v).fuses = s.fuses := by
  simp [State.rotCoreWrite]

/-- What holds of both branches holds of a conditional answer. -/
theorem ite_some {α : Type} (c : Prop) [Decidable c] (a b : Option α) (p : α → Prop) (ha : ∀ t, a = some t → p t)
    (hb : ∀ t, b = some t → p t) : ∀ t, (if c then a else b) = some t → p t := by
  split
  · exact ha
  · exact hb

theorem State.actLine_kept (s : State) (who : Prin) (f : RegFam) (i j off : Nat) (v : Word) (hi : Option Word) :
    ∀ t, s.actLine who f i j off v hi = some t → t.pending = s.pending ∧ t.fuses = s.fuses := by
  unfold State.actLine
  try dsimp only
  repeat' (refine ite_some _ _ _ _ ?_ ?_)
  all_goals
    intro t h
    first
    | (cases h; done)
    | (simp at h; subst h; simp; done)
    | (simp at h; obtain ⟨_, _, rfl⟩ := h; simp)

theorem State.actSa_kept (s : State) (who : Prin) (f : RegFam) (i j off : Nat) (v : Word) (hi : Option Word) :
    ∀ t, s.actSa who f i j off v hi = some t → t.pending = s.pending ∧ t.fuses = s.fuses := by
  unfold State.actSa
  try dsimp only
  repeat' (refine ite_some _ _ _ _ ?_ ?_)
  all_goals
    intro t h
    first
    | (cases h; done)
    | (simp at h; subst h; simp; done)
    | (simp at h; obtain ⟨_, _, rfl⟩ := h; simp)

theorem State.actDev_kept (s : State) (who : Prin) (f : RegFam) (i j k off : Nat) (v : Word) :
    ∀ t, s.actDev who f i j k off v = some t → t.pending = s.pending ∧ t.fuses = s.fuses := by
  unfold State.actDev
  try dsimp only
  repeat' (refine ite_some _ _ _ _ ?_ ?_)
  all_goals
    intro t h
    first
    | (cases h; done)
    | (simp at h; subst h; simp; done)
    | (simp at h; obtain ⟨_, _, rfl⟩ := h; simp)

theorem State.actCluster_kept (s : State) (who : Prin) (f : RegFam) (c i j off : Nat) (v : Word) :
    ∀ t, s.actCluster who f c i j off v = some t → t.pending = s.pending ∧ t.fuses = s.fuses := by
  unfold State.actCluster
  try dsimp only
  repeat' (refine ite_some _ _ _ _ ?_ ?_)
  all_goals
    intro t h
    first
    | (cases h; done)
    | (simp at h; subst h; simp; done)
    | (simp at h; obtain ⟨_, _, rfl⟩ := h; simp)

@[simp] theorem State.regAct_kept (s : State) (who : Prin) (f : RegFam) (i j k off : Nat) (v : Word) (hi : Option Word) :
    (State.regAct s who f i j k off v hi).pending = s.pending ∧ (State.regAct s who f i j k off v hi).fuses = s.fuses := by
  have get : ∀ (a : Option State) (d : State), d.pending = s.pending ∧ d.fuses = s.fuses →
      (∀ t, a = some t → t.pending = s.pending ∧ t.fuses = s.fuses) →
      (a.getD d).pending = s.pending ∧ (a.getD d).fuses = s.fuses := by
    intro a d hd ha
    cases a with
    | none => exact hd
    | some t => exact ha t rfl
  unfold State.regAct
  dsimp only
  refine get _ _ (State.storeFields64_kept _ _ _ _ _ _) ?_
  intro t h
  split at h
  · exact State.actCluster_kept _ _ _ _ _ _ _ _ _ h
  · split at h
    · exact State.actDev_kept _ _ _ _ _ _ _ _ _ h
    · split at h
      · exact State.actSa_kept _ _ _ _ _ _ _ _ _ h
      · exact State.actLine_kept _ _ _ _ _ _ _ _ _ h

@[simp] theorem State.regEffect_kept (s : State) (who : Prin) (f : RegFam) (is : List Nat) (off : Nat) (v : Word) (hi : Option Word) :
    (State.regEffect s who f is off v hi).pending = s.pending ∧ (State.regEffect s who f is off v hi).fuses = s.fuses := by
  simp [State.regEffect]

@[simp] theorem State.regWrite_kept (s : State) (who : Prin) (off : Nat) (v : Word) :
    (State.regWrite s who off v).pending = s.pending ∧ (State.regWrite s who off v).fuses = s.fuses := by
  unfold State.regWrite; (repeat' split) <;> simp

@[simp] theorem State.memwinWrite_kept (s : State) (who : Prin) (v : Word) :
    (State.memwinWrite s who v).pending = s.pending ∧ (State.memwinWrite s who v).fuses = s.fuses := by
  simp [State.memwinWrite]

@[simp] theorem State.busWrite_kept (s : State) (who : Prin) (off : Nat) (v : Word) :
    (State.busWrite s who off v).pending = s.pending ∧ (State.busWrite s who off v).fuses = s.fuses := by
  unfold State.busWrite; (repeat' split) <;> simp

@[simp] theorem State.msixWrite_kept (s : State) (i : Nat) (v : Word) :
    (State.msixWrite s i v).pending = s.pending ∧ (State.msixWrite s i v).fuses = s.fuses := by
  simp [State.msixWrite]

@[simp] theorem State.bar2Write_kept (s : State) (off : Nat) (v : Word) :
    (State.bar2Write s off v).pending = s.pending ∧ (State.bar2Write s off v).fuses = s.fuses := by
  simp [State.bar2Write]

@[simp] theorem State.ctlRead_kept (s : State) (g x : Nat) :
    (State.ctlRead s g x).2.pending = s.pending ∧ (State.ctlRead s g x).2.fuses = s.fuses := by
  unfold State.ctlRead; (repeat' split) <;> simp

@[simp] theorem State.ctlWrite_kept (s : State) (g x : Nat) (v : Word) :
    (State.ctlWrite s g x v).pending = s.pending ∧ (State.ctlWrite s g x v).fuses = s.fuses := by
  simp [State.ctlWrite]

@[simp] theorem State.winRead_kept (s : State) (g ea : Nat) :
    (State.winRead s g ea).2.pending = s.pending ∧ (State.winRead s g ea).2.fuses = s.fuses := by
  unfold State.winRead; (repeat' split) <;> simp

@[simp] theorem State.winWrite_kept (s : State) (g ea : Nat) (v : Word) :
    (State.winWrite s g ea v).pending = s.pending ∧ (State.winWrite s g ea v).fuses = s.fuses := by
  unfold State.winWrite; (repeat' split) <;> simp

@[simp] theorem State.winRead8_kept (s : State) (g ea : Nat) :
    (State.winRead8 s g ea).2.pending = s.pending ∧ (State.winRead8 s g ea).2.fuses = s.fuses := by
  unfold State.winRead8; (repeat' split) <;> simp

@[simp] theorem State.winWrite8_kept (s : State) (g ea : Nat) (v : DWord) :
    (State.winWrite8 s g ea v).pending = s.pending ∧ (State.winWrite8 s g ea v).fuses = s.fuses := by
  unfold State.winWrite8; (repeat' split) <;> simp

@[simp] theorem State.vaultWord_kept (s : State) (g ea : Nat) :
    (State.vaultWord s g ea).2.pending = s.pending ∧ (State.vaultWord s g ea).2.fuses = s.fuses := by
  unfold State.vaultWord; (repeat' split) <;> simp

@[simp] theorem State.vaultStore_kept (s : State) (g ea size : Nat) (lo hi : TD) :
    (State.vaultStore s g ea size lo hi).pending = s.pending ∧ (State.vaultStore s g ea size lo hi).fuses = s.fuses := by
  unfold State.vaultStore; (repeat' split) <;> simp

@[simp] theorem State.farRead_kept (s : State) (g : Nat) (f : Far) :
    (State.farRead s g f).2.pending = s.pending ∧ (State.farRead s g f).2.fuses = s.fuses := by
  simp only [State.farRead]; (repeat' split) <;> simp_all

@[simp] theorem State.farWrite_kept (s : State) (g : Nat) (f : Far) :
    (State.farWrite s g f).pending = s.pending ∧ (State.farWrite s g f).fuses = s.fuses := by
  simp [State.farWrite]

@[simp] theorem State.farDone_kept (s : State) (g : Nat) (f : Far) :
    (State.farDone s g f).pending = s.pending ∧ (State.farDone s g f).fuses = s.fuses := by
  simp [State.farDone]

@[simp] theorem State.farErr_kept (s : State) (g : Nat) (f : Far) (ue : Bool) :
    (State.farErr s g f ue).pending = s.pending ∧ (State.farErr s g f ue).fuses = s.fuses := by
  simp [State.farErr]

@[simp] theorem State.memDone_kept (s : State) (g : Nat) (f : Far) (lo hi : TD) (ecc : Ecc) :
    (State.memDone s g f lo hi ecc).pending = s.pending ∧ (State.memDone s g f lo hi ecc).fuses = s.fuses := by
  unfold State.memDone; (repeat' split) <;> simp

@[simp] theorem State.readZeroed_kept (s : State) (who : Prin) (off : Nat) (t : Tint) :
    (State.readZeroed s who off t).pending = s.pending ∧ (State.readZeroed s who off t).fuses = s.fuses := by
  simp [State.readZeroed]

@[simp] theorem State.give_kept (s : State) (who : Prin) (off : Nat) (v : Word) :
    (State.give s who off v).pending = s.pending ∧ (State.give s who off v).fuses = s.fuses := by
  simp [State.give]

@[simp] theorem State.ctlAperture_kept (s : State) (who : Prin) (g x : Nat) (v : Word) :
    (State.ctlAperture s who g x v).pending = s.pending ∧ (State.ctlAperture s who g x v).fuses = s.fuses := by
  simp [State.ctlAperture]

@[simp] theorem State.apertureWrite_kept (s : State) (who : Prin) (w : Win) (x n : Nat) (v : BitVec 64) :
    (State.apertureWrite s who w x n v).pending = s.pending ∧ (State.apertureWrite s who w x n v).fuses = s.fuses := by
  simp [State.apertureWrite]

@[simp] theorem State.giveZero_kept (s : State) (who : Prin) (off n : Nat) :
    (s.giveZero who off n).pending = s.pending ∧ (s.giveZero who off n).fuses = s.fuses := by
  induction n generalizing s off with
  | zero => exact ⟨rfl, rfl⟩
  | succ n ih => simp [State.giveZero, ih]

@[simp] theorem State.apertureRead_kept (s : State) (who : Prin) (w : Win) (x n : Nat) :
    (s.apertureRead who w x n).pending = s.pending ∧ (s.apertureRead who w x n).fuses = s.fuses := by
  induction n generalizing s x with
  | zero => exact ⟨rfl, rfl⟩
  | succ n ih =>
    simp only [State.apertureRead, ih]
    (repeat' split) <;> simp

@[simp] theorem State.aperture_kept (s : State) (who : Prin) (x size : Nat) (wr : Option (BitVec 64)) :
    (State.aperture s who x size wr).pending = s.pending ∧ (State.aperture s who x size wr).fuses = s.fuses := by
  simp only [State.aperture]; (repeat' split) <;> simp

@[simp] theorem State.smbRead_kept (s : State) (code : Nat) :
    (State.smbRead s code).pending = s.pending ∧ (State.smbRead s code).fuses = s.fuses := by
  unfold State.smbRead; (repeat' split) <;> simp

@[simp] theorem State.smbNotify_kept (s : State) (v : Word) :
    (State.smbNotify s v).pending = s.pending ∧ (State.smbNotify s v).fuses = s.fuses := by
  simp [State.smbNotify]

@[simp] theorem State.smbAccess_kept (s : State) (code : Nat) (wr : Option Word) :
    (State.smbAccess s code wr).pending = s.pending ∧ (State.smbAccess s code wr).fuses = s.fuses := by
  unfold State.smbAccess; (repeat' split) <;> simp

@[simp] theorem State.access_kept (s : State) (who : Prin) (off : Nat) (wr : Option Word) :
    (State.access s who off wr).pending = s.pending ∧ (State.access s who off wr).fuses = s.fuses := by
  unfold State.access; (repeat' split) <;> simp

@[simp] theorem State.functionReset_kept (s : State) :
    (State.functionReset s).pending = s.pending ∧ (State.functionReset s).fuses = s.fuses := by
  simp [State.functionReset]

end Sys2Proof.Machine
end

