-- ==== Sys2Proof/Laws/Memory.lean ====
section
/-! SUPPORT. Memories: every operation over one keeps its canonical form, and a store leaves every other byte alone. -/

namespace Sys2Proof.Machine
open Sys2Proof

theorem Mem.wf_iff (m : Mem) : m.wf = true ↔ SMap.wf 0 m.b = true ∧ SMap.wf Tint.clean m.t = true := by
  simp [Mem.wf]

theorem Mem.zero_wf : Mem.zero.wf = true := rfl

theorem Mem.setTint_wf (m : Mem) (addr : Nat) (t : Tint) (h : m.wf = true) : (m.setTint addr t).wf = true := by
  rw [Mem.wf_iff] at h ⊢
  exact ⟨h.1, SMap.wf_set _ _ _ _ h.2⟩

theorem Mem.store_wf (m : Mem) (addr : Nat) (bs : List Byte) (t : Tint) (h : m.wf = true) :
    (m.store addr bs t).wf = true := by
  rw [Mem.wf_iff] at h ⊢
  exact ⟨SMap.wf_setRange _ _ _ _ h.1, SMap.wf_set _ _ _ _ h.2⟩

theorem Mem.storeWords_wf (m : Mem) (addr : Nat) (bs : List Byte) (t : Tint) (n : Nat) (h : m.wf = true) :
    (m.storeWords addr bs t n).wf = true := by
  induction n generalizing m addr bs with
  | zero => exact h
  | succ n ih =>
    simp only [Mem.storeWords]
    split
    · exact h
    · exact ih _ _ _ (Mem.store_wf m addr _ t h)

theorem Mem.storeAll_wf (m : Mem) (addr : Nat) (bs : List Byte) (t : Tint) (h : m.wf = true) :
    (m.storeAll addr bs t).wf = true := Mem.storeWords_wf m addr bs t _ h

theorem Mem.clearRange_wf (m : Mem) (addr n : Nat) (h : m.wf = true) : (m.clearRange addr n).wf = true := by
  rw [Mem.wf_iff] at h ⊢
  exact ⟨SMap.wf_filter _ _ _ h.1, SMap.wf_filter _ _ _ h.2⟩

theorem Mem.zeroTinted_wf (m : Mem) (h : m.wf = true) : m.zeroTinted.wf = true := by
  rw [Mem.wf_iff] at h ⊢
  exact ⟨SMap.wf_filter _ _ _ h.1, rfl⟩

theorem Mem.spoil_wf (m : Mem) (off size : Nat) (w : DWord) (h : m.wf = true) : (m.spoil off size w).wf = true := by
  have h := Mem.store_wf m (off / 8 * 8) (toLE 8 w.toNat) .both h
  rw [Mem.wf_iff] at h ⊢
  exact ⟨SMap.wf_setRange _ _ _ _ h.1, h.2⟩

theorem Mem.putWords_wf (m : Mem) (off : Nat) (l : List TD) (h : m.wf = true) : (m.putWords off l).wf = true := by
  induction l generalizing m off with
  | nil => exact h
  | cons w l ih => exact ih _ _ (Mem.store_wf m off _ _ h)

theorem Mem.farStore_wf (m : Mem) (off size : Nat) (lo hi : TD) (h : m.wf = true) : (m.farStore off size lo hi).wf = true := by
  simp only [Mem.farStore]
  split
  · exact Mem.store_wf _ _ _ _ (Mem.store_wf _ _ _ _ h)
  · exact Mem.store_wf _ _ _ _ h

theorem Far.perform_wf (f : Far) (m : Mem) (h : m.wf = true) : (f.perform m).2.wf = true := by
  simp only [Far.perform]
  split
  · exact Mem.farStore_wf _ _ _ _ _ h
  · split <;> exact h

theorem performFar_wf (k : Nat) (l : List Far) (m : Mem) (h : m.wf = true) : (performFar k l m).2.wf = true := by
  induction l generalizing m with
  | nil => exact h
  | cons f l ih =>
    simp only [performFar]
    apply ih
    (repeat' split) <;> first | exact h | exact Far.perform_wf f m h

theorem Core.dmemStore_wf (c : Core) (ea : Word) (size : Nat) (lo hi : TD) (h : c.dmem.wf = true) :
    (c.dmemStore ea size lo hi).dmem.wf = true := by
  simp only [Core.dmemStore]
  split
  · exact Mem.store_wf _ _ _ _ (Mem.store_wf _ _ _ _ h)
  · exact Mem.store_wf _ _ _ _ h

theorem Mem.putFrame_wf (m : Mem) (x : Frame) (i : Nat) (bs : List Byte) (h : m.wf = true) : (m.putFrame x i bs).wf = true := by
  have fold : ∀ (l : List Nat) (f : Mem → Nat → Mem), (∀ m w, m.wf = true → (f m w).wf = true) →
      ∀ m : Mem, m.wf = true → (l.foldl f m).wf = true := by
    intro l f hf
    induction l with
    | nil => exact fun m h => h
    | cons w l ih => exact fun m h => ih _ (hf m w h)
  rw [Mem.wf_iff] at h
  refine fold _ _ (fun m w hm => Mem.setTint_wf m _ _ hm) _ ?_
  exact (Mem.wf_iff _).2 ⟨SMap.wf_setRange _ _ _ _ h.1, h.2⟩

/-- The memories of the block at reset are canonical. -/
theorem State.reset_memories_wf :
    (∀ g, (State.reset.core g).dmem.wf = true) ∧ (∀ c, (State.reset.clu c).cmem.wf = true)
      ∧ State.reset.warden.dmem.wf = true := ⟨fun _ => rfl, fun _ => rfl, rfl⟩

/-- A store leaves every byte outside it alone. -/
theorem Mem.store_byte_ne (m : Mem) (addr : Nat) (bs : List Byte) (t : Tint) (j : Nat)
    (h : j < addr ∨ addr + bs.length ≤ j) : (m.store addr bs t).b.get 0 j = m.b.get 0 j :=
  SMap.get_setRange_ne 0 bs m.b addr j h

/-- A store leaves the tint of every other word alone. -/
theorem Mem.store_tint_ne (m : Mem) (addr : Nat) (bs : List Byte) (t : Tint) (j : Nat) (h : j / 8 ≠ addr / 8) :
    (m.store addr bs t).tint j = m.tint j := SMap.get_set_ne _ _ _ _ _ h

end Sys2Proof.Machine
end

