-- ==== Sys2Proof/WellFormed.lean ====
section
/-! DEFINITION. Which commands are well formed: the bounds that their list and number operands keep. A term that breaks one
stands for no operation or event of the block; exec is total on it all the same. -/

namespace Sys2Proof

/-- The beats that requester 8 + r may present in one phase (R350). -/
def beatsMost (r : Fin 4) : Nat := if r = 0 then 2 else if r = 3 then 1 else 4

/-- Each requester presents no more beats than R350 lets it. [Marks: DEDUCED (log entry 78)] -/
def beatsWf (l : List Beat) : Bool :=
  [0, 1, 2, 3].all (fun (r : Fin 4) => decide ((l.filter (fun b => b.r == r)).length ≤ beatsMost r))

/-- The body of a SPILL message: LEN bytes, and one R tag for each 8-byte word of them (R503, R514).
[Marks: DESIGN CHOICE (log entry 67); DEDUCED (log entry 78)] -/
def spillWf (x : SpillHdr) (bytes : List Byte) (rmask : List Bool) : Bool :=
  decide (bytes.length = x.len.toNat) && decide (rmask.length = (bytes.length + 7) / 8)

/-- The body of a SPILL_RESULT message: OUT_LEN bytes, and their R tags (R503, R514).
[Marks: DESIGN CHOICE (log entry 67); DEDUCED (log entry 78)] -/
def resultWf (x : SpillHdr) (bytes : List Byte) (rmask : List Bool) : Bool :=
  decide (bytes.length = x.outLen.toNat) && decide (rmask.length = (bytes.length + 7) / 8)

/-- A wrapped key: the 48-byte plaintext and the 8 bytes that key wrap adds (R410, R518).
[Marks: DEDUCED (log entry 78)] -/
def replWf (m : ReplMsg) : Bool :=
  match m.wrapped with
  | some w => decide (w.length = 56)
  | none => true

/-- Steps 1 and 2 of ring-up carry a public key, an encapsulation key or ciphertext, and a signature (R508).
[Marks: DEDUCED (log entry 78)] -/
def handshakeWf (step : BitVec 2) (parts : List (List Byte)) : Bool :=
  (step == 1 || step == 2) && parts.map List.length == [2592, 1568, 4627]

/-- The bounds of what a ring message carries. [Marks: DEDUCED (log entry 78)] -/
def RBody.wf : RBody → Bool
  | .handshake st p => handshakeWf st p
  | .spill h b r => spillWf h b r
  | .result h b r => resultWf h b r
  | .repl m => replWf m
  | _ => true

/-- The instruction's operands keep their bounds. [Marks: DEDUCED (log entry 78)] -/
def Instr.wf : Instr → Bool
  | .rxCell _ _ cell => decide (cell.length = 256)
  | .rxFrameEnd _ _ tail _ => decide (tail.length ≤ 256)
  | .puttyJob _ b => decide (b.toNat < 4)
  | .cmemBeatGrant _ beats => beatsWf beats
  | .supplyDroop i => decide (i.toNat < 7)
  | .brownOut i => decide (i.toNat < 6)
  | .thermalSample l => decide (l.length = 24)
  | .ringHandshake _ st p => handshakeWf st p
  | .ringSpill _ _ x b r => spillWf x b r
  | .ringSpillResult _ _ x b r => resultWf x b r
  | .ringRepl _ _ m => replWf m
  | .ringForward _ _ b => b.wf
  | .apertureAccess _ _ size _ => decide (1 ≤ size) && decide (size ≤ 4096)
  | .smbTherm k => decide (k.toNat < 24)
  | _ => true

end Sys2Proof
end

