-- ==== Sys2Proof/Tests/Slice0.lean ====
section
/-! SUPPORT. The package's own tests. `witness_X` shows states and operands that meet the premises of the obligation X, or of
the clauses of it that are named; `test_wf_…` shows terms that are no command, refused; `test_fetch_…` shows syllables read from
IMEM. Where an obligation gathers several groups of clauses, each group has its witness: SaAndKeyCommands has SaCommands,
KeyCommands and CostTablesAndSas; SignedAndImageCommands has SignedCommands and ImageCommands; VaultUpkeep has
RetirementAndHandleTimeout and RandomPorts; Rotation has RotationStep and RotationOfCores; ClocksAndResets has
ReferencesAndPlls and ResetsAndMonitors; LinePorts has LinePorts and LaneAndQuadFences; FramePorts has FramesInAndOut;
Delivery has EgressMac and DeliveryStreams; HostAndBoard has SmbusCommands and HostAccesses; RegisterWrites has
RegisterFields and RegisterCommands. -/

section

open Sys2Proof Sys2Proof.Machine

set_option linter.unusedVariables false
set_option Elab.async false

/-! Helpers. Each `pre…` below lists, clause by clause, the premises of the obligation of that name, in its own words; `covered` says that
every clause of the list has a sample whose premises hold. Left out are the conjuncts that ask for the outcome of ML-DSA or ML-KEM, which
is a free value (log entry 8), and of AES key unwrap or SHA3, whose evaluation is too long for the kernel. -/

/-- Every clause holds in some sample. -/
def covered (l : List (List Bool)) : Bool :=
  (List.range (l.headD [false]).length).all (fun i => l.any (fun b => b.getD i false))

/-- The state after a command. -/
def tAfter (i : Instr) (s : State) : State :=
  match exec i s with
  | .next t => t
  | .fault _ => s
  | .refused _ => s

/-- After commands in order. -/
def tRun (l : List Instr) (s : State) : State := l.foldl (fun s i => tAfter i s) s

/-- Changes in order. -/
def tSeg (l : List (State → State)) (s : State) : State := l.foldl (fun s f => f s) s

/-- The Warden is up in OPEN, with its roots and entropy. -/
def tUp : State :=
  let s := tAfter .trngRecover State.reset
  { s with warden := { s.warden with up := true }, root := ⟨some 4, some 5, some 6, some 7, 3, 5, true, 2⟩ }

/-- The bytes of a mailbox command (R399). -/
def tCmd (op seq : Nat) (p : List Byte) : List Byte := toLE 2 op ++ toLE 2 0 ++ toLE 4 seq ++ toLE 4 p.length ++ toLE 4 0 ++ p

/-- The command waits for the Warden. -/
def tMail (s : State) (c : List Byte) : State := { s with mbx := { s.mbx with wq := [(s.mbx.gen, c)], busy := true } }

/-- `State.mails` but for the wait itself. -/
def tReady (s : State) (op len : Nat) (c : List Byte) : Bool := decide (
  s.mbx.held = none ∧ s.wardenRuns = true ∧ s.recovering = false ∧ s.wardenListens = true ∧ cmdOp c = op ∧ cmdLen c = len ∧ fieldAt c 2 2 = 0
    ∧ fieldAt c 12 4 = 0 ∧ cmdSeq c = (match s.mbx.lastSeq with
      | some q => q + 1
      | none => 0))

/-- A command that waits is one that `State.mails` names. -/
theorem tReady_mails (s : State) (op len : Nat) (c : List Byte) (h : tReady (tMail s c) op len c = true) : (tMail s c).mails op len c = true := by
  simp only [tReady, State.mails, decide_eq_true_eq] at h ⊢
  exact ⟨rfl, rfl, h⟩

/-! Witnesses: the cores. A core with its file registers, TSBP at the top of bank 1, and Keeper region 0 with 3 gates. -/

/-- A core that may issue, at privilege level `pl`. -/
def tCore (pl : Nat) : Core :=
  let c : Core := { Core.reset with run := true, pc := if pl = 2 then 0 else 0x1000, krgn := [(0, 0x80000C60)], dbOwn := [], ready := 0, rclrOld := true, rclrFrom := 1000,
                                    dmem := ⟨[(4, 0x34)], []⟩ }
  let c := (c.wrCr0 0 (BitVec.ofNat 32 pl)).wrCr0 3 0x104000
  let c := c.wrM 1 ⟨64, .clean⟩
  let c := ((c.wrA 1 ⟨0x100000, .clean⟩).wrA 2 ⟨0x1000000, .clean⟩).wrO 1 ⟨4, .clean⟩
  (c.wrG 1 ⟨0xFFFFFFFF, .clean⟩).wrG 2 ⟨0x1004, .clean⟩

/-- The block with core 3 as given. -/
def tState (c : Core) : State := State.reset.setCore 3 c

/-- Every command of the list may issue on core 3 at level `pl`. -/
def tIssue (pl : Nat) (l : List Instr) : Bool := l.all (fun i => (tState (tCore pl)).canIssue i)

/-- A vector operand on full registers of 32-bit lanes. -/
def tVR (long : Bool) (ew : BitVec 2) : VR := ⟨31, 0, 2, long, ew, 0⟩

theorem witness_ScalarAlu : tIssue 0 [.add 3 .s0 63 1 2, .sub 3 .s1 1 1 2, .and 3 .s0 0 1 2, .or 3 .s0 1 1 2, .xor 3 .s0 1 1 2,
    .andn 3 .s0 1 1 2, .shl 3 .s0 1 2 1, .shr 3 .s0 1 2 1, .sra 3 .s0 1 1 1, .rotr 3 .s0 1 2 1, .min 3 .s0 1 1 2,
    .max 3 .s0 1 1 2, .minu 3 .s0 1 1 2, .maxu 3 .s0 1 1 2] = true := by decide +kernel

theorem witness_ScalarImmediate : tIssue 0 [.addi 3 .s0 63 1 1, .andi 3 .s0 1 1 0, .ori 3 .s0 1 1 1, .xori 3 .s0 1 1 0xFFFFFFFF,
    .cmpeqi 3 .s0 1 1 1, .cmplti 3 .s0 1 1 0, .cmpltui 3 .s0 1 1 0, .shli 3 .s0 1 1 31, .shri 3 .s0 1 1 31, .srai 3 .s1 0 1 0] = true := by
  decide +kernel

theorem witness_ScalarSelectCompareExtend : tIssue 0 [.sel 3 .s0 1 1 2, .ext 3 .s0 0 1 1, .ext 3 .s0 1 1 1, .ext 3 .s0 2 1 1, .ext 3 .s0 3 1 1,
    .cmpeq 3 .s0 false 1 1 2, .cmpeq 3 .s0 true 7 1 1, .cmpne 3 .s0 false 1 1 2, .cmpne 3 .s0 true 1 1 1, .cmplt 3 .s0 false 1 1 2,
    .cmplt 3 .s0 true 1 2 1, .cmpltu 3 .s0 false 1 1 2, .cmpltu 3 .s0 true 1 2 1, .cmple 3 .s0 false 1 1 1, .cmple 3 .s0 true 1 2 1,
    .cmpleu 3 .s0 false 1 1 1, .cmpleu 3 .s0 true 1 1 2] = true := by decide +kernel

theorem witness_CountBits : tIssue 0 [.clz 3 .s0 1 0, .clz 3 .s0 1 1, .popc 3 .s1 1 1] = true := by decide +kernel

theorem witness_DivideRemainder : tIssue 0 [.div 3 .s1 1 1 0, .rem 3 .s1 1 1 0, .divu 3 .s1 1 1 0, .remu 3 .s1 1 1 0,
    .div 3 .s1 1 1 2, .rem 3 .s1 1 1 2, .divu 3 .s1 1 1 2, .remu 3 .s1 1 1 2] = true := by decide +kernel

theorem witness_TagClearing : tIssue 2 [.declass 3 .s0 1 2, .vdeclass 3 .v3 0 31 true] = true ∧
    tIssue 1 [.rclr 3 .s0 1 2, .vrclr 3 .v3 31 0 false] = true := by
  decide +kernel

theorem witness_AddressOperations : tIssue 0 [.lea 3 .l0 15 1 0xFFFFFFFF, .amod 3 .l1 ⟨1, .post 1⟩, .amod 3 .l0 ⟨1, .circ 1 1⟩, .movta 3 .l0 0 1,
    .movta 3 .l0 47 1, .movfa 3 .l0 1 16, .movfa 3 .l0 1 47] = true := by decide +kernel

theorem witness_AddressUpdates : circNext 0x10003C 4 64 4 = some 0x100000 ∧ brevNext 0x100000 32 (2 ^ 6) (2 ^ 2) = some 0x100020 := by decide +kernel

theorem witness_MultiplyAccumulate : tIssue 0 [.mul 3 .m0 1 1 2, .mac 3 .m1 7 1 2 7, .msu 3 .m0 0 1 2 0, .macm 3 .m0 0 62 2 0, .accadd 3 .m0 7 0 true,
    .mulw16 3 .m0 true 1 1 2, .mulw32 3 .m0 false 62 1 2, .macw 3 .m0 true 7 1 2, .dot4b 3 .m0 true false 1 1 2, .dot4h 3 .m0 false 7 62 0,
    .mfa 3 .m0 1 7 true true 79, .mta 3 .m0 7 1 3] = true := by decide +kernel

theorem witness_ModularMultiplyAdd : tIssue 0 [.mmad 3 .m0 false true 1 1 2, .mmad 3 .m1 true false 1 1 2] = true := by decide +kernel

theorem witness_VectorElementwise : tIssue 0 [.vadd 3 .v0 (tVR true 2), .vsub 3 .v1 (tVR false 0), .vand 3 .v2 (tVR true 3), .vor 3 .v3 (tVR true 3),
    .vxor 3 .v0 (tVR true 2), .vandn 3 .v0 (tVR true 2), .vmin 3 .v0 (tVR true 2), .vmax 3 .v0 (tVR true 2), .vminu 3 .v0 (tVR true 2),
    .vmaxu 3 .v0 (tVR true 2), .vshl 3 .v0 (tVR true 2), .vshr 3 .v0 (tVR true 2), .vsra 3 .v0 (tVR true 2), .vrotr 3 .v0 (tVR true 2),
    .vmul 3 .v2 (tVR true 2), .vmulh 3 .v3 (tVR true 2), .vmulhu 3 .v2 (tVR true 2), .vmov 3 .v0 ⟨31, 0, 0, true, 2, 0⟩,
    .vsel 3 .v0 ⟨31, 0, 2, true, 2, 3⟩] = true := by decide +kernel

theorem witness_VectorShiftImmediate : tIssue 0 [.vshli 3 .v0 ⟨31, 0, 63, true, 3⟩, .vshri 3 .v0 ⟨31, 0, 7, false, 0⟩, .vsrai 3 .v0 ⟨31, 0, 31, true, 2⟩,
    .vrotri 3 .v3 ⟨31, 0, 0, true, 2⟩, .vdupg 3 .v0 ⟨0, 63, true, 2, 3⟩] = true := by decide +kernel

theorem witness_VectorCompare : tIssue 0 [.vcmpeq 3 .v0 ⟨7, 0, 2, true, 2, 0⟩, .vcmplt 3 .v1 ⟨0, 0, 2, false, 0, 3⟩, .vcmpltu 3 .v2 ⟨7, 0, 2, true, 2, 0⟩,
    .vcmple 3 .v3 ⟨7, 0, 2, true, 2, 0⟩, .vcmpleu 3 .v0 ⟨7, 0, 2, true, 2, 0⟩] = true := by decide +kernel

theorem witness_VectorMultiplyWide : tIssue 0 [.vmulw 3 .v2 (tVR false 2), .vmulwu 3 .v3 (tVR false 0), .vmacw 3 .v2 (tVR false 2),
    .vmacwu 3 .v2 (tVR false 1), .vdot4b 3 .v2 (tVR true 3), .vdot4h 3 .v2 (tVR true 0), .vmmad 3 .v2 (tVR true 3), .vmmad 3 .v3 (tVR false 0)] = true := by
  decide +kernel

theorem witness_ButterflyPair : tIssue 0 [.bfly 3 .v2 ⟨30, 0, 4, true, 3, 0⟩, .bfly 3 .v3 ⟨30, 28, 4, true, 0, 3⟩] = true := by decide +kernel

theorem witness_VectorPermute : tIssue 0 [.vshuf 3 .v2 (tVR false 0), .vzipl 3 .v2 (tVR true 3), .vziph 3 .v2 (tVR true 0), .vuzpe 3 .v2 (tVR true 2),
    .vuzpo 3 .v2 (tVR true 2), .vext 3 .v3 ⟨31, 0, 2, true, 3, 3⟩, .vext 3 .v3 ⟨31, 0, 2, true, 0, 0⟩, .vclmul 3 .v1 (tVR true 3)] = true := by
  decide +kernel

/-- The lanes that `VectorLanes` calls selected. -/
def tSel (c : Core) (pg : Nat) (long : Bool) (w i : Nat) : Bool :=
  decide (i < c.vlen) && decide (i < (if long then 128 else 64) / w) && (pg == 0 || (c.rdP pg).v.getLsbD i)

/-- Every lane, none, the high ones alone and the low ones alone; a lane past the last is never selected. -/
theorem witness_VectorLanes :
    let c := (tCore 0).wrP 1 ⟨0xC, .clean⟩
    let d := c.wrP 1 ⟨0x3, .clean⟩
    let e := c.wrP 1 ⟨0x1, .clean⟩
    (∀ i < 4, tSel (c.wrCr0 7 4) 0 true 32 i = true) ∧ (∀ i < 4, tSel c 1 true 32 i = decide (2 ≤ i)) ∧
    (∀ i < 4, tSel d 1 true 32 i = decide (i < 2)) ∧ (∀ i < 4, tSel e 1 true 32 i = decide (i < 1)) := by decide +kernel

theorem witness_Branches : tIssue 0 [.br 3 .s0 0x3FFFF, .call 3 .s0 1, .jr 3 .s0 2 63, .bz 3 .s0 true false 0 0xFFF, .bz 3 .s0 true false 1 1,
    .bnz 3 .s0 false true 1 1, .bnz 3 .s0 true true 0 1, .bltz 3 .s0 true true 1 1, .bltz 3 .s0 true true 0 1, .bgez 3 .s0 true false 0 1,
    .bgez 3 .s0 true false 1 1, .bpa 3 .s0 true false 7 1, .bpn 3 .s0 true false 7 1] = true := by decide +kernel

theorem witness_Loops : tIssue 0 [.loop 3 .s0 0 1 1, .loop 3 .s0 2 0 0x7FF, .loopi 3 .s0 1 63 1, .lclr 3 .s0 7] = true := by decide +kernel

/-- Level 2 at its last pass inside level 1 with a pass left; then every level at its last pass. -/
theorem witness_LoopEnd :
    let ends (c : Core) (n : Nat) : Bool := decide ((c.lc.get tw0 n).v ≠ 0 ∧ (c.le.get tw0 n).v = 0x1000)
    let le : SMap TW := [(0, ⟨0x1000, .clean⟩), (1, ⟨0x1000, .clean⟩), (2, ⟨0x1000, .clean⟩)]
    let c := { tCore 0 with lc := [(1, ⟨2, .clean⟩), (2, ⟨1, .clean⟩)], le := le }
    let d := { tCore 0 with lc := [(0, ⟨1, .clean⟩), (1, ⟨1, .clean⟩), (2, ⟨1, .clean⟩)], le := le }
    (ends c 1 = true ∧ (c.lc.get tw0 1).v ≠ 1 ∧ ends c 2 = true ∧ (c.lc.get tw0 2).v = 1 ∧ ends c 0 = false) ∧
    (∀ n < 3, ends d n = true ∧ (d.lc.get tw0 n).v = 1) := by decide +kernel

theorem witness_NopAndPredictor : tIssue 1 [.nop 3 .v3, .pflush 3 .s0, .pbar 3 .s0 true, .pbar 3 .s0 false] = true := by decide +kernel

theorem witness_ControlRegisterRead : tIssue 1 ([0, 1, 2, 3, 4, 5, 6, 7, 8, 9, 10, 11, 12, 13, 15, 17, 19, 20, 21, 23, 25, 26, 28, 29, 31, 32, 33, 34,
    36, 38, 40, 42, 43, 44, 48].map (.mfc 3 .s1 63 ·)) = true := by decide +kernel

theorem witness_ControlRegisterWrite : tIssue 1 ([0, 1, 2, 3, 4, 5, 6, 7, 8, 9, 10, 12, 19, 32, 43, 48].map (.mtc 3 .s0 · 0)) = true ∧
    tIssue 1 [.mtc 3 .s0 7 1] = true := by decide +kernel

/-- Where the access at a1 falls. -/
def tRegion (c : Core) (m : MemOp) : Region := region (c.ea m).toNat

theorem witness_DmemLoads : tRegion ((tState (tCore 1)).found 3) ⟨1, .post 1⟩ = .dmem ∧ tRegion ((tState (tCore 1)).found 3) ⟨1, .base 0x1FFF0⟩ = .dmem ∧
    tIssue 1 [.ldb 3 .l0 63 ⟨1, .post 1⟩, .ldbu 3 .l1 1 ⟨1, .post 1⟩, .ldh 3 .l0 1 ⟨1, .post 1⟩, .ldhu 3 .l0 1 ⟨1, .post 1⟩, .ldw 3 .l0 1 ⟨1, .post 1⟩,
      .ldd 3 .l0 31 ⟨1, .post 1⟩, .ldq 3 .l0 31 ⟨1, .base 0x1FFF0⟩] = true := by decide +kernel

theorem witness_DmemStores : tIssue 1 [.stb 3 .l0 63 ⟨1, .post 1⟩, .sth 3 .l0 1 ⟨1, .post 1⟩, .stw 3 .l0 1 ⟨1, .post 1⟩, .std 3 .l0 31 ⟨1, .post 1⟩,
    .stq 3 .l1 31 ⟨1, .base 0x1FFF0⟩] = true := by decide +kernel

theorem witness_FarAccesses : tRegion ((tState (tCore 1)).found 3) ⟨2, .base 0x10⟩ ≠ .dmem ∧
    tIssue 1 (([.ldb 3 .l0 63, .ldbu 3 .l0 1, .ldh 3 .l0 1, .ldhu 3 .l0 1, .ldw 3 .l0 1, .ldd 3 .l0 31, .ldq 3 .l0 31, .stb 3 .l0 1, .sth 3 .l0 1,
      .stw 3 .l0 1, .std 3 .l0 31, .stq 3 .l0 31] : List (MemOp → Instr)).map (fun i => i ⟨2, .base 0x10⟩)) = true := by decide +kernel

/-- No lane is left with VL 0; with VL 4 lane 0 is the first, in DMEM for a load and a store. -/
theorem witness_StridedAccess :
    let o : VM := ⟨31, 1, 1, true, 2, 0⟩
    let s := tState ((tCore 1).wrCr0 7 0)
    let t := tState ((tCore 1).wrCr0 7 4)
    let c := t.found 3
    s.canIssue (.vlds 3 .l0 o) = true ∧ s.canIssue (.vsts 3 .l0 o) = true ∧ (s.found 3).vlen = 0 ∧ (s.found 3).far = [] ∧
    t.canIssue (.vlds 3 .l0 o) = true ∧ t.canIssue (.vsts 3 .l0 o) = true ∧ c.velem = 0 ∧ 0 < c.vlen ∧ c.lock.active = false ∧
    c.lock.timedOut = false ∧ region (c.rdA 1).v.toNat = .dmem ∧ (c.rdA 1).v.toNat % 4 = 0 ∧
    c.mayAccess c.pl (c.rdA 1).v.toNat 4 false = true ∧ c.mayAccess c.pl (c.rdA 1).v.toNat 4 true = true := by decide +kernel

/-- A store to CMEM outstanding, granted in FCLK 5. -/
def tFar (a : Word) (wr perf : Bool) : Far :=
  ⟨a, 4, wr, if wr then .none else .g 5 .w, ⟨7, .clean⟩, td0, 1, 0x1000, 0, 0, false, some 5, perf, false⟩

/-- The core with `f` as its only far access. -/
def tFarCore (f : Far) : Core := { tCore 1 with far := [f] }

/-- The clauses of `FarCompletion`: a CMEM access that is not granted, a read and a write that are, an access to IMEM, one to a register
that answers (read and write), one to a window that does not. -/
theorem witness_FarCompletion :
    (region 0x1000000 = .cmem ∧ region 0 = .imem ∧ region 0xA000000 ≠ .cmem ∧ region 0xA000000 ≠ .imem) ∧
    (let c := tFarCore (tFar 0x1000000 true false)
     let s := tState c
     (s.core 3).far = [tFar 0x1000000 true false] ∧ c.vrun = none ∧ c.entry = none ∧ c.lock.ending = false ∧
       (∀ h < 4, ∀ x ∈ (s.core h).far, h = 3)) ∧
    (tState (tFarCore (tFar 0xA000000 false false))).answers 3 0xA000000 = true ∧
    (tState (tFarCore (tFar 0xA000000 true false))).answers 3 0x8000000 = true ∧
    ((tState (tFarCore (tFar 0xA840000 false false))).setDomain 97 0).answers 3 0xA840000 = false := by decide +kernel

/-- A key slot in state `st`. -/
def tSlot (st : Nat) : KeySlot := { KeySlot.empty with st := st, idx := 5, ctr := 2 }

/-- The core at level `pl` with slot 4 in state `st`, slot 5 READY and one descriptor popped. -/
def tKeys (pl st : Nat) : State :=
  tState { tCore pl with slots := [(4, tSlot st), (5, tSlot 2)], popped := [⟨0, 0x1400, 1, 0, 0, false, 0, 0⟩] }

theorem witness_KeySlotOperations : (tKeys 1 2).canIssue (.kload 3 .l0 4 9) = true ∧ (tKeys 1 2).canIssue (.kload 3 .l0 15 9) = true ∧
    (tKeys 1 2).canIssue (.kzero 3 .l0 4) = true ∧ (tKeys 2 2).canIssue (.kexport 3 .l0 30 63) = true := by decide +kernel

theorem witness_CipherOperations : (tKeys 2 2).canIssue (.vctrInit 3 .v0 3 4 true 0) = true ∧
    ((tKeys 1 2).found 3).popped[0]? ≠ none ∧ (tKeys 1 2).canIssue (.vctrInit 3 .v0 3 4 false 0) = true ∧
    (tKeys 1 3).canIssue (.vctrData 3 .v0 31 3 8 4) = true ∧ (tKeys 1 2).canIssue (.vecb 3 .v0 31 3 4) = true ∧
    (tKeys 1 3).canIssue (.vghash 3 .v1 3 4) = true ∧ (tKeys 1 3).canIssue (.vtag 3 .v1 31 3 4) = true ∧
    (tKeys 1 3).canIssue (.vtagchk 3 .v1 7 3 10 4) = true := by decide +kernel

/-- Nothing outstanding; a KLOAD and a KEXPORT outstanding, the vault not being zeroised. -/
theorem witness_KeyLoadsAndExports :
    (let s := tState (tCore 1)
     (s.core 3).kloads = [] ∧ (s.core 3).kexp = []) ∧
    (let c := { tCore 1 with slots := [(4, tSlot 1)], kloads := [⟨4, 5, false, 0⟩], kexp := [⟨1, 0, 0⟩] }
     let s := tState c
     s.vault.zeroAt = 0 ∧ ((s.core 3).slot 4).st = 1 ∧ ((s.core 3).slot 4).idx = 5) := by decide +kernel

/-- An ADD in slot S0 (R143, R169), alone in its bundle at the pc. -/
def tAdd : Core := { tCore 0 with imem := [(0x1000, 0x1C), (0x1001, 0x46), (0x1002, 0x21), (0x1003, 0x80)] }

theorem witness_BundleReadsFirst :
    let b : Bundle := ⟨[(.s0, .alu .add 5 6 7), (.m0, .mul 1 2 3)], 8⟩
    (tCore 0).replay = none ∧ (tCore 0).vrun = none ∧ b.ops.any (fun o => o.2 == .retx) = false ∧ b.ops.any (fun o => opRun o.2) = false := by
  decide +kernel

/-- The core with nothing due, with each thing due in turn, and held. -/
theorem witness_BundleIssue :
    (let s := tState tAdd
     s.canIssue (.add 3 .s0 5 6 7) = true ∧ (s.found 3).fetch 0x1000 = some ⟨[(.s0, .alu .add 5 6 7)], 4 * opSyllables (.alu .add 5 6 7)⟩) ∧
    ({ tCore 0 with run := false } : Core).live = false ∧
    (let c := (tState { tCore 0 with callPend := some (8, 1, 0) }).found 3
     c.live = true ∧ c.vrun = none ∧ c.callPend = some (8, 1, 0)) ∧
    (let c := (tState { tCore 0 with imp13 := some (2, 0x100000) }).found 3
     c.callPend = none ∧ c.imp13 = some (2, 0x100000)) ∧
    (let c := (tState { tCore 0 with imp15 := some 0x100000 }).found 3
     c.imp13 = none ∧ c.imp15 = some 0x100000) ∧
    (let c := (tState { tCore 0 with imp7 := some (0x1000, 0) }).found 3
     c.imp13 = none ∧ c.imp15 = none ∧ c.imp7 = some (0x1000, 0)) ∧
    (let c := (tState { tCore 0 with haltReq := true }).found 3
     c.callPend = none ∧ c.imp13 = none ∧ c.imp15 = none ∧ c.imp7 = none ∧ c.haltReq = true ∧ c.asyncOk = true) := by decide +kernel

/-- Each fault of `BundleFaults` in turn: annulled, misaligned, outside IMEM and across the Keeper boundary, illegal in its slot, privileged,
TintFault. -/
theorem witness_BundleFaults :
    let at_ (c : Core) : Core := (tState c).found 3
    let env (c : Core) : Env := ((tState c).toBoundary 3).env 3
    let free (c : Core) : Bool := (at_ c).live && (at_ c).vrun.isNone && (((tState c).toBoundary 3).boundaryEntry 3).isNone && (at_ c).replay.isNone
    let ready (c : Core) (sl : Slot) (op : Op) : Bool := free c && slotOk op sl && opLegal op
      && c.dcLegal (env c) c.pc (c.succOf op) 1 [(sl, op)] && !c.bundleStalls (env c) c.pc (c.succOf op) [(sl, op)]
    (let c := { tCore 0 with shLeft := 1, shAnnul := true }
     free c = true ∧ decide ((at_ c).shLeft ≠ 0) = true ∧ (at_ c).shAnnul = true) ∧
    (free { tCore 0 with pc := 0x1002 } = true) ∧
    (free { tCore 0 with pc := 0x20000 } = true) ∧
    ((tCore 0).inKeeper 0 ≠ decide ((tCore 0).pl = 2)) ∧
    (free (tCore 0) = true ∧ slotOk (.alu .add 1 2 3) .m0 = false ∧ opLegal (.loopi 3 1 1) = false) ∧
    (ready (tCore 0) .s0 .pflush = true ∧ (at_ (tCore 0)).opPrivileged (env (tCore 0)) .pflush = true) ∧
    (let c := (tCore 0).wrG 3 ⟨1, .both⟩
     ready c .s0 (.jr 3 0) = true ∧ (at_ c).opPrivileged (env c) (.jr 3 0) = false ∧ (at_ c).opTintTrig (.jr 3 0) ≠ 0) := by decide +kernel

/-- A core at Supervisor level with two results in flight, a loop and a shadow. -/
def tEnter (pl : Nat) : Core :=
  { tCore pl with flight := [Flight.base 1 0x1000 5, { Flight.base 0 0x1000 6 with live := false }], lc := [(0, ⟨5, .both⟩)], shLeft := 1, issueCyc := 3 }

theorem witness_ExceptionEntry : (tEnter 1).pl ≠ 2 ∧ (tEnter 1).tsbOk = true ∧ (tEnter 1).exl = false ∧ (tEnter 1).dfl = false := by
  decide +kernel

/-- Keeper level; a double fault by EXL and by TSBP; a third fault by DFL and by the owner of bank 7. -/
theorem witness_EntryFaults :
    (tEnter 2).pl = 2 ∧
    (let c := (tEnter 1).wrCr0 0 0x401
     c.pl ≠ 2 ∧ c.exl = true ∧ c.dfl = false ∧ c.ownsBank 7 = true) ∧
    (let c := (tEnter 1).wrCr0 3 1
     c.pl ≠ 2 ∧ c.tsbOk = false ∧ c.ownsBank 7 = true) ∧
    (let c := (tEnter 1).wrCr0 0 0xC01
     c.pl ≠ 2 ∧ c.dfl = true) ∧
    (let c := { (tEnter 1).wrCr0 3 1 with dbOwn := [(7, 1)] }
     c.tsbOk = false ∧ c.ownsBank 7 = false) := by decide +kernel

theorem witness_CallsAndSleep : tIssue 0 [.syscall 3 .s0 0xFFFF] = true ∧ tIssue 1 [.syscall 3 .s0 0, .kcall 3 .s0 0 0, .sleep 3 .s0 0, .sleep 3 .s0 1] = true := by
  decide +kernel

theorem witness_SystemCallEntry : tIssue 0 [.syscall 3 .s0 0xFFFF] = true ∧ tIssue 1 [.kcall 3 .s0 0 0] = true ∧
    (∀ pl < 2, ((tState (tCore pl)).found 3).tsbOk = true ∧ ((tState (tCore pl)).found 3).exl = false ∧ ((tState (tCore pl)).found 3).dfl = false) := by
  decide +kernel

/-- The TSB at 0x104000 with STATUS 0, next bundle 0x1000 and one pending entry; then with REPLAY. -/
def tRetx (w4 : Nat) : State :=
  tState { tCore 1 with dmem := ⟨[(0x4009, 0x10), (0x4022, BitVec.ofNat 8 w4), (0x4023, 1), (0x4080, 5), (0x4081, 0x10), (0x4082, 9), (0x4084, 0xFF), (0x4085, 0xFF)], []⟩ }

theorem witness_ReturnFromException : (tRetx 0).canIssue (.retx 3 .s0) = true ∧ (tRetx 1).canIssue (.retx 3 .s0) = true := by decide +kernel

/-- Nothing in flight; a result that is not due; one that is. -/
theorem witness_ResultCommit :
    (tState (tCore 0)).core 3 = tCore 0 ∧ (tCore 0).flight = [] ∧
    (∃ f ∈ ((tState (tEnter 1)).core 3).flight, 3 < f.commit ∧ ((tState (tEnter 1)).core 3).issueCyc = 3) ∧
    (∃ f ∈ ((tState { tEnter 1 with issueCyc := 5 }).core 3).flight, f.commit ≤ 5 ∧ f.live = true ∧ f.dload = none) := by decide +kernel

/-- Source 2 of core 3 enabled at PRI 5 and pending. -/
def tIrq (c : Core) : State :=
  let s := (tState c).wr (srcAddr (idKey 3 2) 0) 0x85000000
  s.setSrc (idKey 3 2) { s.src (idKey 3 2) with pend := true }

/-- The clauses of `InterruptDelivery`: a core that may not accept, one presented with a source, one presented with none. -/
theorem witness_InterruptDelivery :
    (let s := tIrq ((tCore 1).wrCr0 0 0x101)
     (s.core 3).live = true ∧ (s.core 3).atBoundary = true ∧ (s.toBoundary 3).boundaryEntry 3 = none ∧ (s.found 3).asyncOk = true ∧
       (s.found 3).gie = true ∧ (s.toBoundary 3).presented 3 = some 2) ∧
    (let s := tIrq (tCore 1)
     (s.found 3).gie = false) ∧
    (let s := tState ((tCore 1).wrCr0 0 0x101)
     (s.found 3).gie = true ∧ (s.found 3).asyncOk = true ∧ (s.toBoundary 3).presented 3 = none) := by decide +kernel

/-- A source that the core owns, on top of its stack and not; one that it does not own. -/
theorem witness_EndOfInterrupt :
    (let s := (tState { (tCore 1).wrG 9 ⟨2, .clean⟩ with stack := [⟨2, 5, 0⟩] })
     let s := s.setSrc (idKey 3 2) { s.src (idKey 3 2) with act := true, owner := 3 }
     (s.src (idKey 3 2)).act = true ∧ (s.src (idKey 3 2)).owner = 3 ∧ s.canIssue (.mtc 3 .s0 46 9) = true) ∧
    ((tState (tCore 1)).src (idKey 3 2)).act = false := by decide +kernel

/-- A core outside and inside a locked sequence, the latter with and without an access of it outstanding. -/
theorem witness_LockedSequences :
    (tCore 1).lock.active = false ∧
    (let c := { tCore 1 with lock := { Lock.none with active := true, first := 4, held := [2] } }
     c.lock.active = true ∧ c.lock.first ≠ 0 ∧ c.far.any (fun f => f.locked) = false) ∧
    ({ tCore 1 with far := [{ tFar 0x1000000 false false with locked := true }] } : Core).far.any (fun f => f.locked) = true ∧
    tIssue 1 [.mtc 3 .s0 47 1, .mtc 3 .s0 47 2, .mtc 3 .s0 47 0] = true := by decide +kernel

/-- A sleeping core with its wake source presented and enabled, presented and not enabled, and with its timer set and not set. -/
theorem witness_SleepAndWake :
    let c := { tCore 1 with sleep := some ⟨1, 0⟩ }
    let s := tIrq c
    (c.sleep = some ⟨1, 0⟩) ∧ s.presented 3 = some 2 ∧ (s.rd (AON_WAKE 3 (2 / 32))).getLsbD 2 = false ∧
    ((s.wr (AON_WAKE 3 0) 4).presented 3 = some 2 ∧ ((s.wr (AON_WAKE 3 0) 4).rd (AON_WAKE 3 (2 / 32))).getLsbD 2 = true) ∧
    (c.rdCr 48).v = 0 ∧ ((c.wrCr0 48 1).rdCr 48).v ≠ 0 ∧ (tCore 1).sleep = none := by decide +kernel

/-- A core with nothing due that may take a halt, one that may not, one at Keeper level, a held one; DEPLOYED and not. -/
theorem witness_KeeperLimitAndLensHalt :
    (let c := tCore 1
     c.live = true ∧ c.vrun = none ∧ c.flight = [] ∧ c.callPend = none ∧ c.imp13 = none ∧ c.imp15 = none ∧ c.imp7 = none ∧ c.asyncOk = true ∧
       c.tsbOk = true ∧ c.pl ≠ 2) ∧
    ((tCore 2).live = true ∧ (tCore 2).pl = 2 ∧ (tCore 2).asyncOk = false) ∧ ({ tCore 1 with run := false } : Core).run = false ∧
    (tState (tCore 1)).lcState ≠ 2 ∧ ({ State.reset with fuses := { State.reset.fuses with lc := 3 } } : State).lcState = 2 := by decide +kernel

/-! Decoding the syllables of a bundle (R143): the worked examples of the spec (R190, R216, R243), alone in their bundles, and words written
out from R143, R166 and R169. -/

/-- What the core reads from IMEM where it holds the syllable `w` and then zeros. -/
def tFetch (w : Nat) : Option (List (Slot × Op)) :=
  (({ tCore 0 with imem := (SMap.setRange 0 [] 0x1000 (toLE 4 w)) } : Core).fetch 0x1000).map (·.ops)

theorem test_fetch_bnz : tFetch 0x856C300C = some [(.s0, .bc .bnz true true 3 12)] := by decide +kernel
theorem test_fetch_vadd : tFetch 0xC02214D9 = some [(.v2, .vop .add ⟨4, 5, 6, true, 2, 1⟩)] := by decide +kernel
theorem test_fetch_vctr : tFetch 0xB6450CBE = some [(.v0, .vctrData 10 3 31 2)] := by decide +kernel
theorem test_fetch_add : tFetch 0x8021461C = some [(.s0, .alu .add 5 6 7)] := by decide +kernel
theorem test_fetch_nop : tFetch 0x80000000 = some [(.s0, .nop)] := by decide +kernel

/-! Witnesses: the Warden, its mailbox, keys, images and zeroisation. -/

/-- Which premises of the clauses of `MailboxTransport` hold. -/
def preMailboxTransport (s : State) (c : List Byte) : List Bool :=
  let m := s.mbx
  let quiet : Bool := decide (m.busy = false ∧ m.rspValid = false ∧ m.timeout = false)
  let len := leNat (m.cmd.getRange 0 8 4)
  let bytes := m.cmd.getRange 0 0 (16 + min len 16400)
  let waits : Bool := decide (m.wq = [(m.gen, c)] ∧ m.busy = true ∧ m.held = none ∧ s.wardenListens = true ∧ cmdOp c = 0x02)
  [decide (¬quiet),
    decide (quiet ∧ s.wardenListens = false),
    decide (quiet ∧ s.wardenListens = true ∧ m.wq = [] ∧ cmdOp bytes ∈ opcodes),
    decide (m.busy = true),
    decide (m.busy = false),
    decide (waits ∧ ((match m.lastSeq with | some q => decide (cmdSeq c ≠ q + 1 ∧ (cmdSeq c ≠ q ∨ c ≠ m.lastCmd)) | _ => false) = true)),
    decide (waits ∧ ((match m.lastSeq with | some q => decide (cmdSeq c ≠ q + 1 ∧ cmdSeq c = q ∧ c = m.lastCmd) | _ => false) = true)),
    decide (waits ∧ m.lastSeq = none ∧ cmdSeq c = 0 ∧ cmdLen c ≠ 4),
    decide (waits ∧ m.lastSeq = none ∧ cmdSeq c = 0 ∧ cmdLen c = 4 ∧ (s.lcState = 0 ∨ s.lcState = 3))]

theorem witness_MailboxTransport :
    let c := tCmd 2 0 (toLE 4 16)
    let put (s : State) : State := { s with mbx := { s.mbx with cmd := SMap.setRange 0 [] 0 c } }
    let seen (s : State) (q : Nat) (l : List Byte) : State := { s with mbx := { s.mbx with lastSeq := some (BitVec.ofNat 32 q), lastCmd := l } }
    let bad := tCmd 2 0 [1]
    covered [preMailboxTransport (put State.reset) c, preMailboxTransport (put tUp) c, preMailboxTransport (tMail tUp c) c,
      preMailboxTransport (seen (tMail tUp c) 5 []) c, preMailboxTransport (seen (tMail tUp c) 0 c) c, preMailboxTransport (tMail tUp bad) bad,
      preMailboxTransport { tMail tUp c with fuses := { tUp.fuses with lc := 0 } } c] = true := by decide +kernel

/-- Which premises of the clauses of `MailboxReports` hold. -/
def preMailboxReports (s : State) (c : List Byte) : List Bool :=
  let p := c.drop 16
  let sa := fieldAt p 0 2
  let n := fieldAt p 0 4
  let up : Bool := decide (s.lcState = 1 ∨ s.lcState = 2)
  [decide (tReady s 0x01 0 c),
    decide (tReady s 0x02 4 c ∧ up ∧ 8 ≤ n ∧ n ≤ 4096 ∧ n % 8 = 0 ∧ s.trngOk = true),
    decide (tReady s 0x02 4 c ∧ up ∧ (n < 8 ∨ 4096 < n ∨ n % 8 ≠ 0)),
    decide (tReady s 0x03 0 c ∧ s.trngOk = true),
    decide (tReady s 0x03 0 c ∧ s.trngOk = false),
    decide (tReady s 0x16 2 c ∧ up ∧ sa < 4096 ∧ s.saBusy sa = false),
    decide (tReady s 0x16 2 c ∧ up ∧ sa < 4096 ∧ s.saBusy sa = true),
    decide (tReady s 0x24 0 c ∧ up ∧ (match s.root.ident with | some seed => decide ((match s.root.prov with | some prov => decide (True) | _ => false) = true) | _ => false) = true),
    decide (tReady s 0x24 0 c ∧ up ∧ (s.root.ident = none ∨ s.root.prov = none))]

theorem witness_MailboxReports :
    let at_ (s : State) (c : List Byte) : List Bool := preMailboxReports (tMail s c) c
    let busy : State := { tUp with vault := { tUp.vault with retiring := [⟨3, true, 7, 100, [0, 2], true, true⟩] } }
    covered [at_ tUp (tCmd 1 0 []), at_ tUp (tCmd 2 0 (toLE 4 8)), at_ tUp (tCmd 2 0 (toLE 4 4096)), at_ tUp (tCmd 2 0 (toLE 4 4104)), at_ tUp (tCmd 3 0 []),
      at_ (tAfter .trngHealthFail tUp) (tCmd 3 0 []), at_ tUp (tCmd 0x16 0 (toLE 2 4095)), at_ busy (tCmd 0x16 0 (toLE 2 3)), at_ tUp (tCmd 0x24 0 []),
      at_ { tUp with root := Root.empty } (tCmd 0x24 0 [])] = true := by decide +kernel

/-- A retirement under way and a handle. -/
def tVault : State :=
  let x : SkbCtx := { SkbCtx.empty with live := true, sa := 3 }
  let h : KeHandle := { init := true, sa := 3, key := false, an := 0, nextPn := 1, limit := 2, at_ := 5, bound := none, peer := [], ek := [],
                        secret := none, buf := Mem.zero }
  let s : State := { tUp with vault := { tUp.vault with retiring := [⟨3, true, 7, 100, [0, 2], true, true⟩], handles := [(4, some h)] } }
  (s.setClu 0 { s.clu 0 with skb := [(7, x)] }).setClu 2 { s.clu 2 with skb := [(7, x)] }

/-- Which premises of the clauses of `SaCommands` hold. -/
def preSaCommands (s : State) (c : List Byte) (i : Nat) : List Bool :=
  let p := c.drop 16
  let b (o : Nat) : Nat := fieldAt p o 1
  let sa := fieldAt p 0 2
  let up : Bool := decide ((s.lcState = 1 ∨ s.lcState = 2) ∧ sa < 4096 ∧ s.saBusy sa = false)
  let key := s.rd (SA_KEY sa)
  let live := [false, true].filter fun k => keyLive key k
  let old := homesOf (s.rd (SA_HOME sa))
  let new := (List.range (b 2 + 1)).map fun n => b (4 + n)
  [decide (tReady s 0x10 40 c ∧ up ∧ b 11 = 0 ∧ saArgsOk p = true ∧ s.saExists sa = false ∧ s.epochOk (b 7) = true ∧ s.replMode sa ≠ 1 ∧
      (lookupPos (b 2) (b 8) (b 9) (fieldAt p 16 8)).find? (fun i => s.fld (LKUP_CTL i) LKUP_CTL_VALID == 0) = some i),
    decide (tReady s 0x11 2 c ∧ up ∧ s.saExists sa = true ∧ s.replMode sa ≠ 1 ∧ s.saEntry sa = some i),
    decide (tReady s 0x12 12 c ∧ up ∧ homesOk (b 2) (homeBytes p 4) = true ∧ s.saExists sa = true ∧ s.epochOk (b 3) = true ∧ ((∀ k ∈ live, ∀ h ∈ new, h ∉ old → ((s.clu h).ctx (keySkb key k)).live = false ∧ keySkb key k ∉ (s.clu h).restore))),
    decide (tReady s 0x42 4 c ∧ up ∧ b 2 ≤ 2 ∧ b 3 ≤ 1 ∧ s.saExists sa = true ∧ s.root.kekRepl.isSome = true)]

/-- SA 7 towards red on clusters 2 and 3. -/
def tSa (dir : Nat) : List Byte :=
  toLE 2 7 ++ [BitVec.ofNat 8 dir, 1, 2, 0, 5, 0, 1, 3, 1, 0, 2, 3, 0, 0] ++ toLE 8 0x1122334455 ++ toLE 8 0x99 ++ toLE 4 64 ++ toLE 4 1000

def tCreated : State :=
  let s := tUp
  let c := tCmd 0x10 0 (tSa 0)
  tAfter .saCreate (tMail s c)

/-- The lookup entry of SA 7. -/
def tPos : Nat := (lookupPos 0 1 3 0x1122334455).headD 0

theorem witness_SaCommands :
    let at_ (s : State) (c : List Byte) : List Bool := preSaCommands (tMail s c) c tPos
    covered [at_ tUp (tCmd 0x10 0 (tSa 0)), at_ tCreated (tCmd 0x11 1 (toLE 2 7)),
      at_ tCreated (tCmd 0x12 1 (toLE 2 7 ++ [0, 0] ++ toLE 4 2 ++ toLE 4 55)),
      at_ tCreated (tCmd 0x42 1 (toLE 2 7 ++ [2, 1]))] = true := by decide +kernel

/-- Which premises of the clauses of `KeyCommands` hold. -/
def preKeyCommands (s : State) (c : List Byte) (idx : Nat) : List Bool :=
  let p := c.drop 16
  let b (o : Nat) : Nat := fieldAt p o 1
  let up : Bool := decide (s.lcState = 1 ∨ s.lcState = 2)
  let usable (r : KeyReq) : Bool := decide (s.keyReq (toLE 2 r.sa ++ [BitVec.ofNat 8 (b2n r.key), BitVec.ofNat 8 r.an] ++ toLE 8 r.np ++ toLE 8 r.lim) = .inr r)
  let r0 : KeyReq := ⟨fieldAt p 0 2, b 2 == 1, b 3, fieldAt p 4 8, fieldAt p 12 8⟩
  let fits (sa : Nat) : Bool :=
    let open_ (j : Nat) : Bool := decide (∀ h ∈ homesOf (s.rd (SA_HOME sa)), ((s.clu h).ctx j).live = false ∧ j ∉ (s.clu h).restore)
    decide (idx < 1024 ∧ open_ idx ∧ ∀ j, j < idx → ¬open_ j)
  let sa := fieldAt p 0 2
  let k := b 2 == 1
  let ke : Bool := decide (up ∧ s.keCore.isSome = true ∧ s.identSeed.isSome = true ∧ s.trngOk = true)
  let w0 := s.rd (SA_KEY sa)
  let named : Bool := decide (sa < 4096 ∧ b 2 ≤ 1 ∧ s.saBusy sa = false ∧ keyLive w0 k = true)
  [decide (tReady s 0x13 76 c ∧ up ∧ b 2 ≤ 1 ∧ usable r0 ∧ fits r0.sa ∧ s.root.kekImport.isSome = true),
    decide (tReady s 0x13 76 c ∧ up ∧ b 2 ≤ 1 ∧ usable r0 ∧ s.root.kekImport.isSome = true),
    decide (tReady s 0x14 3 c ∧ up ∧ named ∧ s.flag (SA_CFG sa) SA_CFG_DIR = false),
    decide (tReady s 0x14 3 c ∧ up ∧ named ∧ s.flag (SA_CFG sa) SA_CFG_DIR = true),
    decide (tReady s 0x15 3 c ∧ up ∧ named ∧ (s.flag (SA_CFG sa) SA_CFG_DIR = true ∨ w0.fld SA_KEY_ACTIVE ≠ b2n k)),
    decide (tReady s 0x15 3 c ∧ up ∧ named ∧ s.flag (SA_CFG sa) SA_CFG_DIR = false ∧ w0.fld SA_KEY_ACTIVE = b2n k),
    decide (ke ∧ b 2 ≤ 1 ∧ usable r0 ∧ s.freeSlot.isSome = true ∧ tReady s 0x20 2612 c),
    decide (ke ∧ b 2 ≤ 1 ∧ usable r0 ∧ s.freeSlot.isSome = true ∧ tReady s 0x21 8807 c ∧ fits r0.sa),
    decide (ke ∧ tReady s 0x22 6199 c ∧ (match s.vault.handles.get none (fieldAt p 0 4) with
      | some h => usable ⟨h.sa, h.key, h.an, h.nextPn, h.limit⟩ && fits h.sa
      | none => false) = true),
    decide (tReady s 0x23 4 c ∧ up ∧ (match s.vault.handles.get none (fieldAt p 0 4) with | some h => decide (True) | _ => false) = true)]

/-- A key request for SA 7, key `k`. -/
def tReq (k : Nat) : List Byte := toLE 2 7 ++ [BitVec.ofNat 8 k, BitVec.ofNat 8 (2 + k)] ++ toLE 8 5 ++ toLE 8 0xFFFF

/-- SA 7 with key 0 LIVE and active. -/
def tKeyed (dir act : Nat) : State :=
  let s := tAfter .saCreate (tMail tUp (tCmd 0x10 0 (tSa dir)))
  s.wr (SA_KEY 7) (BitVec.ofNat 32 (act * 2 ^ SA_KEY_ACTIVE.lo + 2 ^ SA_KEY_KV0.lo))

/-- SA 7 without keys, with a spare core. -/
def tPeer : State :=
  tCreated.wr (ROT_CORE 2 1) (BitVec.ofNat 32 (4 * 2 ^ ROT_CORE_STATE.lo))

theorem witness_KeyCommands :
    let at_ (s : State) (c : List Byte) : List Bool := preKeyCommands (tMail s c) c 0
    let h : KeHandle := { init := true, sa := 7, key := false, an := 0, nextPn := 1, limit := 2, at_ := 5, bound := none, peer := [], ek := [],
                          secret := none, buf := Mem.zero }
    let s : State := { tPeer with vault := { tPeer.vault with handles := [(5, some h)] } }
    covered [at_ tCreated (tCmd 0x13 1 (tReq 0 ++ List.replicate 56 0)), at_ tCreated (tCmd 0x13 1 (tReq 1 ++ List.replicate 56 0)),
      at_ (tKeyed 0 1) (tCmd 0x14 1 (toLE 2 7 ++ [0])), at_ (tKeyed 1 0) (tCmd 0x14 1 (toLE 2 7 ++ [0])), at_ (tKeyed 0 1) (tCmd 0x15 1 (toLE 2 7 ++ [0])),
      at_ (tKeyed 0 0) (tCmd 0x15 1 (toLE 2 7 ++ [0])), at_ tPeer (tCmd 0x20 1 (tReq 0 ++ List.replicate 2592 3)), at_ tPeer (tCmd 0x21 1 (tReq 0 ++ List.replicate 8787 3)),
      at_ s (tCmd 0x22 1 (toLE 4 5 ++ List.replicate 6195 0)), at_ s (tCmd 0x23 1 (toLE 4 5))] = true := by decide +kernel

/-- A peer whose key is in the trust list, for KE_INIT and KE_RESPOND. -/
theorem witness_KeyCommands_trust (s : State) (pk : List Byte) :
    State.lineTrusts { s with vault := { s.vault with trustLine := [sha3 pk] } } pk = true := by simp [State.lineTrusts]

/-- A retirement that is due and a handle in its INIT phase. -/
theorem witness_RetirementAndHandleTimeout :
    tVault.vault.retiring.find? (fun r => r.sa == 3 && r.key == true) = some ⟨3, true, 7, 100, [0, 2], true, true⟩ ∧ tVault.wardenRuns = true ∧
    tVault.vault.zeroAt = 0 ∧
    (tVault.vault.handles.find? (fun e => match e.2 with
      | some x => decide ((e.1 - 1) % 16 = 3) && x.init
      | none => false)).isSome = true := by decide +kernel

theorem witness_RandomPorts : (tState (tCore 2)).core 3 = tCore 2 ∧ (tCore 2).run = true ∧ (tCore 2).pl = 2 ∧ (tCore 1).pl ≠ 2 := by decide +kernel

/-- Which premises of the clauses of `SignedCommands` hold. -/
def preSignedCommands (s : State) (c : List Byte) : List Bool :=
  let p := c.drop 16
  let up : Bool := decide (s.lcState = 1 ∨ s.lcState = 2)
  let hash : BitVec 512 := BitVec.ofNat 512 (beNat (bytesAt p 4 64))
  let use := fieldAt p 0 1
  let add : Bool := decide (fieldAt p 1 1 = 0)
  let line := s.vault.trustLine
  let pk := bytesAt p 0 2592
  [decide (((match s.fuses.owner with | some o => decide (tReady s 0x41 4727 c ∧ up ∧ fieldAt p 2 2 = 0 ∧ use ≤ 2 ∧ fieldAt p 1 1 ≤ 1 ∧ s.nonceOk p 68 = true ∧ (¬(use = 0 ∧ add ∧ hash ∉ line ∧ 64 ≤ line.length))) | _ => false) = true)),
    decide (tReady s 0x41 4727 c ∧ up ∧ fieldAt p 2 2 = 0 ∧ use ≤ 2 ∧ fieldAt p 1 1 ≤ 1 ∧ s.nonceOk p 68 = false),
    decide (((match s.provSeed with | some seed => decide (((match s.keCore with | some g => decide (tReady s 0x50 8891 c ∧ up ∧ s.nonceOk p 4232 = true ∧ s.fuses.owner = none) | _ => false) = true)) | _ => false) = true)),
    decide (tReady s 0x40 4 c ∧ up ∧ fieldAt p 0 4 < 16),
    decide (tReady s 0x34 0 c ∧ up)]

theorem witness_SignedCommands :
    let at_ (s : State) (c : List Byte) : List Bool := preSignedCommands (tMail s c) c
    let s : State := { tPeer with vault := { tPeer.vault with challenge := some 0 }, mbx := tUp.mbx }
    covered [at_ { s with fuses := { s.fuses with owner := some 5 } } (tCmd 0x41 0 (List.replicate 4727 0)), at_ tUp (tCmd 0x41 0 (List.replicate 4727 0)),
      at_ s (tCmd 0x50 0 (List.replicate 8891 0)), at_ tUp (tCmd 0x40 0 (toLE 4 15)), at_ tUp (tCmd 0x34 0 [])] = true := by decide +kernel

/-- All of an image's checks but its hashes and signature, which rest on free values. -/
def tForm (s : State) (t : Nat) (b : List Byte) : Bool := imgForm b && imgType b == t && s.imgSignerOk b

/-- The boot slot where an image of slot A is well formed. -/
def tBoot (s : State) : Option Bool := if tForm s 0 s.flash.wardenA then some false else none

/-- Which premises of the clauses of `ImageCommands` hold. -/
def preImageCommands (s : State) (c : List Byte) (clu : ClId) : List Bool :=
  let p := c.drop 16
  let o := fieldAt p 0 4
  let bs := p.drop 4
  let img := s.warden.staged.getRange 0 0 o
  let action := fieldAt p 4 1
  let t0 := imgType img
  let fine : Bool := decide (o ≤ 524288 ∧ tForm s t0 img = true ∧ fieldAt p 5 3 = 0)
  let slot := fieldAt p 0 1
  let err := costErr (fitTo 0 2048 bs)
  let epoch := leNat ((bs.drop 8).take 4)
  let twin : Bool := decide (s.flag (COST_STAT (1 - slot)) COST_STAT_VALID = true ∧ s.fld (COST_STAT (1 - slot)) COST_STAT_EPOCH = epoch)
  [decide (20 ≤ cmdLen c ∧ cmdLen c ≤ 16388 ∧ cmdLen c % 16 = 4 ∧ tReady s 0x31 (cmdLen c) c ∧ o % 16 = 0 ∧ o + bs.length ≤ 524288),
    decide (tReady s 0x32 8 c ∧ fine ∧ t0 = 1 ∧ action = 1 ∧ s.lcState ≠ 3),
    decide (tReady s 0x32 8 c ∧ fine ∧ t0 = 0 ∧ action = 0),
    decide (tReady s 0x32 8 c ∧ fine ∧ t0 = 1 ∧ action = 0 ∧ s.lcState ≠ 3 ∧ s.mirrorArgs (imgEpoch img) = true ∧ s.flag MIRROR_STAT MIRROR_STAT_ACTIVE = false),
    decide (tReady s 0x32 8 c ∧ fine ∧ t0 = 1 ∧ action = 0 ∧ s.lcState ≠ 3 ∧ s.mirrorArgs (imgEpoch img) = false),
    decide (36 ≤ cmdLen c ∧ cmdLen c ≤ 1060 ∧ tReady s 0x30 (cmdLen c) c ∧ s.lcState ≠ 3 ∧ slot ≤ 1 ∧ fieldAt p 1 3 = 0 ∧ bs.length ≤ 2048 ∧ s.flag (COST_STAT slot) COST_STAT_VALID = false),
    decide (36 ≤ cmdLen c ∧ cmdLen c ≤ 1060 ∧ tReady s 0x30 (cmdLen c) c ∧ s.lcState ≠ 3 ∧ slot = 0 ∧ fieldAt p 1 3 = 0 ∧ bs.length ≤ 2048 ∧ s.flag (COST_STAT 0) COST_STAT_VALID = false ∧ err = 0 ∧ ¬twin)]

/-- A staged image of one body byte: the bytes of its header (R418), type `t`, epoch 3. -/
def tImg (t : Nat) : SMap Byte :=
  [(0, 0x5A), (1, 0x47), (2, 0x49), (3, 0x4D), (4, 1)] ++ (if t = 1 then [(6, 1)] else []) ++ [(0x10, 1)] ++ (if t = 1 then [(0x14, 3)] else [])

/-- A cost table of one entry, epoch 3 (R401). -/
def tTable : List Byte :=
  let head (c : Nat) : List Byte := toLE 4 0x4254435A ++ toLE 2 1 ++ toLE 2 1 ++ toLE 4 3 ++ toLE 2 2000 ++ List.replicate 14 0 ++ toLE 4 c
  let ent : List Byte := toLE 2 100 ++ [5, 1] ++ toLE 2 90 ++ List.replicate 10 0
  head (crc32c (head 0 ++ ent)) ++ ent

theorem witness_ImageCommands :
    let at_ (s : State) (c : List Byte) : List Bool := preImageCommands (tMail s c) c 3
    let stage (t : Nat) : State := { tUp with warden := { tUp.warden with staged := tImg t } }
    covered [at_ tUp (tCmd 0x31 0 (toLE 4 524272 ++ List.replicate 16 5)), at_ (stage 1) (tCmd 0x32 0 (toLE 4 0x1D01 ++ [1, 0, 0, 0])),
      at_ (stage 0) (tCmd 0x32 0 (toLE 4 0x1D01 ++ [0, 0, 0, 0])), at_ (stage 1) (tCmd 0x32 0 (toLE 4 0x1D01 ++ [0, 0, 0, 0])),
      at_ ((stage 1).wr (COST_STAT 0) 0x80000301) (tCmd 0x32 0 (toLE 4 0x1D01 ++ [0, 0, 0, 0])),
      at_ tUp (tCmd 0x30 0 (toLE 4 1 ++ tTable)), at_ tUp (tCmd 0x30 0 (toLE 4 0 ++ tTable))] = true := by decide +kernel

/-- Which premises of the clauses of `Zeroisation` hold. -/
def preZeroisation (s : State) (loop : BitVec 2) (c : List Byte) : List Bool :=
  let a := ZEROISE_STAT
  let runs := s.flag a ZEROISE_STAT_RUNNING
  let p := c.drop 16
  let row : Bool := decide ((s.lcState = 0 ∧ fieldAt p 0 1 = 1) ∨ ((s.lcState = 1 ∨ s.lcState = 2) ∧ fieldAt p 0 1 = 3))
  [decide (bitN (s.fld TAMPER_CTL TAMPER_CTL_EN) loop.toNat = true ∧ runs = false),
    decide (bitN (s.fld TAMPER_CTL TAMPER_CTL_EN) loop.toNat = true ∧ runs = true),
    decide (bitN (s.fld TAMPER_CTL TAMPER_CTL_EN) loop.toNat = false),
    decide ((s.lcState = 0 ∨ s.lcState = 3) ∧ runs = false),
    decide ((s.lcState = 1 ∨ s.lcState = 2)),
    decide (tReady s 0x52 4 c ∧ fieldAt c 16 1 ≤ 1 ∧ fieldAt c 17 3 = 0 ∧ runs = false),
    decide (tReady s 0x51 4663 c ∧ s.lcState ≠ 3 ∧ fieldAt c 17 3 = 0 ∧ row ∧ s.nonceOk p 4 = true ∧ runs = false),
    decide (tReady s 0x51 4663 c ∧ s.lcState = 1 ∧ fieldAt c 17 3 = 0 ∧ fieldAt p 0 1 = 2 ∧ s.fuses.owner.isSome = true ∧ s.root.kekImport.isSome = true ∧ s.nonceOk p 4 = true),
    decide (runs = true ∧ s.clk.deferred ≠ 1 ∧ s.clk.deferred ≠ 3),
    decide (runs = false)]

theorem witness_Zeroisation :
    let at_ (s : State) (loop : BitVec 2) (c : List Byte) : List Bool := preZeroisation (tMail s c) loop c
    let s : State := { tUp.wr TAMPER_CTL 5 with vault := { tUp.vault with challenge := some 0 } }
    let raw : State := { s with fuses := { s.fuses with lc := 0 } }
    let nothing := tCmd 0x52 0 [0, 0, 0, 0]
    covered [at_ s 0 (tCmd 0x52 0 [1, 0, 0, 0]), at_ (s.wr ZEROISE_STAT (BitVec.ofNat 32 (2 ^ ZEROISE_STAT_RUNNING.lo))) 2 nothing, at_ s 3 nothing,
      at_ raw 0 nothing, at_ raw 0 (tCmd 0x51 0 (1 :: List.replicate 4662 0)),
      at_ { s with fuses := { s.fuses with owner := some 5 } } 0 (tCmd 0x51 0 (2 :: List.replicate 4662 0))] = true := by decide +kernel

/-- Which premises of the clauses of `WardenBoot` hold. -/
def preWardenBoot (s : State) : List Bool :=
  let w := s.warden
  let may : Bool := decide (w.up = false ∧ s.clk.hold = false ∧ s.vault.zeroAt = 0 ∧ w.rom = false ∧ w.halted = false)
  let idle : Bool := decide (s.mbx.busy = false)
  [decide (may ∧ idle ∧ tBoot s = none),
    decide (((match tBoot s with | some _ => decide (may ∧ idle ∧ tForm s 1 s.flash.core = false ∧ w.images = []) | _ => false) = true)),
    decide (((match tBoot s with | some _ => decide (may ∧ idle ∧ tForm s 1 s.flash.core = true ∧ costErr s.flash.cost = 0) | _ => false) = true)),
    decide (¬may),
    decide (((match tBoot s with | some _ => decide (w.restarting = true ∧ s.vault.zeroAt = 0 ∧ idle ∧ w.kickAt ≠ 0) | _ => false) = true)),
    decide (tBoot s = none ∧ w.restarting = true ∧ s.vault.zeroAt = 0 ∧ idle),
    decide ((w.restarting = false ∨ s.vault.zeroAt ≠ 0)),
    decide (w.halted = false ∧ (w.up = true ∨ w.rom = true) ∧ s.derrq.length < 16),
    decide ((w.halted = true ∨ w.up = false ∧ w.rom = false)),
    decide (w.up = true ∧ w.halted = false),
    decide (w.up = true ∧ w.halted = false ∧ w.kickAt ≠ 0)]

theorem witness_WardenBoot :
    let img (t : Nat) : List Byte := (tImg t).getRange 0 0 0x1D01
    let down : State := { State.reset with warden := { State.reset.warden with up := false, rom := false, halted := false } }
    let a : State := { down with flash := { down.flash with wardenA := img 0 } }
    let b : State := { down with flash := { down.flash with wardenA := img 0, core := img 1, cost := fitTo 0 2048 tTable } }
    let again (s : State) : State := { s with warden := { s.warden with restarting := true, kickAt := 7 } }
    covered [preWardenBoot down, preWardenBoot a, preWardenBoot b, preWardenBoot tUp, preWardenBoot (again a), preWardenBoot (again down),
      preWardenBoot { tUp with warden := { tUp.warden with kickAt := 9 } }] = true := by decide +kernel

/-! Witnesses: rotation, power, clocks and resets. -/

/-- Cores in rotation states. -/
def tRot (s : State) (l : List (Nat × Nat)) : State := l.foldl (fun s p => s.setFld (ROT_CORE (p.1 / 8) (p.1 % 8)) ROT_CORE_STATE p.2) s

/-- Which premises of the clauses of `RotationStep` hold. -/
def preRotationStep (s : State) (c : ClId) (n : R3) (g : CoreId) : List Bool :=
  let on := s.blockOn (ROT_CTL c)
  [decide (on = true ∧ s.flag (ROT_CTL c) ROT_CTL_EN = true),
    decide (on = true ∧ s.flag (ROT_CTL c) ROT_CTL_EN = false),
    decide (on = true),
    decide (on = false)]

theorem witness_RotationStep :
    covered [preRotationStep (tUp.setFlag (ROT_CTL 0) ROT_CTL_EN true) 0 3 4, preRotationStep (tUp.setFlag (ROT_CTL 11) ROT_CTL_EN false) 11 3 4,
      preRotationStep (tUp.setDomain 96 0) 0 3 4] = true := by decide +kernel

/-- Which premises of the clauses of `RotationOfCores` hold. -/
def preRotationOfCores (s : State) (g : CoreId) (lok mok b : Bool) (v : Word) (x : R4) (n : BitVec 2) : List Bool :=
  let c := s.core g
  let k := g.val / 8
  let st := s.rotState g
  [decide (st = 1 ∧ s.qdepth g = 0),
    decide ((st ≠ 1 ∨ s.qdepth g ≠ 0)),
    decide (st = 1 ∧ s.qdepth g ≠ 0),
    decide (st ≠ 1),
    decide (st = 2 ∧ lok = true ∧ mok = true ∧ s.flag (MREP k (g.val % 8)) MREP_FAIL = false),
    decide (st = 2 ∧ (lok = false ∨ mok = false ∨ s.flag (MREP k (g.val % 8)) MREP_FAIL = true)),
    decide (st ≠ 2),
    decide (st = 3 ∧ (s.rotOf g).starting = false),
    decide ((st ≠ 3 ∨ (s.rotOf g).starting = true)),
    decide (c.run = true ∧ c.pl ≠ 0 ∧ v &&& 1 = 1 ∧ st = 3 ∧ (s.rotOf g).starting = true ∧ s.flag MIRROR_STAT MIRROR_STAT_ACTIVE = false),
    decide (c.run = true ∧ c.pl = 0),
    decide (st = 3 ∧ (s.rotOf g).starting = true),
    decide ((st ≠ 3 ∨ (s.rotOf g).starting = false)),
    decide (st ≠ 5 ∧ st ≠ 6),
    decide ((st = 5 ∨ st = 6)),
    decide (s.flag MIRROR_STAT MIRROR_STAT_ACTIVE = true ∧ ((∀ h : CoreId, s.rotState h = 5 ∨ s.rotState h = 6 ∨ (s.rotState h = 0 ∨ s.rotState h = 1 ∨ s.rotState h = 4) ∧ s.coreEpoch h = s.fld MIRROR_STAT MIRROR_STAT_NEW_EPOCH)))]

theorem witness_RotationOfCores :
    let at_ (s : State) (l m : Bool) (v : Word) : List Bool := preRotationOfCores s 3 l m true v 3 1
    let run (pl : Nat) (s : State) : State := s.setCore 3 (tCore pl)
    let busy : State := { tRot tUp [(3, 1)] with frames := [(1, { Frame.none with atCore := true, core := 3, stage := .admitted, len := 64 })] }
    let starts : State := (run 1 (tRot tUp [(3, 3)])).setRot 3 ⟨5, true, true⟩
    let fenced : State := tRot tUp ((List.range 96).map (fun g => (g, if g % 2 = 0 then 5 else 6)))
    covered [at_ (tRot tUp [(3, 1)]) true true 0, at_ busy true true 0, at_ (tRot tUp [(3, 2)]) true true 0, at_ (tRot tUp [(3, 2)]) true false 0,
      at_ (tRot tUp [(3, 3)]) true true 0, at_ starts true true 1, at_ (run 0 (tRot tUp [(3, 3)])) true true 1, at_ fenced true true 0,
      at_ (fenced.wr MIRROR_STAT (BitVec.ofNat 32 (2 ^ MIRROR_STAT_ACTIVE.lo))) true true 0] = true := by decide +kernel

/-- Which premises of the clauses of `ErrorRecordPops` hold. -/
def preErrorRecordPops (s : State) (c : ClId) (g : CoreId) : List Bool :=
  let e := ERRQ_POPR c 0
  [decide (s.blockOn e = true),
    decide (s.blockOn e = true ∧ (s.core g).pl ≠ 0),
    decide (s.blockOn e = true ∧ (s.core g).pl = 0)]

theorem witness_ErrorRecordPops :
    covered [preErrorRecordPops (tUp.setCore 17 (tCore 1)) 2 17, preErrorRecordPops (tUp.setCore 17 (tCore 0)) 11 17] = true := by decide +kernel

/-- Which premises of the clauses of `PowerAndDust` hold. -/
def prePowerAndDust (s : State) (v : Word) (c : PwrCmd) : List Bool :=
  let d := v.toNat % 128
  let alone : Bool := decide (s.pwrq = [c])
  let k := s.fld DUST_STAT DUST_STAT_KIND
  let i := s.fld DUST_STAT DUST_STAT_INDEX
  let kind := (v.fld DUST_CTL_KIND)
  let unit := (v.fld DUST_CTL_INDEX)
  let dbusy := s.flag DUST_STAT DUST_STAT_BUSY
  [decide (alone ∧ c.up = false ∧ c.d < 128 ∧ s.drained c.d = true ∧ s.now ≤ s.pwrAt + 20000),
    decide (alone ∧ c.up = false ∧ c.d < 128 ∧ s.drained c.d = false),
    decide (alone ∧ c.up = true ∧ c.d < 128),
    decide (s.pwrq = []),
    decide (v.fld DUST_CTL_RELEASE = 1 ∧ dbusy = true),
    decide (v.fld DUST_CTL_RELEASE = 1 ∧ dbusy = false ∧ s.unitFenced kind unit = false),
    decide (v.fld DUST_CTL_RELEASE = 1 ∧ dbusy = false ∧ s.unitFenced kind unit = true ∧ (kind = 1 ∨ kind = 7) ∧ s.pwrq = [] ∧ s.domain (if kind = 1 then unit else 108 + unit) = 0),
    decide (v.fld DUST_CTL_RELEASE = 0),
    decide (dbusy = false),
    decide (dbusy = true ∧ s.unitReady k i = true),
    decide (dbusy = true ∧ s.unitReady k i = false),
    decide (dbusy = true)]

theorem witness_PowerAndDust :
    let down : PwrCmd := ⟨false, 5, none⟩
    let up : PwrCmd := ⟨true, 127, none⟩
    let q (s : State) (c : PwrCmd) : State := { s with pwrq := [c], pwrAt := 4 }
    let busy : State := { tUp with frames := [(2, { Frame.none with atCore := true, core := 5 })] }
    let dust (s : State) (k i : Nat) : State := s.wr DUST_STAT ((((0 : Word).setFld DUST_STAT_BUSY 1).setFld DUST_STAT_KIND k).setFld DUST_STAT_INDEX i)
    let rel : Word := (((0 : Word).setFld DUST_CTL_RELEASE 1).setFld DUST_CTL_KIND 1).setFld DUST_CTL_INDEX 3
    let fenced : State := (tRot tUp [(3, 5)]).setDomain 3 0
    covered [prePowerAndDust (q tUp down) 0 down, prePowerAndDust (q busy down) 0 down, prePowerAndDust (q tUp up) 0 up, prePowerAndDust tUp rel down,
      prePowerAndDust (dust tUp 1 3) rel down, prePowerAndDust fenced rel down, prePowerAndDust (dust fenced 1 3) 0 down,
      prePowerAndDust (dust (fenced.setDomain 3 2) 1 3) 0 down, prePowerAndDust (dust tUp 7 3) 0 down, prePowerAndDust (dust tUp 9 1) 0 down,
      prePowerAndDust (dust tUp 2 3) 0 down] = true := by
  decide +kernel

/-- Which premises of the clauses of `ReferencesAndPlls` hold. -/
def preReferencesAndPlls (s : State) (b : Bool) (pa pb : BitVec 16) : List Bool :=
  let st (f : Fld) (t : State) : Bool := t.flag CLK_STAT f
  let ok (b : Bool) : Fld := if b then CLK_STAT_REF_B_OK else CLK_STAT_REF_A_OK
  let sel := s.flag CLK_CTL CLK_CTL_REF_SEL
  let pll := s.flag CLK_CTL CLK_CTL_PLL_SEL
  let active : Bool := decide (s.flag CLK_CTL CLK_CTL_AUTO = true ∧ sel = b ∧ st CLK_STAT_HOLDOVER s = false)
  [decide (active),
    decide (¬active),
    decide (st CLK_STAT_HOLDOVER s = true),
    decide (st CLK_STAT_HOLDOVER s = false),
    decide (sel ≠ b),
    decide (sel = b),
    decide (s.clk.switching = true ∧ st (ok sel) s = true),
    decide (s.clk.switching = true ∧ st (ok sel) s = false),
    decide (s.clk.switching = false),
    decide (st CLK_STAT_STBY_OK s = true),
    decide (st CLK_STAT_STBY_OK s = false),
    decide (st CLK_STAT_STBY_OK s = true ∧ pll ≠ b),
    decide ((st CLK_STAT_STBY_OK s = false ∨ pll = b)),
    decide (st CLK_STAT_STBY_OK s = false ∧ (s.clk.pllAt = 0 ∨ s.now + 1 ≤ s.clk.pllAt + 2000000)),
    decide ((st CLK_STAT_STBY_OK s = true ∨ (s.clk.pllAt ≠ 0 ∧ s.clk.pllAt + 2000000 < s.now + 1)))]

theorem witness_ReferencesAndPlls :
    let ck (st ctl : Nat) : State := (tUp.wr CLK_STAT (BitVec.ofNat 32 st)).wr CLK_CTL (BitVec.ofNat 32 ctl)
    let sw (s : State) : State := { s with clk := { s.clk with switching := true } }
    let old : State := { ck 0xF0000000 0x80000000 with now := 5000000, clk := { tUp.clk with pllAt := 5 } }
    covered ([ck 0xF8000000 0x80000000, ck 0xF8000000 0, ck 0xBC000000 0x80000000, sw (ck 0xF8000000 0x80000000), sw (ck 0x38000000 0x80000000),
      ck 0xF0000000 0x80000000, old, ck 0xFFFFFFFF 0x80000000].flatMap (fun s => [preReferencesAndPlls s false 2000 0, preReferencesAndPlls s true 2001 0])) = true := by
  decide +kernel

/-- Which premises of the clauses of `ResetsAndMonitors` hold. -/
def preResetsAndMonitors (s : State) (n : BitVec 4) (l : List (BitVec 16)) (v : Word) : List Bool :=
  let zero := s.flag ZEROISE_STAT ZEROISE_STAT_RUNNING
  let deg (k limit : Nat) : Bool := decide ((16 * limit : Int) < (l.getD k 0).toInt)
  let hot (f : Fld) (k : Nat) : Bool := decide (deg k (s.fld THERM_CFG f))
  let a := s.regsWf = true ∧ ∀ c : ClId, (s.clu c).sheet ≠ 2
  [decide (zero = true),
    decide (zero = false ∧ a),
    decide (zero = false),
    decide (n.toNat < 6 ∧ zero = false),
    decide (6 ≤ n.toNat),
    decide (n.toNat < 6),
    decide (n = 6),
    decide (6 < n.toNat),
    decide (l.length = 24 ∧ s.clk.hold = false ∧ ((∀ k : Fin 24, hot THERM_CFG_TRIP k → bitN s.clk.overTemp k = false))),
    decide (l.length = 24 ∧ s.clk.hold = false ∧ zero = false ∧ ((∃ k : Fin 24, hot THERM_CFG_TRIP k ∧ bitN s.clk.overTemp k = true))),
    decide (l.length = 24 ∧ s.clk.hold = true)]

theorem witness_ResetsAndMonitors :
    let z : State := tUp.wr ZEROISE_STAT (BitVec.ofNat 32 (2 ^ ZEROISE_STAT_RUNNING.lo))
    let t (k : Nat) : List (BitVec 16) := (List.range 24).map (fun i => if i = 5 then BitVec.ofNat 16 (16 * k) else 100)
    let hot : State := { tUp with clk := { tUp.clk with overTemp := 32 } }
    let held : State := { tUp with clk := { tUp.clk with hold := true } }
    covered [preResetsAndMonitors z 0 (t 20) 0, preResetsAndMonitors tUp 5 (t 20) 0, preResetsAndMonitors tUp 6 (t 20) 0, preResetsAndMonitors tUp 7 (t 20) 0,
      preResetsAndMonitors hot 6 (t 200) 0, preResetsAndMonitors held 0 (t 20) 0] = true := by decide +kernel

/-! Witnesses: the frame path. -/

/-- Red port 0 and black port 1 up at 10G; SA 5 takes frames of VLAN 0x123 from red 0 to black 1, on cluster 1 (R40, R66, R84, R87). -/
def tCfg : State := tSeg [
  (fun s => s.wr (PORT_CFG 0 0) (BitVec.ofNat 32 (2 ^ 31 + 1518 * 2 ^ 14 + 2 ^ 8))),
  (fun s => s.wr (PORT_CFG 1 1) (BitVec.ofNat 32 (2 ^ 31 + 1600 * 2 ^ 14 + 2 ^ 8))),
  (fun s => (s.wr (PORT_STAT 0 0) 0xC0000000).wr (PORT_STAT 1 1) 0xC0000000),
  (fun s => (s.setFld (PRM_BUF 0 0) PRM_BUF_BUF_CELLS 60).setFld (PRM_BUF 1 1) PRM_BUF_BUF_CELLS 60),
  (fun s => s.setFld (RSQ_PORT_CFG 0 0) RSQ_PORT_CFG_DESC_SLOTS 40),
  (fun s => (s.setFld (RSQ_PORT_CFG 1 1) RSQ_PORT_CFG_DESC_SLOTS 40).setFld (RSQ_PORT_CFG 1 1) RSQ_PORT_CFG_CT_THRESH 2),
  (fun s => (s.setFld (PRM_CFG 0 0) PRM_CFG_BUDGET 1000).setFld (PRM_CFG 0 0) PRM_CFG_DEF_CLASS 3),
  (fun s => (s.setFld (PRM_CFG 0 0) PRM_CFG_HXT_START 2).wr (HXT_MATCH 0 2) 0xC0000000),
  (fun s => s.wr (HXT_XA 0 2) (BitVec.ofNat 32 (2 ^ 28 + 2 ^ 25))),
  (fun s => s.wr (LKUP_CTL ((lookupPos 0 0 0 0x123).headD 0)) 0x80000000),
  (fun s => (s.setFld (LKUP_CTL ((lookupPos 0 0 0 0x123).headD 0)) LKUP_CTL_SA_INDEX 5).wr (LKUP_KEY ((lookupPos 0 0 0 0x123).headD 0)) 0x123),
  (fun s => (s.wr (SA_CFG 5) (BitVec.ofNat 32 (2 ^ 31 + 2 ^ 20))).wr (SA_HOME 5) 1),
  (fun s => ((s.wr (SA_KEY 5) 0x20000000).wr64 (SA_PN_LIMIT 5 0) 1000).wr64 (SA_NEXT_PN 5 0) 7),
  (fun s => (s.wr (COST_STAT 0) 0x80000005).wr (COST 0 20) (BitVec.ofNat 32 (2 ^ 24 + 3 * 2 ^ 16 + 100))),
  (fun s => (s.wr (CLINK_POOL 1) (BitVec.ofNat 32 (64 * 2 ^ 16 + 1000))).wr (CLINK_STAT 1) 0x80404000),
  (fun s => { (s.toRot 9 0).toRot 12 0 with now := 10000 })] tUp

/-- `n` bytes with the two addresses, then EtherType or VLAN 0x123. -/
def tPay (n : Nat) : List Byte := (List.range n).map (fun i => BitVec.ofNat 8 ([1, 2, 3, 4, 5, 6, 7, 8, 9, 10, 11, 12, 0x01, 0x23].getD i (i * 7)))

/-- A frame of 64 bytes with its FCS (R47). -/
def tFrame : List Byte := tPay 60 ++ toLE 4 (crc32 (tPay 60))

/-- The block that has received it on red port 0. -/
def tRx : State := tAfter (.rxFrameEnd .red 0 tFrame false) tCfg

/-- Which premises of the clauses of `LinePorts` hold. -/
def preLinePorts (s : State) (sd : Side) (p : PortId) (v : Word) (l : PortId) (sig cdr cal blk : Bool) (n : BitVec 8) (inFrame : Bool) : List Bool :=
  let d := sideN sd
  let k := pkey d p
  let cfg := PORT_CFG d p
  let ps := PORT_STAT d p
  let on := s.portOn d p
  let s1 := if s.flag (LINE_LOCKR d) LINE_LOCKR_LOCK then s else s.wr cfg ((s.rd cfg &&& ~~~0x0FFFCF33) ||| (v &&& 0x0FFFCF33))
  let err := s1.cfgErr d p
  let owner (q : PortId) (b : Bool) : Bool := decide (s.portOn d q = b ∧ s.owns d q l = true)
  [decide ((on = true ∨ v.getLsbD 31 = false)),
    decide (on = false ∧ v.getLsbD 31 = true ∧ err ≠ 0),
    decide (on = false ∧ v.getLsbD 31 = true ∧ err = 0),
    decide (err = 0),
    decide (on = false),
    decide (on = true),
    decide ((on = true ∨ s.flag ps PORT_STAT_DRAINED = true ∨ s.portFrames d p ≠ [])),
    decide (on = false ∧ s.flag ps PORT_STAT_DRAINED = false ∧ s.portFrames d p = []),
    decide ((on = false ∨ s.flag ps PORT_STAT_FENCED = true ∨ s.cut.get 0 k = 1 ∨ s.linkUp d p = true)),
    decide (on = true ∧ s.flag ps PORT_STAT_FENCED = false ∧ s.cut.get 0 k ≠ 1 ∧ s.linkUp d p = false),
    decide (s.linkUp d p = false),
    decide (s.linkUp d p = true),
    decide (((∀ q : PortId, owner q false ∨ s.owns d q l = false))),
    decide (owner p true ∧ ((∀ q : PortId, q < p → owner q false ∨ s.owns d q l = false))),
    decide ((on = false ∨ s.portFec d p = 0)),
    decide (on = true ∧ s.portFec d p ≠ 0)]

theorem witness_LinePorts :
    let at_ (s : State) (v : Word) : List Bool := preLinePorts s .red 0 v 0 true true false false 5 true
    let cfg (type fec max : Nat) : Word := BitVec.ofNat 32 (2 ^ 31 + max * 2 ^ 14 + type * 256 + fec)
    let off : State := (tCfg.wr (PORT_CFG 0 0) 0).wr (PORT_STAT 0 0) 0
    let busy : State := { off with frames := [(1, { Frame.none with side := 0, port := 0, stage := .wait })] }
    let dark : State := tCfg.wr (PORT_STAT 0 0) 0
    covered [at_ tCfg 0, at_ off (cfg 1 0 1518), at_ off (cfg 9 0 20), at_ busy 0, at_ dark 0, at_ (tCfg.wr (PORT_CFG 0 0) (cfg 4 1 1518)) 0] = true := by
  decide +kernel

/-- Which premises of the clauses of `LaneAndQuadFences` hold. -/
def preLaneAndQuadFences (s : State) (sd : Side) (l : PortId) (q : QuadId) : List Bool :=
  let d := sideN sd
  let isF := s.flag (LANE_CFG d l) LANE_CFG_FENCE
  let k := 16 * d + l.val
  let fails := s.calFails.get 0 k
  let owned := ∃ p : PortId, s.portOn d p = true ∧ s.owns d p l = true
  let a := QUAD_CTL d q
  let qf := s.flag a QUAD_CTL_FENCE
  [decide (isF = true),
    decide (isF = false),
    decide (fails < 2),
    decide (2 ≤ fails ∧ isF = false),
    decide (2 ≤ fails ∧ isF = true),
    decide (owned),
    decide (¬owned),
    decide (qf = true),
    decide (qf = false)]

theorem witness_LaneAndQuadFences :
    let fenced : State := tCfg.setFlag (LANE_CFG 0 5) LANE_CFG_FENCE true
    let two (s : State) : State := { s with calFails := [(5, 2)] }
    covered [preLaneAndQuadFences tCfg .red 5 1, preLaneAndQuadFences fenced .red 5 3, preLaneAndQuadFences (two tCfg) .red 5 1,
      preLaneAndQuadFences (two fenced) .red 5 1, preLaneAndQuadFences tCfg .red 0 0,
      preLaneAndQuadFences (tCfg.setFlag (QUAD_CTL 0 3) QUAD_CTL_FENCE true) .red 5 3] = true := by decide +kernel

/-- Which premises of the clauses of `FramesInAndOut` hold. -/
def preFramesInAndOut (s : State) (sd : Side) (p : PortId) (b : List Byte) (bad : Bool) (f : Nat) : List Bool :=
  let d := sideN sd
  let k := pkey d p
  let x := s.rxOf k
  let y := s.frame f
  let all := x.bytes ++ b
  let m := s.portMax d p
  let ctrl := nth 0 all 12 = 0x88 ∧ nth 0 all 13 = 0x08
  let hears := s.receives d p = true
  let toCore := (y.stage = .admitted ∨ y.stage = .released) ∧ y.spill = none ∧ y.atCore = true
  let check : Nat := if bad || x.bad then 2 else if all.length < 64 then 3 else if m < all.length then 4 else if all.drop (all.length - 4) ≠ toLE 4 (crc32 (all.take (all.length - 4))) then 5 else if ctrl then 6 else 0
  [decide ((¬hears ∨ b.length ≠ 256 ∨ x.oversize = true)),
    decide (hears ∧ b.length = 256 ∧ x.oversize = false ∧ all.length ≤ m ∧ x.fid = none ∧ all.length = 256 ∧ x.bad = false ∧ ¬ctrl),
    decide (hears ∧ b.length = 256 ∧ x.oversize = false ∧ all.length ≤ m ∧ x.fid = none ∧ (all.length ≠ 256 ∨ x.bad = true ∨ ctrl)),
    decide (hears ∧ b.length = 256 ∧ x.oversize = false ∧ all.length ≤ m ∧ x.fid = some f ∧ ¬toCore),
    decide (hears ∧ b.length = 256 ∧ x.oversize = false ∧ all.length ≤ m ∧ x.fid = some f ∧ toCore),
    decide (hears ∧ b.length = 256 ∧ x.oversize = false ∧ m < all.length ∧ x.fid = none),
    decide (hears ∧ b.length = 256 ∧ x.oversize = false ∧ m < all.length ∧ x.fid = some f),
    decide ((¬hears ∨ 256 < b.length)),
    decide (hears ∧ b.length ≤ 256 ∧ x.oversize = true ∧ x.fid = some f),
    decide (hears ∧ b.length ≤ 256 ∧ x.fid = none ∧ (x.oversize = true ∨ (all = [] ∧ bad = false ∧ x.bad = false))),
    decide (hears ∧ b.length ≤ 256 ∧ x.oversize = false ∧ all ≠ [] ∧ x.fid = none ∧ check = 0),
    decide (hears ∧ b.length ≤ 256 ∧ x.oversize = false ∧ all ≠ [] ∧ x.fid = none ∧ check ≠ 0),
    decide (hears ∧ b.length ≤ 256 ∧ x.oversize = false ∧ all ≠ [] ∧ x.fid = some f ∧ check ≠ 0),
    decide (hears ∧ b.length ≤ 256 ∧ x.oversize = false ∧ all ≠ [] ∧ x.fid = some f ∧ check = 0)]

theorem witness_FramesInAndOut :
    let at_ (s : State) (b : List Byte) (bad : Bool) : List Bool := preFramesInAndOut s .red 0 b bad 0
    let rx (x : Rx) (y : Frame) : State := { tCfg with rx := [(0, x)], frames := [(0, y)] }
    let core : Frame := { Frame.none with stage := .admitted, atCore := true }
    let short (s : State) : State := s.setFld (PORT_CFG 0 0) PORT_CFG_MAX_FRAME 100
    covered [at_ tCfg (tPay 300) false, at_ tCfg (tPay 256) false, at_ (rx ⟨[], none, true, false⟩ core) (tPay 256) false,
      at_ (rx ⟨[], some 0, false, false⟩ Frame.none) (tPay 256) false, at_ (rx ⟨[], some 0, false, false⟩ core) (tPay 256) false,
      at_ (short tCfg) (tPay 256) false, at_ (short (rx ⟨[], some 0, false, false⟩ core)) (tPay 256) false, at_ (rx ⟨[], some 0, false, true⟩ core) [] false,
      at_ tCfg [] false, at_ tCfg tFrame false, at_ tCfg tFrame true, at_ (rx ⟨[], some 0, false, false⟩ core) tFrame false,
      at_ (rx ⟨[], some 0, false, false⟩ core) (tPay 63) false] = true := by decide +kernel

/-- Which premises of the clauses of `EgressMac` hold. -/
def preEgressMac (s : State) (sd : Side) (p : PortId) (f : Nat) (rest : List Nat) (n : Nat) (r : Nat) : List Bool :=
  let d := sideN sd
  let y := s.frame f
  let e := s.eg d p
  let m := s.portMax d p
  let have_ := y.out.flatten
  let mine := y.side = 1 - d ∧ y.eport = p.val ∧ y.port < 16 ∧ y.sa < 4096 ∧ y.stage = .released ∧ y.drop = 0 ∧ y.taken = none ∧ y.putty = none
  let blocked := s.linkUp d p = false ∨ e.tfc = true ∨ y.out = [] ∨ (e.ztf = true ∧ y.handed = false)
  let inTime := wle s.timebase y.latest = true
  [decide (e.released = []),
    decide (e.released = f :: rest ∧ mine ∧ blocked),
    decide (e.released = f :: rest ∧ mine ∧ ¬blocked ∧ ¬inTime),
    decide (e.released = f :: rest ∧ mine ∧ ¬blocked ∧ inTime ∧ y.done = some (r, n) ∧ n ≤ m ∧ n ≤ have_.length),
    decide (e.released = f :: rest ∧ mine ∧ ¬blocked ∧ inTime ∧ y.done = some (r, n) ∧ m < n),
    decide (e.released = f :: rest ∧ mine ∧ ¬blocked ∧ inTime ∧ y.done = some (r, n) ∧ n ≤ m),
    decide (e.released = f :: rest ∧ mine ∧ ¬blocked ∧ inTime ∧ y.done = none),
    decide (e.released = f :: rest ∧ mine ∧ ¬blocked ∧ inTime ∧ y.done = some (r, n) ∧ n ≤ m ∧ have_.length < n),
    decide (e.released = f :: rest ∧ mine ∧ ¬blocked ∧ inTime ∧ y.done = none ∧ have_.length ≤ m),
    decide (e.released = f :: rest ∧ mine ∧ ¬blocked ∧ inTime ∧ y.done = none ∧ m < have_.length)]

theorem witness_EgressMac :
    let st (out : List (List Byte)) (dn : Option (Nat × Nat)) (late : Word) (up : Bool) : State :=
      { (if up then tCfg else tCfg.wr (PORT_STAT 1 1) 0) with
        frames := [(3, { Frame.none with side := 0, port := 0, eport := 1, stage := .released, sa := 5, out := out, done := dn, latest := late })],
        egress := [(17, { Egress.reset with released := [3, 8] })] }
    let at_ (s : State) (n : Nat) : List Bool := preEgressMac s .blk 1 3 [8] n 0
    covered [at_ tCfg 0, at_ (st [tPay 100] (some (0, 100)) 20000 false) 100, at_ (st [tPay 100] (some (0, 100)) 200 true) 100,
      at_ (st [tPay 100] (some (0, 100)) 20000 true) 100, at_ (st [tPay 100] (some (0, 1601)) 20000 true) 1601, at_ (st [tPay 100] none 20000 true) 0,
      at_ (st [tPay 100] (some (0, 101)) 20000 true) 101, at_ (st [List.replicate 1601 0] none 20000 true) 0] = true := by decide +kernel


/-- Which premises of the clauses of `PrismDecides` hold. -/
def prePrismDecides (s : State) (sd : Side) (p : PortId) (h : Hdr) (kk : Found) (pl : Place) (code buf dir : Nat) (sa : Option Nat) (free : Word) : List Bool :=
  let d := sideN sd
  let out := 1 - d
  let fs := s.framesWith fun x => x.stage == .wait && x.side == d && x.port == p.val
  let f := fs.headD 0
  let x := s.frame f
  let at1 := max s.now (2 * (x.at_ / 2 + 24))
  let full := s.decAt.get 0 d = at1 / 2 + 1 ∧ 4 ≤ s.decN.get 0 d
  let now := if full then 2 * (at1 / 2 + 1) else at1
  let u := { s with now := now, decAt := s.decAt.set 0 d (now / 2 + 1), decN := s.decN.set 0 d ((if s.decAt.get 0 d = now / 2 + 1 then s.decN.get 0 d else 0) + 1) }
  let mine := fs ≠ [] ∧ x.side = d ∧ x.port = p.val ∧ x.drop = 0 ∧ x.putty = none ∧ x.taken = none
  let cell := nth [] x.pend 0
  let walk := u.walk d cell 8 ((u.prd (PRM_CFG d p)).fld PRM_CFG_HXT_START) 12 (Hdr.start ((u.prd (PRM_CFG d p)).fld PRM_CFG_DEF_CLASS))
  let scfg := u.prd (SA_CFG kk.sa)
  let q := scfg.fld SA_CFG_EGRESS_PORT
  let whole := x.ended && !x.discard && decide (x.len ≤ 256)
  let l := if whole then x.len else s.portMax d p
  let e := s.eg out q
  let tfc := decide (out = 1) && e.tfc
  let cand := if tfc then e.cand l (!whole) else []
  let down := s.linkUp out q = false ∨ s.portOn out q = false ∨ (tfc = true ∧ s.flag (ZTF_STAT q) ZTF_STAT_RUNNING = false)
  let placed := u.place x kk.sa h.cls (BitVec.ofNat 32 (2 * (now / 2))) l whole q (s.outLen out q (scfg.fld SA_CFG_FORMAT) l) cand
  let slots := s.fld (RSQ_PORT_CFG out q) RSQ_PORT_CFG_DESC_SLOTS
  let cells := (l + 64 + 255) / 256
  let found := mine ∧ walk = some h ∧ u.find x cell h = .inr kk ∧ kk.sa < 4096
  [decide (fs = []),
    decide (mine),
    decide (mine ∧ walk = none),
    decide (mine ∧ walk = some h ∧ u.find x cell h = .inl (code, sa, false) ∧ code < 32),
    decide (mine ∧ walk = some h ∧ u.find x cell h = .inl (5, sa, true)),
    decide (found ∧ down),
    decide (found ∧ ¬down ∧ placed = .inl code ∧ (code = 7 ∨ code = 8)),
    decide (found ∧ ¬down ∧ placed = .inr pl ∧ slots ≤ e.order.length),
    decide (found ∧ ¬down ∧ placed = .inr pl ∧ e.order.length < slots ∧ u.allocCells (pl.core / 8) cells = none),
    decide (found ∧ ¬down ∧ placed = .inr pl ∧ e.order.length < slots ∧ u.allocCells (pl.core / 8) cells = some buf ∧ pl.spill = none),
    decide (found ∧ ¬down ∧ placed = .inr pl ∧ e.order.length < slots ∧ u.allocCells (pl.core / 8) cells = some buf ∧ pl.spill = some (dir, free) ∧ dir < 2)]

theorem witness_PrismDecides :
    let hdr : Hdr := ⟨3, [0x01, 0x23], 0, 0, false, 0, 0, none⟩
    let kk : Found := ⟨5, false, 0, 7⟩
    let pl (u : State) (g : Nat) : Place :=
      match u.place (u.frame 0) 5 3 10048 64 true 1 96 [] with
      | .inr q => q
      | .inl _ => ⟨g, none, 0, 0, 0, 0⟩
    let u (s : State) : State := { s with now := 10048, decAt := s.decAt.set 0 0 5025, decN := s.decN.set 0 0 1 }
    let at_ (s : State) (code buf dir : Nat) (sa : Option Nat) (free : Word) : List Bool :=
      prePrismDecides s .red 0 hdr kk (pl (u s) 9) code buf dir sa free
    let spill : State := tSeg [(fun s => s.setFlag (DLV_PORT_CFG 0 0) DLV_PORT_CFG_SPILL_EN true),
      (fun s => (s.setFlag (RING_SPILL_DIR 0) RING_SPILL_DIR_VALID true).wr (SA_HOME 5) 2),
      (fun s => (s.setFld (REPL_STAT 5) REPL_STAT_MODE 1).setFlag (REPL_STAT 5) REPL_STAT_FRESH true),
      (fun s => (s.setFld (RPORT_STAT 0) RPORT_STAT_STATE 3).wr (CLINK_POOL 0) 1000),
      (fun s => { s with ring := { s.ring with lack := [(10, 100)] } })] tRx
    covered [at_ tCfg 0 0 0 none 0, at_ tRx 0 64 0 none 0, at_ (tRx.setFld (PRM_CFG 0 0) PRM_CFG_HXT_START 9) 0 0 0 none 0,
      at_ (tRx.wr (LKUP_CTL ((lookupPos 0 0 0 0x123).headD 0)) 0) 3 0 0 none 0, at_ (tRx.wr64 (SA_PN_LIMIT 5 0) 6) 5 0 0 (some 5) 0,
      at_ (tRx.wr (PORT_STAT 1 1) 0) 0 0 0 none 0, at_ (tRx.setFld (PRM_CFG 0 0) PRM_CFG_BUDGET 1) 8 0 0 none 0,
      at_ (tRx.setFld (RSQ_PORT_CFG 1 1) RSQ_PORT_CFG_DESC_SLOTS 0) 0 0 0 none 0, at_ (tRx.wr (CLINK_POOL 1) 0) 0 0 0 none 0,
      at_ spill 0 0 0 none (((pl (u spill) 0).spill.map (·.2)).getD 0)] = true := by decide +kernel

/-- Which premises of the clauses of `ResequencerAndLedger` hold. -/
def preResequencerAndLedger (s : State) (sd : Side) (p : PortId) (f : Nat) (rest : List Nat) : List Bool :=
  let d := sideN sd
  let x := s.frame f
  let e := s.eg d p
  let mine := x.side = 1 - d ∧ x.eport = p.val ∧ x.port < 16 ∧ x.sa < 4096 ∧ (x.stage = .admitted ∨ x.stage = .released) ∧ x.taken = none ∧ x.putty = none
  let inTime := wle s.timebase x.latest = true
  let ready := x.done ≠ none ∨ (d = 1 ∧ e.ztf = false ∧ x.spill = none ∧ max 1 (s.fld (RSQ_PORT_CFG 1 p) RSQ_PORT_CFG_CT_THRESH) ≤ x.prog)
  let mode := s.fld (SA_CFG x.sa) SA_CFG_REPLAY_MODE
  let npa := SA_NEXT_PN x.sa (b2n x.key)
  let np := s.rd64 npa
  let bm := s.bitmapOf x.sa x.key
  let win := (s.rd (SA_REPLAY_WIN x.sa)).toNat
  let fresh := mode = 0 ∨ (mode = 2 ∧ np ≤ x.pn + 256 ∧ (np ≤ x.pn ∨ bm.getLsbD (np - 1 - x.pn) = false)) ∨ (mode ≠ 0 ∧ mode ≠ 2 ∧ (np ≤ win ∨ np - win ≤ x.pn))
  let np' := max np (x.pn + 1)
  [decide (e.order = []),
    decide (e.order = f :: rest ∧ x.drop ≠ 0),
    decide (e.order = f :: rest ∧ mine ∧ x.drop = 0 ∧ ¬inTime),
    decide (e.order = f :: rest ∧ mine ∧ x.drop = 0 ∧ inTime ∧ ¬ready),
    decide (e.order = f :: rest ∧ mine ∧ x.drop = 0 ∧ inTime ∧ ready ∧ d = 1),
    decide (e.order = f :: rest ∧ mine ∧ x.drop = 0 ∧ inTime ∧ ready ∧ d = 0 ∧ fresh ∧ np' < 2 ^ 64),
    decide (e.order = f :: rest ∧ mine ∧ x.drop = 0 ∧ inTime ∧ ready ∧ d = 0 ∧ ¬fresh),
    decide (s.firstDue d p = none),
    decide (s.firstDue d p = some f),
    decide (s.firstDue d p = some f ∧ mine),
    decide (s.flag LEDGER_CTL LEDGER_CTL_ENABLE = false),
    decide (s.flag LEDGER_CTL LEDGER_CTL_ENABLE = true),
    decide (s.blockOn (PRISM_LOCKR d) = true),
    decide (s.blockOn (RSQ_LOCKR d) = true),
    decide (s.blockOn LEDGER_CTL = true)]

theorem witness_ResequencerAndLedger :
    let fr (sd : Nat) (dn : Option (Nat × Nat)) (late pn dr : Nat) : State :=
      { tCfg.wr64 (SA_NEXT_PN 5 0) 400 with
        frames := [(3, { Frame.none with side := sd, port := 0, eport := 1, stage := .admitted, sa := 5, done := dn, latest := BitVec.ofNat 32 late, pn := pn, drop := dr })],
        egress := [(1, { Egress.reset with order := [3, 8] }), (17, { Egress.reset with order := [3, 8] })] }
    let at_ (s : State) (sd : Side) : List Bool := preResequencerAndLedger s sd 1 3 [8]
    covered [at_ tCfg .red, at_ (fr 0 none 20000 1 4) .blk, at_ (fr 0 none 200 1 0) .blk, at_ (fr 0 none 20000 1 0) .blk, at_ (fr 0 (some (0, 64)) 20000 1 0) .blk,
      at_ (fr 1 (some (0, 64)) 20000 (2 ^ 64 - 2) 0) .red, at_ ((fr 1 (some (0, 64)) 20000 2 0).setFld (SA_CFG 5) SA_CFG_REPLAY_MODE 1) .red,
      at_ (tCfg.setFlag LEDGER_CTL LEDGER_CTL_ENABLE true) .red, at_ (tCfg.setFlag LEDGER_CTL LEDGER_CTL_ENABLE false) .red] = true := by decide +kernel

/-- Which premises of the clauses of `DeliveryStreams` hold. -/
def preDeliveryStreams (s : State) (p : PortId) (b : R3) (f h : Nat) (fs hs : List Nat) (k : Bool) (np g base block buf : Nat) : List Bool :=
  let e := s.eg 1 p
  let key := pkey 1 p
  let st := ZTF_STAT p
  let err := s.ztfErr p
  let staged := { e with cfg := s.rd (ZTF_CFG p), etype := s.rd (ZTF_ETYPE p), b01 := s.rd (ZTF_BUCKET p 0), b23 := s.rd (ZTF_BUCKET p 1), sched := s.stagedSched p, schedLen := s.fld (ZTF_SCHED_LEN p) ⟨6, 0⟩ }
  let depth := e.cfg.fld ZTF_CFG_RESERVE_DEPTH
  let n := b.toNat
  let wanted := s.portOn 1 p = true ∧ e.tfc = true ∧ n ∈ e.used ∧ s.puttyCount p n < depth
  let full := s.decAt.get 0 2 = s.fclk + 1 ∧ 2 ≤ s.decN.get 0 2
  let now := if full then max s.now (2 * (s.now / 2 + 1)) else s.now
  let fc := now / 2
  let one (key : Nat) (q : State) : State := { q with decAt := q.decAt.set 0 key (fc + 1), decN := q.decN.set 0 key ((if q.decAt.get 0 key = fc + 1 then q.decN.get 0 key else 0) + 1) }
  let u := one 0 (one 2 { s with now := now })
  let sa := e.cfg.fld ZTF_CFG_COVER_SA
  let cls := e.cfg.fld ZTF_CFG_PUTTY_CLASS
  let size := e.bucket n
  let t0 : Word := BitVec.ofNat 32 (2 * fc)
  let filled := ∀ i ∈ e.used, depth ≤ (e.reserve.get [] i).length
  let due := e.streamAt ≠ 0 ∧ e.schedLen ≠ 0
  let at_ := max s.now e.slotAt
  let sb := e.slotBucket e.slot
  let y := s.frame f
  let z := s.frame h
  let late (x : Nat) : Bool := !wle (BitVec.ofNat 32 at_) (s.frame x).latest
  let taken := e.released = f :: fs ∧ y.handed = true ∧ y.outL = e.bucket sb
  [decide (s.portOn 1 p = true),
    decide (s.portOn 1 p = false ∧ err ≠ 0),
    decide (s.portOn 1 p = false ∧ err = 0),
    decide (staged.tfc = false),
    decide (staged.tfc = true ∧ staged.ztf = false),
    decide (staged.tfc = true ∧ err = 0),
    decide (¬wanted),
    decide (wanted ∧ (u.pnCheck sa = .inl (4, false) ∨ u.pnCheck sa = .inl (5, false) ∨ u.pnCheck sa = .inl (5, true))),
    decide (wanted ∧ u.pnCheck sa = .inl (5, true)),
    decide (wanted ∧ u.pnCheck sa = .inr (k, np) ∧ u.chooseCore 0 sa cls t0 = none),
    decide (wanted ∧ u.pnCheck sa = .inr (k, np) ∧ u.chooseCore 0 sa cls t0 = some g ∧ u.costEntry (s.coreEpoch g) cls = some (base, block) ∧ s.allocCells (g / 8) ((size + 64 + 255) / 256) = none),
    decide (wanted ∧ u.pnCheck sa = .inr (k, np) ∧ u.chooseCore 0 sa cls t0 = some g ∧ u.costEntry (s.coreEpoch g) cls = some (base, block) ∧ s.allocCells (g / 8) ((size + 64 + 255) / 256) = some buf),
    decide (s.portOn 1 p = true ∧ e.tfc = true ∧ filled ∧ s.flag st ZTF_STAT_RUNNING = false),
    decide ((s.portOn 1 p = false ∨ e.tfc = false ∨ ¬filled ∨ s.flag st ZTF_STAT_RUNNING = true)),
    decide (¬due),
    decide (due ∧ ((∀ x ∈ e.released, late x = false)) ∧ s.linkUp 1 p = false),
    decide (due ∧ ((∀ x ∈ e.released, late x = false)) ∧ s.linkUp 1 p = true ∧ taken ∧ y.side = 0 ∧ y.eport = p.val),
    decide (due ∧ ((∀ x ∈ e.released, late x = false)) ∧ s.linkUp 1 p = true ∧ ((e.released = [] ∨ (e.released = f :: fs ∧ ¬taken))) ∧ e.reserve.get [] sb = h :: hs ∧ z.whole = true),
    decide (due ∧ ((∀ x ∈ e.released, late x = false)) ∧ s.linkUp 1 p = true ∧ ((e.released = [] ∨ (e.released = f :: fs ∧ ¬taken))) ∧ (e.reserve.get [] sb = [] ∨ (e.reserve.get [] sb = h :: hs ∧ z.whole = false))),
    decide (due ∧ late f = true ∧ e.released = [f] ∧ s.linkUp 1 p = false ∧ y.side = 0 ∧ y.eport = p.val ∧ y.port < 16 ∧ y.sa < 4096 ∧ y.stage = .released ∧ y.drop = 0 ∧ y.putty = none ∧ y.taken = none)]

/-- Black port 1 as a ZTF stream: buckets of 128 and 512 bytes, a reserve of 1 each, SA 5 and class 3 for its own frames (R130, R134, R140). -/
def tZtf : State := tSeg [(fun s => s.wr (PORT_CFG 1 1) (s.rd (PORT_CFG 1 1) &&& 0x7FFFFFFF)),
  (fun s => (s.wr (ZTF_CFG 1) (BitVec.ofNat 32 (2 ^ 31 + 2 ^ 30 + 2 ^ 12 + 5 + 3 * 2 ^ 22))).wr (ZTF_BUCKET 1 0) (BitVec.ofNat 32 (128 + 512 * 65536))),
  (fun s => ((s.wr (ZTF_SCHED 1 0) 4).wr (ZTF_SCHED_LEN 1) 2).setFld (SA_CFG 5) SA_CFG_FORMAT 2)] tCfg

/-- The same once committed and enabled. -/
def tTfc : State := (tAfter (.ztfCommit .warden 1) tZtf).setFlag (PORT_CFG 1 1) PORT_CFG_ENABLE true

theorem witness_DeliveryStreams :
    let at_ (s : State) (fs hs : List Nat) : List Bool :=
      let u : State := { s with decAt := (s.decAt.set 0 2 (s.fclk + 1)).set 0 0 (s.fclk + 1) }
      preDeliveryStreams s 1 0 3 4 fs hs false 7 ((u.chooseCore 0 5 3 10000).getD 9) 100 3 64
    let out : Frame := { Frame.none with side := 0, eport := 1, port := 0, stage := .released, sa := 5, out := [tPay 128], done := some (0, 128),
                                         handed := true, latest := 30000, outL := 128 }
    let putty : Frame := { out with putty := some 0, stage := .admitted }
    let runs (rel res : List Nat) (fr : List (Nat × Frame)) : State :=
      { tTfc with frames := fr, egress := [(17, { tTfc.eg 1 1 with released := rel, reserve := SMap.set [] [] 0 res, streamAt := 5, slotAt := 12000, slot := 0 })] }
    let full : State := { tTfc with egress := [(17, { tTfc.eg 1 1 with reserve := [(0, [4]), (1, [5])] })] }
    covered [at_ tZtf [] [], at_ tTfc [] [], at_ (tZtf.wr (ZTF_SCHED_LEN 1) 0) [] [], at_ (tZtf.wr (ZTF_CFG 1) 0) [] [],
      at_ (tZtf.wr (ZTF_CFG 1) 0x80000000) [] [], at_ (tZtf.wr (ZTF_CFG 1) 0x40000000) [] [], at_ (tTfc.wr64 (SA_PN_LIMIT 5 0) 6) [] [], at_ (tTfc.wr (SA_HOME 5) 2) [] [],
      at_ (tTfc.wr (CLINK_POOL 1) 0) [] [], at_ full [] [], at_ (runs [3] [] [(3, out)]) [] [], at_ (runs [] [4] [(4, putty)]) [] [],
      at_ (runs [] [] []) [] [], at_ ((runs [] [] []).wr (PORT_STAT 1 1) 0) [] [],
      at_ ((runs [3] [] [(3, { out with latest := 500 })]).wr (PORT_STAT 1 1) 0) [] []] = true := by decide +kernel

/-- Which premises of the clauses of `CostTablesAndSas` hold. -/
def preCostTablesAndSas (s : State) (b : Bool) (sa : BitVec 12) (v : Word) (w : DWord) : List Bool :=
  let i := b2n b
  let a := COST_STAT i
  let bs := s.costBytes i 2048
  let at_ (o n : Nat) : Nat := leNat ((bs.drop o).take n)
  let epoch := at_ 8 4
  let o := COST_STAT (1 - i)
  let dup := s.flag o COST_STAT_VALID = true ∧ s.fld o COST_STAT_EPOCH = epoch
  let e := if costErr bs = 0 ∧ dup then 7 else costErr bs
  let runs := ∃ g : CoreId, s.rotState g = 0 ∧ s.coreEpoch g = s.fld a COST_STAT_EPOCH
  [decide (costErr bs = 0),
    decide (s.flag a COST_STAT_VALID = true),
    decide (s.flag a COST_STAT_VALID = false ∧ e ≠ 0),
    decide (s.flag a COST_STAT_VALID = false ∧ e = 0),
    decide (s.flag a COST_STAT_VALID = true ∧ runs),
    decide ((s.flag a COST_STAT_VALID = false ∨ ¬runs)),
    decide (s.replMode sa.toNat ≠ 1),
    decide (s.replMode sa.toNat = 1)]

theorem witness_CostTablesAndSas :
    let put (s : State) (i : Nat) : State := (List.range 12).foldl (fun s j => s.wr (COST i j) (BitVec.ofNat 32 (leNat ((tTable.drop (4 * j)).take 4)))) s
    let run : State := (tUp.wr (COST_STAT 1) 0x80000300).setFld (CORE_Q 0 5) CORE_Q_EPOCH 0
    covered [preCostTablesAndSas (put tUp 1) true 9 0 0, preCostTablesAndSas (put tUp 0) true 9 0 0,
      preCostTablesAndSas (tUp.wr (COST_STAT 1) 0x80000003) true 4095 0 0, preCostTablesAndSas ((tUp.wr (COST_STAT 0) 0x80000000).toRot 5 0) false 9 0 0,
      preCostTablesAndSas (run.setFld (REPL_STAT 9) REPL_STAT_MODE 1) true 9 0 0] = true := by decide +kernel

/-! Witnesses: the cluster links and memories, the event sources, DMA. -/

/-- The block once its red Prism has sent that frame to core 9. -/
def tDec : State := tAfter (.prismDecision .red 0 .ok) tRx

/-- A frame's descriptor of five cells, tag 0. -/
def tDesc (f : Nat) : Desc := ⟨BitVec.ofNat 32 (64 * 2 ^ 18), 1, 2, 3, 0, false, 1, f⟩

/-- Which premises of the clauses of `ClusterLinks` hold. -/
def preClusterLinks (s : State) (g : CoreId) (c : ClId) (dir : LinkDir) (v lo hi err : Word) (m : LMsg) (ms : List LMsg) (ecc : Ecc) (d : Desc) (ds : List Desc) (i n : Nat) (bs : List Byte) (b : Bool) : List Bool :=
  let y := s.core g
  let tagOf (w : Word) : Nat := w.toNat % 2 ^ 18
  let x := s.frame d.fid
  let s' := s.setFrame d.fid { x with atCore := false, cells := if x.drop ≠ 0 then 0 else x.cells }
  let k := linkKey c dir
  let l := s.link k
  let st := CLINK_STAT c
  let live := s.linkLive c = true
  let ok := s.framesInRange = true
  let run := s.fld st (runFld k)
  let rxAt := max s.now l.replayAt
  let whole := s.fld st (creditFld k) + l.sent.length = 64
  let arrives := l.sent = m :: ms ∧ live
  let f := d.fid
  let on := s.domain (96 + c) = 2 ∧ s.domain 120 = 2 ∧ s.domain 121 = 2
  [decide (y.fnext = []),
    decide (y.fnext = d :: ds),
    decide ((y.popped = [] ∨ (y.popped = d :: ds ∧ tagOf d.w0 ≠ tagOf v))),
    decide (y.popped = d :: ds ∧ tagOf d.w0 = tagOf v ∧ v.toNat / 2 ^ 26 < d.cells),
    decide (y.popped = d :: ds ∧ tagOf d.w0 = tagOf v ∧ d.cells ≤ v.toNat / 2 ^ 26),
    decide ((y.popped = [] ∨ (y.popped = d :: ds ∧ tagOf d.w0 ≠ tagOf lo))),
    decide (y.popped = d :: ds ∧ tagOf d.w0 = tagOf lo),
    decide ((l.sent = [] ∨ ¬live)),
    decide (arrives ∧ err ≠ 0 ∧ run < 7),
    decide (arrives ∧ err ≠ 0 ∧ 7 ≤ run ∧ ok ∧ s.flag st CLINK_STAT_FENCED = false),
    decide (arrives ∧ run < 7),
    decide (arrives ∧ 7 ≤ run ∧ ok),
    decide (arrives ∧ m = .desc f ∧ (s.frame f).core < 128),
    decide (arrives ∧ m = .desc f ∧ (s.frame f).core < 128 ∧ (s.frame f).atCore = false),
    decide (arrives ∧ m = .desc f ∧ (s.frame f).core < 128 ∧ (s.frame f).atCore = true),
    decide (arrives ∧ m = .cell f i bs b ∧ (s.frame f).atCore = true ∧ (s.frame f).drop = 0),
    decide (arrives ∧ m = .cell f i bs b ∧ (s.frame f).atCore = true ∧ (s.frame f).drop = 0 ∧ ecc ≠ .ue),
    decide (arrives ∧ m = .arrival f b ∧ (s.frame f).atCore = true),
    decide (arrives ∧ m = .progress f n ∧ (s.frame f).drop = 0 ∧ (s.frame f).stage = .admitted),
    decide (arrives ∧ (s.frame f).drop = 0 ∧ (s.frame f).stage = .admitted ∧ (s.frame f).taken = none ∧ (s.frame f).putty = none ∧ m = .done f 0 n ∧ (((s.frame f).side = 1 ∨ (s.eg 1 (s.frame f).eport).tfc = false))),
    decide (arrives ∧ (s.frame f).drop = 0 ∧ (s.frame f).stage = .admitted ∧ (s.frame f).taken = none ∧ (s.frame f).putty = none ∧ m = .done f 1 n ∧ ok),
    decide (arrives ∧ (s.frame f).drop = 0 ∧ (s.frame f).stage = .admitted ∧ (s.frame f).taken = none ∧ (s.frame f).putty = none ∧ m = .done f 2 n ∧ ok),
    decide (arrives ∧ m = .pull f i b ∧ ecc = .ok ∧ (s.frame f).drop = 0 ∧ (s.frame f).stage = .released),
    decide (¬live),
    decide (live ∧ whole),
    decide (live ∧ ¬whole ∧ ok),
    decide (s.flag st CLINK_STAT_FENCED = false ∧ ok),
    decide (s.flag st CLINK_STAT_FENCED = true),
    decide ((¬on ∨ live)),
    decide (on ∧ ¬live)]

theorem witness_ClusterLinks :
    let lk (l : List LMsg) (s : State) : State := { s with links := [(2, { Link.reset with sent := l })] }
    let at_ (s : State) (m : LMsg) (err : Word) : List Bool :=
      preClusterLinks s 9 1 .inb 0 0 0 err m [] .ok (tDesc 0) [] 0 3 [] false
    let big (s : State) (v : Word) : List Bool := preClusterLinks s 9 1 .inb v 0 0 0 (.desc 0) [] .ok (tDesc 0) [] 0 0 [] false
    let core (fn po : List Desc) : State := tDec.setCore 9 { tDec.core 9 with run := true, fnext := fn, popped := po }
    let run7 : State := tDec.setFld (CLINK_STAT 1) (runFld 2) 7
    let away : State := tDec.setFrame 0 { tDec.frame 0 with atCore := false }
    let here : State := tDec.setFrame 0 { tDec.frame 0 with atCore := true }
    let rel : State := tDec.setFrame 0 { tDec.frame 0 with stage := .released }
    let d5 : Desc := { tDesc 0 with cells := 5 }
    covered [at_ tDec (.desc 0) 0, at_ (core [tDesc 0] [tDesc 0]) (.desc 0) 0, big (core [] [d5]) 0, big (core [] [d5]) (BitVec.ofNat 32 (7 * 2 ^ 26)),
      big (core [] [tDesc 0]) (BitVec.ofNat 32 (7 * 2 ^ 26)), at_ (lk [.desc 0] tDec) (.desc 0) 1, at_ (lk [.desc 0] run7) (.desc 0) 1, at_ (lk [.desc 0] away) (.desc 0) 0, at_ (lk [.desc 0] here) (.desc 0) 0,
      at_ (lk [.cell 0 0 [] false] here) (.cell 0 0 [] false) 0, at_ (lk [.arrival 0 false] here) (.arrival 0 false) 0,
      at_ (lk [.progress 0 3] tDec) (.progress 0 3) 0, at_ (lk [.done 0 0 3] tDec) (.done 0 0 3) 0, at_ (lk [.done 0 1 3] tDec) (.done 0 1 3) 0,
      at_ (lk [.done 0 2 3] tDec) (.done 0 2 3) 0, at_ (lk [.pull 0 0 false] rel) (.pull 0 0 false) 0,
      at_ (tDec.wr (CLINK_STAT 1) 0) (.desc 0) 0, at_ ((lk [] tDec).setFld (CLINK_STAT 1) (creditFld 2) 64) (.desc 0) 0,
      at_ (tDec.setFld (CLINK_STAT 1) (creditFld 2) 3) (.desc 0) 0, at_ (tDec.setFlag (CLINK_STAT 1) CLINK_STAT_FENCED true) (.desc 0) 0] = true := by
  decide +kernel

/-- Which premises of the clauses of `ClusterMemories` hold. -/
def preClusterMemories (s : State) (c : ClId) (beats : List Beat) (i j : Fin 4) (b : R5) (p p2 : Bool) (v : Word) (r : Fin 12) (n : R3) (g : CoreId) (ix : BitVec 10) (f : Far) : List Bool :=
  let x := s.clu c
  let on (a : Nat) : Bool := decide (s.blockOn a = true)
  let now := max s.now (2 * x.phase)
  let k := now / 2
  let idle := ∀ m : Fin 8, (s.core (8 * c.val + m.val)).far = []
  let free (q : Nat) : Bool := decide (s.vault.zeroAt = 0 ∧ x.dead.get 0 b.toNat ≠ k + 1 ∧ x.rmw.get 0 b.toNat ≠ k + 1 ∧ x.holder.get 0 b.toNat = 0 ∧ x.masked.contains q = false)
  let eff (q : Nat) : Nat := min (({ s with now := now } : State).pfld (ARB_PRI c q) ARB_PRI_BASE + x.steps.get 0 q) 15
  let near (q : Nat) : Nat := (q + 12 - x.ptr.get 0 b.toNat % 12) % 12
  let rs := REMAP_STAT c
  let used := s.flag rs REMAP_STAT_SPARE_USED
  let reg := x.region
  let banks := (List.range 8).map fun m => 8 * (reg % 4) + m
  let skims := on (SKIM_CTL c) ∧ s.flag (SKIM_CTL c) SKIM_CTL_EN = true ∧ (∀ m ∈ banks, x.holder.get 0 m = 0 ∧ x.remap ≠ m + 1) ∧ s.vault.zeroAt = 0
  let m := MREP c n.toNat
  let arr := v.fld MREP_ARRAY
  let e := 256 * arr + v.fld MREP_COL
  let reps := x.repairs.get [] n.toNat
  let st := s.rotState (8 * c.val + n.toNat)
  let mends := v.fld MREP_APPLY = 1 ∧ arr < 24 ∧ st ≠ 0 ∧ st ≠ 1 ∧ st ≠ 4
  let y := s.core g
  [decide (¬on (ARB_CTL c)),
    decide (on (ARB_CTL c)),
    decide (on (ARB_CTL c) ∧ idle ∧ free (8 + i.val)),
    decide (on (ARB_CTL c) ∧ idle ∧ free (8 + i.val) ∧ free (8 + j.val) ∧ i ≠ j ∧ (eff (8 + j.val) < eff (8 + i.val) ∨ (eff (8 + j.val) = eff (8 + i.val) ∧ near (8 + i.val) < near (8 + j.val)))),
    decide (on (ARB_PRI c r)),
    decide (¬on (ARB_PRI c r)),
    decide (¬on (REMAP_CTL c)),
    decide (on (REMAP_CTL c) ∧ used = true),
    decide (on (REMAP_CTL c) ∧ used = false),
    decide (x.remap = 0),
    decide (x.remap ≠ 0),
    decide (¬skims),
    decide (skims),
    decide (skims ∧ b.toNat ∈ banks ∧ used = false),
    decide (skims ∧ b.toNat ∈ banks ∧ used = true ∧ s.framesInRange = true),
    decide (¬on m),
    decide (on m ∧ (¬mends ∨ e ∈ reps)),
    decide (on m ∧ mends ∧ e ∉ reps ∧ reps.length = 2),
    decide (on m ∧ mends ∧ e ∉ reps),
    decide (y.run = true ∧ y.pl ≠ 0),
    decide (y.run = false),
    decide (y.run = true ∧ y.pl = 0),
    decide (s.flag PRIN_CTL PRIN_CTL_HOST_MEM = true),
    decide (s.flag PRIN_CTL PRIN_CTL_HOST_MEM = false),
    decide (y.dbBusy.get [] n.toNat = []),
    decide (y.dbBusy.get [] n.toNat ≠ []),
    decide (ix.toNat ∉ x.restore),
    decide (ix.toNat ∈ x.restore),
    decide (on (ARB_CTL c) ∧ (∀ m : Fin 8, m.val ≠ n.toNat → (s.core (8 * c.val + m.val)).far = []) ∧ (s.core (8 * c.val + n.toNat)).far = [f] ∧
      0x1000000 ≤ f.addr.toNat ∧ f.addr.toNat < 0x1400000 ∧ f.granted = none ∧ f.at_ + 2 ≤ 2 * k ∧ f.locked = false ∧
      b.toNat = f.addr.toNat / 32 % 32 ∧ free n.toNat)]

theorem witness_ClusterMemories :
    let far : Far := ⟨0x1000120, 4, true, .none, ⟨5, .clean⟩, ⟨5, .clean⟩, 1, 0, 0, 5, false, none, false, false⟩
    let at_ (s : State) (b : R5) (v : Word) : List Bool := preClusterMemories s 2 [] 0 1 b true false v 3 1 17 5 far
    let w : State := { tUp with now := 101 }
    let sk : State := w.wr (SKIM_CTL 2) (BitVec.ofNat 32 (2 ^ 31))
    let cm (f : Cluster → Cluster) (s : State) : State := s.setClu 2 (f (s.clu 2))
    let mend : Word := BitVec.ofNat 32 (2 ^ 30 + 3 * 2 ^ 20 + 4 * 2 ^ 12)
    let down : State := w.toRot 17 3
    let run (pl : Nat) : State := w.setCore 17 { tCore pl with dbBusy := [(1, [0])] }
    covered [at_ w 9 0, at_ (w.setDomain 98 0) 9 0, at_ (w.wr (ARB_PRI 2 8) (BitVec.ofNat 32 (12 * 2 ^ 24))) 9 0, at_ (w.wr (ARB_PRI 2 9) (BitVec.ofNat 32 (9 * 2 ^ 24))) 9 0,
      at_ (w.setCore 17 { w.core 17 with far := [far] }) 9 0, at_ (w.wr (REMAP_STAT 2) (BitVec.ofNat 32 (2 ^ 29))) 9 0, at_ (cm (fun x => { x with remap := 25 }) w) 9 0,
      at_ sk 3 0, at_ (sk.setFlag (REMAP_STAT 2) REMAP_STAT_SPARE_USED true) 3 0, at_ down 9 mend, at_ (cm (fun x => { x with repairs := [(1, [256 * 3 + 4])] }) down) 9 mend,
      at_ (cm (fun x => { x with repairs := [(1, [256 * 3 + 5, 256 * 3 + 6])] }) down) 9 mend, at_ (run 0) 9 0, at_ (run 1) 9 0,
      at_ (w.setFlag PRIN_CTL PRIN_CTL_HOST_MEM true) 9 0, at_ (cm (fun x => { x with restore := [5, 6] }) w) 9 0] = true := by decide +kernel

/-- Two repairs in an array leave no spare, whatever its fuses hold; that they hold fewer than two is a free value (R345). -/
theorem witness_ClusterMemories_spares : 2 ≤ ({ Cluster.reset with repairs := [(1, [256 * 3 + 5, 256 * 3 + 6])] } : Cluster).sparesUsed 2 1 3 :=
  Nat.le_add_left 2 _

/-- Which premises of the clauses of `EventSources` hold. -/
def preEventSources (s : State) (src : EvSrc) (v : Word) (pin : PinId) (b : Bool) (c : ClId) (i : BitVec 8) (n : R3) (ch : R4) (r : DmaRun) : List Bool :=
  let k := evKey src
  let x := s.src k
  let cw := s.rd (srcAddr k 1)
  let count := cw.fld SRC_COAL_COUNT
  let time := cw.fld SRC_COAL_TIME
  let occ := min (x.occ + 1) 255
  let now := x.pend = true ∨ count = 1 ∨ (count = 0 ∧ time = 0) ∨ (count ≠ 0 ∧ count ≤ occ)
  let fb := [DEVC_FB_STAT] ++ (List.range 12).flatMap fun a => [FALLBACK_COUNT a, FALLBACK_COUNT a + 4]
  let edge := s.level k = none
  let known := evAssigned src = true
  let own := src = .shared c i
  let sh := match src with
      | .shared _ _ => true
      | _ => false
  let cfg := s.rd (SRC c i.toNat 0)
  let fenced (g : Nat) : Bool := fencedState (s.rotState (8 * c + g))
  let a := (pinReg pin).getD 0
  let ev := match pin with
      | .evtIn _ => true
      | _ => false
  [decide (¬known),
    decide (known ∧ edge),
    decide (known ∧ ¬edge),
    decide (known ∧ ¬edge ∧ (sh = false ∨ s.level k = some false)),
    decide (known ∧ own ∧ s.level k = some true ∧ fenced (cfg.fld SRC_CFG_TARGET) = false),
    decide (own ∧ known ∧ edge ∧ now ∧ x.fb = false ∧ fenced (cfg.fld SRC_CFG_TARGET) = true),
    decide (own ∧ known ∧ s.level k = some true ∧ fenced (cfg.fld SRC_CFG_TARGET) = true),
    decide (edge),
    decide (¬edge),
    decide ((x.win = none ∨ x.pend = true ∨ time = 0)),
    decide (x.win ≠ none ∧ x.pend = false ∧ time ≠ 0),
    decide (evExists src = false),
    decide (evExists src = true ∧ s.blockOn (srcAddr k 0) = false),
    decide (evExists src = true ∧ s.blockOn (srcAddr k 0) = true),
    decide (own),
    decide (pinReg pin = none),
    decide (pinReg pin ≠ none ∧ s.flag a PIN_FLT_LEVEL = b),
    decide (pinReg pin ≠ none ∧ s.flag a PIN_FLT_LEVEL ≠ b ∧ ev = false),
    decide (pin = .evtIn n ∧ s.flag a PIN_FLT_LEVEL ≠ b)]

theorem witness_EventSources :
    let r : DmaRun := ⟨0, 0, 64, 0, false, false, ⟨0, .clean⟩, 0, none, .clean, 0, 0, 60⟩
    let at_ (s : State) (e : EvSrc) (pin : PinId) (b : Bool) : List Bool := preEventSources s e 0xFFFFFFFF pin b 2 40 3 5 r
    let w : State := { tUp with now := 101 }
    let me : EvSrc := .shared 2 40
    let k : Nat := evKey me
    let fen (s : State) : State := (s.wr (SRC 2 40 0) (((0 : Word).setFld SRC_CFG_TARGET 3).setFld SRC_CFG_FALLBACK 4)).toRot 19 5
    let win (s : State) (t : Nat) : State := { s.wr (srcAddr k 1) (((0 : Word).setFld SRC_COAL_COUNT 9).setFld SRC_COAL_TIME t) with srcs := [(k, ⟨false, true, 3, 5, some 7, false⟩)] }
    let devs : List EvSrc := [.dev 42, .dev 39, .dev 3, .dev 38, .dev 51]
    let shs : List EvSrc := [.shared 2 68, .shared 2 31, .shared 2 75, .priv 17 3]
    let hi (s : State) : State := (s.setFld (DEVC_PIN_FLT 3) PIN_FLT_MODE 3).setFlag (DEVC_PIN_FLT 3) PIN_FLT_LEVEL true
    let own (s : State) (i : BitVec 8) : List Bool := preEventSources s (.shared 2 i) 0xFFFFFFFF .por true 2 i 3 5 r
    covered ((devs ++ shs).map (fun e => at_ w e .por true) ++ [at_ w me (.evtIn 3) true, at_ w me (.evtIn 3) false, at_ w me (.tamper 2) true,
      at_ w me (.tamper 2) false, at_ (fen w) me .warm true, at_ (win (fen w) 5) me .perst true, at_ (win w 0) me .perst false, at_ (w.setDomain 98 0) me .por true] ++
      [own ((hi w).toRot 16 0) 75, own ((hi w).toRot 16 5) 75]) = true := by decide +kernel

/-- Which premises of the clauses of `DmaChannels` hold. -/
def preDmaChannels (s : State) (c : ClId) (ch : R4) (v : Word) (r : DmaRun) (ecc : Ecc) : List Bool :=
  let n := ch.toNat
  let ctl := DMA_CTL c n
  let qp := DMA_QPTR c n
  let on := s.blockOn ctl = true
  let qlen := s.fld (DMA_QCFG c n) DMA_QCFG_QLEN_M1 + 1
  let base := 32 * s.fld (DMA_QCFG c n) DMA_QCFG_QBASE
  let en := s.flag ctl DMA_CTL_EN
  let busy := s.dmaRun c n = some r
  let head := s.fld qp DMA_QPTR_HEAD
  let tail := s.fld qp DMA_QPTR_TAIL
  let pos := base + 32 * head
  let still := ∀ m : Fin 8, (s.core (8 * c.val + m.val)).far = []
  let cm := (s.clu c).cmem
  let w (o : Nat) : Nat := cm.val (pos + o) 4
  let d := (cm.dmaDesc pos).1
  let fill := d.mode = 1
  let bad := s.dmaCheck c d (BitVec.ofNat 32 (w 12))
  let len := min (64 - (r.dst.toNat + r.done) % 64) (r.count - r.done)
  let at_ (a : Word) : Nat := a.toNat + r.done
  let owned (a : Word) : Bool := decide (s.dmaOwns c (at_ a) = true ∧ s.dmaOwns c (at_ a + len - 8) = true)
  let mine := s.dmaPick c = some n ∧ busy
  let owns := owned r.dst ∧ (r.mode = 1 ∨ owned r.src)
  let clear := at_ r.src + len ≤ at_ r.dst ∨ at_ r.dst + len ≤ at_ r.src
  let inOne := at_ r.dst % 8 = 0 ∧ len % 8 = 0 ∧ dmaRangeOk (at_ r.dst) len = true
  let ended := r.bad ≠ 0 ∨ r.count ≤ r.done
  [decide (on ∧ en = false),
    decide (on ∧ en = true),
    decide (on ∧ v.fld DMA_QPTR_TAIL < qlen),
    decide (on ∧ qlen ≤ v.fld DMA_QPTR_TAIL),
    decide (on),
    decide (¬on),
    decide ((en = false ∨ s.dmaRun c n ≠ none ∨ head = tail)),
    decide (on ∧ en = true ∧ s.dmaRun c n = none ∧ head ≠ tail ∧ still),
    decide (d.mode = 3),
    decide (d.mode ≠ 3 ∧ w 12 % 2 ^ 28 = 0 ∧ (cm.tint pos).k = false ∧ (cm.tint (pos + 8)).k = false ∧ ((¬fill ∧ d.src.toNat % 8 ≠ 0) ∨ d.dst.toNat % 8 ≠ 0 ∨ d.count % 8 ≠ 0)),
    decide (d.mode ≠ 3 ∧ w 12 % 2 ^ 28 = 0 ∧ (cm.tint pos).k = false ∧ (cm.tint (pos + 8)).k = false ∧ bad = 0),
    decide (d.mode ≠ 3 ∧ w 12 % 2 ^ 28 = 0 ∧ (cm.tint pos).k = false ∧ (cm.tint (pos + 8)).k = false ∧ bad = 0 ∧ ¬fill),
    decide (s.dmaPick c ≠ some n),
    decide (s.dmaPick c = some n),
    decide (on ∧ mine ∧ still ∧ ¬owns),
    decide (on ∧ mine ∧ still ∧ owns ∧ inOne ∧ r.mode = 1),
    decide (on ∧ mine ∧ still ∧ owns ∧ inOne ∧ r.mode = 0 ∧ clear),
    decide (on ∧ mine ∧ still ∧ owns ∧ inOne ∧ r.mode = 0 ∧ ecc ≠ .ok),
    decide (on ∧ mine ∧ still ∧ owns ∧ r.mode = 2 ∧ len % 8 = 0),
    decide (on ∧ mine ∧ still ∧ owns ∧ r.mode = 2 ∧ ecc ≠ .ok),
    decide ((s.dmaRun c n = none ∨ (busy ∧ ¬ended))),
    decide (busy ∧ ended ∧ still ∧ r.pos % 32 = 0)]

theorem witness_DmaChannels :
    let dsc (src dst n ctl : Nat) : List Byte := toLE 4 src ++ toLE 4 dst ++ toLE 4 n ++ toLE 4 ctl ++ toLE 16 5
    let cm (s : State) (a : Nat) (b : List Byte) : State := s.setClu 2 { s.clu 2 with cmem := (s.clu 2).cmem.storeAll a b .clean }
    let q (b : List Byte) : State := cm ((((({ tUp with now := 101 } : State).wr (DMA_QCFG 2 5) (((0 : Word).setFld DMA_QCFG_QBASE 4).setFld DMA_QCFG_QLEN_M1 3)).wr (DMA_QPTR 2 5)
      (((0 : Word).setFld DMA_QPTR_TAIL 2).setFld DMA_QPTR_HEAD 1)).setFlag (DMA_CTL 2 5) DMA_CTL_EN true)) 160 b
    let go (s : State) : State := tAfter (.dmaDescriptorStart 2 5) s
    let burst (s : State) : State := tAfter (.dmaBurst 2 5 .ok) s
    let at_ (s : State) (v : Word) (e : Ecc) : List Bool := preDmaChannels s 2 5 v ((s.dmaRun 2 5).getD ⟨0, 0, 64, 0, false, false, ⟨0, .clean⟩, 0, none, .clean, 0, 0, 60⟩) e
    let mine (s : State) : State := s.setCore 17 { s.core 17 with dbOwn := [(0, 1)] }
    let copy : State := q (dsc 0x1001000 0x1002000 64 0)
    let fill : State := q (dsc 0 0x1002000 64 (2 ^ 30))
    let cmp : State := q (dsc 0x1001000 0x1003000 64 (2 ^ 31))
    covered [at_ tUp 2 .ok, at_ tUp 9 .ok, at_ (tUp.setDomain 98 0) 2 .ok, at_ copy 2 .ok, at_ fill 2 .ok, at_ cmp 2 .ok, at_ (q (dsc 4 8 8 0)) 2 .ok,
      at_ (q (dsc 0 8 8 (2 ^ 31 + 2 ^ 30))) 2 .ok, at_ (go copy) 2 .ok, at_ (go copy) 2 .ce, at_ (go fill) 2 .ok, at_ (go cmp) 2 .ok, at_ (go cmp) 2 .ce,
      at_ ((go (mine (q (dsc 0x1001000 0x2020000 64 0)))).setCore 17 Core.reset) 2 .ok, at_ (burst (go copy)) 2 .ok] = true := by decide +kernel

/-! Witnesses: the ring. -/

/-- Both ring ports in a state with PCS lock. -/
def tPorts (st : Nat) (f : RPortSt → RPortSt) (s : State) : State :=
  [0, 1].foldl (fun s d => (s.setRp d (f { s.rp d with pcs := true, hbAt := 50 })).setRpState d st) s

/-- A header to `dest` from node 8. -/
def tHdr (dest : BitVec 8) (seq ack : BitVec 12) (nack : Bool) : FlitHdr := ⟨false, dest, 8, seq, ack, nack, 2, 9⟩

/-- Which premises of the clauses of `RingPorts` hold. -/
def preRingPorts (s : State) (e : RPort) (h : FlitHdr) (v : Word) (east : Bool) (rid : BitVec 16) (node : BitVec 8) (st2 : BitVec 2) (parts : List (List Byte)) (a b c c2 : BitVec 9) (g : Nat) (seed : List Byte) : List Bool :=
  let d := rportN e
  let p := s.rp d
  let st := s.rpState d
  let ok := s.framesInRange = true
  let takes := s.rpTakes d = true
  let heard := takes ∧ h.seq.toNat = p.rxNum % 4096
  let left := unackedAfter h.ack.toNat p.replay
  let run2 := if left.length < p.replay.length then 0 else p.run
  let calm := h.nack = false ∨ left = [] ∨ run2 < 7
  let awaits := st = 2 ∧ p.pcs = true ∧ p.keyed = false ∧ p.waiting = false ∧ ((st2 = 1 ∧ d = 1 ∧ p.step = 2) ∨ (st2 = 2 ∧ d = 0 ∧ p.step = 3))
  let staffed := s.keCore = some g ∧ s.identSeed = some seed ∧ s.trngOk = true
  let still := (s.rpState 0 = 0 ∨ s.rpState 0 = 5) ∧ (s.rpState 1 = 0 ∨ s.rpState 1 = 5)
  [decide (st ≠ 1),
    decide (st = 1),
    decide ((p.pcs = false ∨ (st ≠ 1 ∧ st ≠ 2 ∧ st ≠ 3))),
    decide (p.pcs = true ∧ st = 3 ∧ ok),
    decide (p.pcs = true ∧ (st = 1 ∨ st = 2) ∧ east = (d == 0) ∧ s.rpState (1 - d) ≠ 3),
    decide (p.pcs = true ∧ east ≠ (d == 0) ∧ (st = 2 ∨ (st = 1 ∧ (rid.toNat ≠ s.fld RING_CFG RING_CFG_RING_ID ∨ p.helloSent = false)))),
    decide (p.pcs = true ∧ east ≠ (d == 0) ∧ st = 1 ∧ rid.toNat = s.fld RING_CFG RING_CFG_RING_ID ∧ p.helloSent = true ∧ ((d = 1 ∨ s.keCore = none))),
    decide (p.pcs = true ∧ east ≠ (d == 0) ∧ st = 1 ∧ rid.toNat = s.fld RING_CFG RING_CFG_RING_ID ∧ p.helloSent = true ∧ d = 0 ∧ staffed ∧ s.vault.handles = []),
    decide (¬awaits),
    decide (awaits ∧ (s.keCore = none ∨ s.identSeed = none ∨ s.trngOk = false)),
    decide (awaits ∧ staffed ∧ d = 1 ∧ s.ringTrust d = none),
    decide (awaits ∧ staffed ∧ d = 1 ∧ s.ringTrust d ≠ none),
    decide ((st ≠ 2 ∨ p.waiting = false)),
    decide (st = 2 ∧ p.waiting = true ∧ s.keCore = none),
    decide (st = 2 ∧ p.waiting = true ∧ staffed ∧ d = 0 ∧ p.step = 1 ∧ s.vault.handles = []),
    decide (st ≠ 4),
    decide (st = 4),
    decide (p.pcs = false),
    decide (p.pcs = true),
    decide (¬takes),
    decide (takes ∧ h.seq.toNat ≠ p.rxNum % 4096),
    decide (heard ∧ calm),
    decide (heard ∧ ¬calm ∧ ok),
    decide (takes),
    decide (takes ∧ ok),
    decide (p.replay = []),
    decide (p.replay ≠ [] ∧ takes),
    decide (p.replay ≠ [] ∧ takes ∧ 7 ≤ p.run ∧ ok),
    decide (st ≠ 3),
    decide (st = 3 ∧ p.credits.length = 4 ∧ a.toNat + nth 0 p.credits 0 = 256 ∧ b.toNat + nth 0 p.credits 1 = 256 ∧ c.toNat + nth 0 p.credits 2 = 32 ∧ c2.toNat + nth 0 p.credits 3 = 32),
    decide (st = 3 ∧ p.credits.length = 4 ∧ (a.toNat + nth 0 p.credits 0 ≠ 256 ∨ b.toNat + nth 0 p.credits 1 ≠ 256 ∨ c.toNat + nth 0 p.credits 2 ≠ 32 ∨ c2.toNat + nth 0 p.credits 3 ≠ 32) ∧ ok),
    decide (st = 3),
    decide (st = 3 ∧ ok),
    decide (ok),
    decide (¬still),
    decide (still)]

theorem witness_RingPorts :
    let w : State := { tUp with now := 101 }
    let ke (s : State) : State := s.toRot 3 4
    let sent (i : BitVec 12) : RSent := ⟨⟨false, 4, 0, i, 0, false, 0, 0⟩, .heartbeat, 1, 60⟩
    let at_ (s : State) (e : RPort) (h : FlitHdr) (east : Bool) (st2 : BitVec 2) (a c : BitVec 9) : List Bool :=
      preRingPorts s e h 0 east 0 8 st2 [[1], [2]] a a c c ((s.keCore).getD 0) ((s.identSeed).getD [])
    let p3 (run : Nat) : State := tPorts 3 (fun p => { p with replay := [sent 3, sent 4], rxNum := 5, txNum := 5, run := run }) w
    let au (step : Nat) : State := tPorts 2 (fun p => { p with step := step }) w
    let wait : State := tPorts 2 (fun p => { p with step := 1, waiting := true }) w
    let hello : State := tPorts 1 (fun p => { p with helloSent := true }) w
    let tr (s : State) : State := { s with vault := { s.vault with trustWest := some 5 } }
    covered [at_ w .east (tHdr 2 5 3 false) true 0 0 0, at_ hello .east (tHdr 2 5 3 false) true 0 0 0, at_ hello .east (tHdr 2 5 3 false) false 0 0 0,
      at_ (ke hello) .east (tHdr 2 5 3 false) false 0 0 0, at_ (tPorts 2 id w) .east (tHdr 2 5 3 false) false 0 0 0, at_ (au 2) .west (tHdr 2 5 3 false) false 1 0 0,
      at_ (ke (au 2)) .west (tHdr 2 5 3 false) false 1 0 0, at_ (tr (ke (au 2))) .west (tHdr 2 5 3 false) false 1 0 0, at_ wait .east (tHdr 2 5 3 false) true 0 0 0,
      at_ (ke wait) .east (tHdr 2 5 3 false) true 0 0 0, at_ (tPorts 4 id w) .east (tHdr 2 5 3 false) true 0 0 0, at_ (p3 0) .east (tHdr 2 5 3 false) true 0 0 0,
      at_ (p3 0) .east (tHdr 2 6 3 false) true 0 5 0, at_ (p3 7) .east (tHdr 2 5 2 true) true 0 0 0] = true := by decide +kernel

/-- Which premises of the clauses of `RingMessages` hold. -/
def preRingMessages (s : State) (e : RPort) (h : FlitHdr) (ad : Advert) (y n : BitVec 8) (x : SpillHdr) (bs : List Byte) (rm : List Bool) (m : ReplMsg) (i12 : BitVec 12) (q : Word) (key : Bool) (f g base block buf : Nat) (fs : List Nat) : List Bool :=
  let d := rportN e
  let p := s.rp d
  let me := s.nodeId
  let takes := s.rpTakes d = true
  let heard := takes ∧ h.seq.toNat = p.rxNum % 4096 ∧ h.nack = false ∧ s.framesInRange = true
  let mine := heard ∧ h.src.toNat ≠ me ∧ (h.dest.toNat = me ∨ h.dest.toNat = 255)
  let sd := b2n x.dir
  let sa := x.sa.toNat
  let t0 : Word := BitVec.ofNat 32 (2 * s.fclk)
  let cells := (x.len.toNat + 64 + 255) / 256
  let c := wmax (s.tfreeOf g) (t0 + 32) + BitVec.ofNat 32 (base + block * ((x.len.toNat + 15) / 16))
  let cfg := s.prd (SA_CFG sa)
  let outL := s.outLen (1 - sd) (cfg.fld SA_CFG_EGRESS_PORT) (cfg.fld SA_CFG_FORMAT) x.len.toNat
  let soon := wle (c + 96 + BitVec.ofNat 32 (ser (outL + 64) 400)) (s.timebase + BitVec.ofNat 32 (s.fld RING_SPILL_CFG RING_SPILL_CFG_NB_LAT)) = true
  let w := s.frame f
  let spilled := s.framesWith (fun z => z.spill.isSome && z.side == sd && z.ftag == x.ftag.toNat && z.drop == 0 && z.done.isNone && z.stage != .gone)
  let live := w.drop = 0 ∧ w.stage = .admitted ∧ w.taken = none ∧ w.putty = none ∧ w.done = none
  let ra := m.sa.toNat
  let partner := s.replMode ra = 2 ∧ s.replPeer ra = h.src.toNat
  let aa := i12.toNat
  let ai := 2 * aa + b2n key
  let pnDue := s.ring.pnAt.get 0 (2 * aa) ≠ 0 ∨ s.ring.pnAt.get 0 (2 * aa + 1) ≠ 0
  [decide (mine),
    decide (s.rpState 0 ≠ 3 ∧ s.rpState 1 ≠ 3),
    decide (s.rpState d = 3 ∧ p.queue = [] ∧ p.unacked < 512 ∧ 0 < nth 0 p.credits 2 ∧ 0 < nth 0 p.credits 3),
    decide (s.ring.adverts.get none n.toNat = none),
    decide (s.ring.adverts.get none n.toNat ≠ none),
    decide (mine ∧ s.chooseCore sd sa x.cls.toNat t0 = none),
    decide (mine ∧ s.chooseCore sd sa x.cls.toNat t0 = some g ∧ s.costEntry (s.coreEpoch g) x.cls.toNat = some (base, block) ∧ s.allocCells (g / 8) cells = some buf ∧ ¬soon),
    decide (mine ∧ s.chooseCore sd sa x.cls.toNat t0 = some g ∧ s.costEntry (s.coreEpoch g) x.cls.toNat = some (base, block) ∧ s.allocCells (g / 8) cells = some buf ∧ soon),
    decide (mine ∧ spilled = []),
    decide (mine ∧ spilled = f :: fs ∧ live ∧ x.result = 3),
    decide (mine ∧ spilled = f :: fs ∧ live ∧ x.result = 0 ∧ (s.eg (1 - w.side) w.eport).tfc = false ∧ bs.length ≤ 256 * w.cells),
    decide (mine ∧ ¬partner),
    decide (mine ∧ partner),
    decide (mine ∧ s.replMode aa ≠ 1),
    decide (mine ∧ s.replMode aa = 1),
    decide (s.ring.wait = none),
    decide (s.ring.wait.isSome = true ∧ s.mbx.wq = []),
    decide ((¬pnDue ∨ s.replMode aa ≠ 1)),
    decide (s.replMode aa = 1 ∧ s.ring.pnAt.get 0 ai ≠ 0),
    decide (s.reached n.toNat = false),
    decide (s.reached n.toNat = true),
    decide ((s.lostTwice n.toNat = false ∨ s.ringBound = false)),
    decide (s.lostTwice n.toNat = true ∧ s.ringBound = true)]

theorem witness_RingMessages :
    let b : State := tPorts 3 (fun p => { p with rxNum := 5 }) (tCfg.setFld RING_CFG RING_CFG_NODE 2)
    let ad : Advert := ⟨8, true, 77, 3, 3, false, false⟩
    let x (r : BitVec 8) : SpillHdr := ⟨false, 5, false, 0, 3, r, 9, 80, 112, 55, 8⟩
    let m : ReplMsg := ⟨5, 4, false, false, 1, true, true, 999, 44, none⟩
    let at_ (s : State) (h : FlitHdr) (r : BitVec 8) : List Bool :=
      let g := (s.chooseCore 0 5 3 (BitVec.ofNat 32 (2 * s.fclk))).getD 0
      let e := (s.costEntry (s.coreEpoch g) 3).getD (0, 0)
      preRingMessages s .east h ad 8 8 (x r) [1, 2, 3] [true] m 5 4 false 3 g e.1 e.2 ((s.allocCells (g / 8) 1).getD 0) []
    let fr (s : State) : State := { s with frames := [(3, { Frame.none with spill := some 0, stage := .admitted, ftag := 9, cells := 1, buf := 70, core := 9, eport := 1, side := 0 })], nextFid := 4 }
    let mode (n : Nat) (s : State) : State := s.wr (REPL_STAT 5) (((0 : Word).setFld REPL_STAT_MODE n).setFld REPL_STAT_PEER 8)
    let rg (f : Ring → Ring) (s : State) : State := { s with ring := f s.ring }
    let me : FlitHdr := tHdr 2 5 3 false
    covered [at_ tCfg me 0, at_ b me 0, at_ (b.setFld RING_SPILL_CFG RING_SPILL_CFG_NB_LAT 60000) me 0, at_ (b.setFld RING_SPILL_CFG RING_SPILL_CFG_NB_LAT 10) me 0,
      at_ (b.wr (COST_STAT 0) 0) me 0, at_ (fr b) me 3, at_ (fr b) me 0, at_ (mode 1 b) me 0, at_ (mode 2 b) me 0,
      at_ (rg (fun r => { r with adverts := [(8, some (9990, ad))], wait := some (5, 4, 33), pnAt := [(10, 70)] }) (mode 1 b)) me 0,
      at_ ((rg (fun r => { r with losses := [(8, [1, 3])] }) b).setFld RING_REPLR RING_REPLR_REPL_DEADLINE 500) me 0] = true := by decide +kernel

/-! Witnesses: the registers and the host interface. -/

/-- Every power domain on and every permission of PRIN_CTL given. -/
def tOn : State := (List.range 122).foldl (fun s d => s.setDomain d 2) (tUp.wr PRIN_CTL 0xF)

/-- The same in a life-cycle state (the fuse code of R390). -/
def tLife (n : Nat) (s : State) : State := { s with fuses := { s.fuses with lc := BitVec.ofNat 8 n } }

/-- Which premises of the clauses of `SmbusCommands` hold. -/
def preSmbusCommands (s : State) (k : R5) (v : Word) (off : BitVec 24) : List Bool :=
  let code := off.toNat % 256
  let listed : Bool := decide (code ≤ 3 ∨ (0x10 ≤ code ∧ code ≤ 0x28) ∨ code = 0x30 ∨ code = 0x40 ∨ code = 0x41 ∨ code = 0x50)
  [decide (k.toNat < 24),
    decide (24 ≤ k.toNat ∧ k.toNat ≠ 31),
    decide (¬listed),
    decide (code ≠ 0xF0),
    decide (code = 0xF0 ∧ s.flag SMB_CFG SMB_CFG_PEC_REQ = true),
    decide (code = 0xF0 ∧ s.flag SMB_CFG SMB_CFG_PEC_REQ = false)]

theorem witness_SmbusCommands :
    covered [preSmbusCommands tUp 23 0 0xF0, preSmbusCommands (tUp.wr SMB_CFG 0x80000000) 30 0 0xF0, preSmbusCommands tUp 24 5 0x29] = true := by decide +kernel

/-- Which premises of the clauses of `HostAccesses` hold. -/
def preHostAccesses (s : State) (who : Prin) (off : BitVec 24) (v : Word) (g : CoreId) (c : ClId) (n : BitVec 5) : List Bool :=
  let a := off.toNat
  let dep : Bool := s.lcState == 2
  let pctl (f : Fld) : Bool := s.flag PRIN_CTL f
  let lens := who = .lens
  let dark : Bool := decide ((0x200000 ≤ a ∧ a < 0x240000 ∧ s.domain 120 < 2) ∨ (0x390000 ≤ a ∧ a < 0x3A0000 ∧ s.domain 121 < 2) ∨ (0x800000 + 0x40000 * c.val ≤ a ∧ a < 0x840000 + 0x40000 * c.val ∧ s.domain (96 + c) < 2))
  let cfg : Bool := decide (a ∈ [LEDGER_CTL, PORT_EVT_EN 0 3, LANE_CFG 1 15, CLINK_POOL 3, DLV_EVT_EN, TINT_EVT_EN, CLK_EVT_EN, MON_EVT_EN, RING_EVT_EN])
  let open_ : Bool := decide (a ∈ [HOSTIF_EVT_EN, HOST_VEC 0, HOST_VEC 30])
  let ro : Bool := decide (a ∈ [0, PORT_STAT 1 4, LC_STAT, CLK_STAT, 0x480000, 0xB00000])
  let seen : Bool := decide (who = .host ∨ who = .warden ∨ (lens ∧ dep = false))
  let h := s.msixHold.get (0, false) n.toNat
  [decide (who = .host ∧ cfg ∧ pctl PRIN_CTL_HOST_CFG = false),
    decide ((who = .host ∨ (lens ∧ dep = false)) ∧ a ∈ [PRIN_CTL, SMB_NOTIFYR, MBX_TMO]),
    decide ((who = .host ∨ (lens ∧ dep = false)) ∧ a = PRIN_CTL),
    decide ((who = .host ∨ (lens ∧ dep = false)) ∧ a = COST_CTL),
    decide ((who = .host ∨ (lens ∧ dep = false)) ∧ a = FAULT_STAT),
    decide (lens ∧ dep = false ∧ a = HOST_VEC 3),
    decide (lens ∧ dep = true ∧ (cfg ∨ open_)),
    decide (who = .host ∧ a = TINT_LOG_INFO ∧ pctl PRIN_CTL_HOST_LOG = false),
    decide (who = .host ∧ a % 4 ≠ 0 ∧ a < 0xC00000),
    decide (ro ∧ who ∈ [.host, .warden, .lens]),
    decide (seen ∧ (a = TINT_EVT_EN ∨ a = PORT_STAT 0 2 ∨ a = HOST_VEC 7)),
    decide (who = .warden ∧ (a = PRIN_CTL ∨ a = FAULT_CTL)),
    decide ((s.core g).run = true ∧ ((s.core g).pl = 0 ∨ 0xC00000 ≤ a)),
    decide ((s.core g).run = true ∧ (s.core g).pl ≠ 0 ∧ cfg),
    decide ((s.core g).run = false),
    decide (s.memwin.get 0 (prinKey who) = 0x80000000 ||| BitVec.ofNat 32 (256 * c.val) ∧ s.domain (96 + c) = 2 ∧ 0xC00000 ≤ a ∧ a % 4 = 0 ∧ (who = .host ∧ pctl PRIN_CTL_HOST_MEM = true ∨ lens ∧ dep = false) ∧ ((∀ y : CoreId, y.val / 8 = c.val → (s.core y).far = [])) ∧ (s.clu c).cmem.tint (a - 0xC00000) ≠ .clean),
    decide (dark ∧ a % 4 = 0 ∧ (who = .host ∨ lens)),
    decide (dark ∧ a % 4 = 0 ∧ who = .warden),
    decide (h.1 = 0),
    decide (n ≠ 0 ∧ h.1 ≠ 0)]

theorem witness_HostAccesses :
    let at_ (s : State) (w : Prin) (a : Nat) : List Bool := preHostAccesses s w (BitVec.ofNat 24 a) 0xFFFF1234 9 2 3
    let core (pl : Nat) : State := tOn.setCore 9 (tCore pl)
    let mw (s : State) : State := { s with memwin := [(96, 0x80000200), (97, 0x80000200), (98, 0x80000200)], cl := s.cl.set Cluster.reset 2 { (s.clu 2) with cmem := ((s.clu 2).cmem.store 0x48 (toLE 8 0x99) .onlyK) } }
    covered [at_ (tOn.wr PRIN_CTL 0) .host LEDGER_CTL, at_ tOn .host PRIN_CTL, at_ tOn .lens COST_CTL, at_ tOn .host FAULT_STAT, at_ tOn .lens (HOST_VEC 3),
      at_ (tLife 3 tOn) .lens LEDGER_CTL, at_ (tOn.wr PRIN_CTL 0) .host TINT_LOG_INFO, at_ tOn .host 3, at_ tOn .host LC_STAT, at_ tOn .warden TINT_EVT_EN,
      at_ tOn .warden FAULT_CTL, at_ (core 0) .host 0, at_ (core 1) .host LEDGER_CTL, at_ (mw tOn) .host 0xC00048, at_ (mw tOn) .lens 0xC00048,
      at_ (tOn.setDomain 98 0) .host 0x880104, at_ (tOn.setDomain 98 0) .warden 0x880104,
      at_ { tOn with msixHold := [(3, (5000, true))] } .host 0] = true := by decide +kernel

/-- Which premises of the clauses of `MemoryAperture` hold. -/
def preMemoryAperture (s : State) (who : Prin) (v : Word) (x : BitVec 22) (size : Nat) (d : BitVec 64) (c : ClId) (g : CoreId) : List Bool :=
  let dep : Bool := s.lcState == 2
  let mw := s.memwin.get 0 (prinKey who)
  let sel (target unit : Nat) : Bool := decide (mw.getLsbD 31 = true ∧ mw.toNat / 2 ^ 26 % 4 = target ∧ mw.toNat / 2 ^ 8 % 128 = unit)
  let rshape : Bool := decide (x.toNat % 4 = 0 ∧ size % 4 = 0 ∧ 4 ≤ size ∧ x.toNat % 64 + size ≤ 64)
  let wshape : Bool := decide ((size = 4 ∧ x.toNat % 4 = 0) ∨ (size = 8 ∧ x.toNat % 8 = 0))
  let hl : Bool := decide (who = .host ∨ who = .lens)
  let lc : Bool := decide (who = .lens → dep = false)
  let may (target : Nat) (wr : Bool) : Bool := decide ((who = .host ∧ target ≤ 1 ∧ s.flag PRIN_CTL PRIN_CTL_HOST_MEM = true) ∨ (who = .warden ∧ (target = 2 → wr = true ∧ s.rotState g = 3)) ∨ (who = .lens ∧ dep = false ∧ ¬(target = 2 ∧ wr = true ∧ s.lcState = 1)))
  let quiet : Bool := decide (∀ y : CoreId, y.val / 8 = c.val → (s.core y).far = [])
  let onC : Bool := decide (sel 0 c ∧ s.domain (96 + c) = 2 ∧ quiet)
  let onG (target : Nat) : Bool := decide (sel target g ∧ s.domain g = 2)
  let bank : Bool := decide ((s.core g).owner (x.toNat / 0x4000) ≠ 0)
  let whole : Bool := decide (s.scrambled ⟨1, g.val⟩ = false)
  let clean (m : Mem) : Bool := decide (∀ i : Fin 9, x.toNat / 8 * 8 + 8 * i.val < x.toNat + size → m.tint (x.toNat / 8 * 8 + 8 * i.val) = .clean)
  [decide ((who = .warden ∨ (who = .host ∧ s.flag PRIN_CTL PRIN_CTL_HOST_MEM = true) ∨ (who = .lens ∧ dep = false))),
    decide (who = .host ∧ s.flag PRIN_CTL PRIN_CTL_HOST_MEM = false),
    decide (who = .lens ∧ dep = true),
    decide (rshape ∧ onC ∧ may 0 false ∧ (who = .warden ∨ clean (s.clu c).cmem)),
    decide (rshape ∧ onC ∧ may 0 false ∧ who ≠ .warden ∧ ¬clean (s.clu c).cmem),
    decide (wshape ∧ onC ∧ may 0 true),
    decide (rshape ∧ onG 1 ∧ may 1 false ∧ 0x20000 ≤ x.toNat),
    decide (rshape ∧ onG 1 ∧ may 1 false ∧ x.toNat < 0x20000 ∧ bank ∧ whole ∧ (who = .warden ∨ clean (s.core g).dmem)),
    decide (rshape ∧ onG 1 ∧ may 1 false ∧ x.toNat < 0x20000 ∧ bank ∧ who ≠ .warden ∧ ¬clean (s.core g).dmem),
    decide (rshape ∧ size = 4 ∧ onG 1 ∧ may 1 false ∧ x.toNat < 0x20000 ∧ bank ∧ ¬whole ∧ who = .warden),
    decide (wshape ∧ onG 1 ∧ may 1 true ∧ x.toNat < 0x20000 ∧ bank),
    decide (rshape ∧ onG 2 ∧ may 2 false ∧ x.toNat < 0x20000 ∧ whole),
    decide (wshape ∧ onG 2 ∧ may 2 true ∧ x.toNat < 0x20000),
    decide (rshape ∧ size = 4 ∧ onG 3 ∧ may 3 false ∧ (x.toNat < 0x200 ∨ x.toNat = 0x200 ∨ x.toNat = 0x218 ∨ x.toNat = 0x388 ∨ 0x1000 ≤ x.toNat)),
    decide (rshape ∧ size = 4 ∧ onG 3 ∧ may 3 false ∧ x.toNat = 0x210),
    decide (rshape ∧ size = 4 ∧ onG 3 ∧ who = .warden ∧ x.toNat = 0x360),
    decide (rshape ∧ size = 4 ∧ onG 3 ∧ may 3 false ∧ who = .lens ∧ x.toNat = 0x360),
    decide (size = 4 ∧ onG 3 ∧ may 3 true ∧ x.toNat ∈ [0x200, 0x210, 0x218, 0x220, 0x224, 0x388, 0x1000]),
    decide (size = 4 ∧ onG 3 ∧ who = .warden ∧ x.toNat = 0x360),
    decide (size = 4 ∧ onG 3 ∧ who = .lens ∧ may 3 true ∧ x.toNat = 0x360),
    decide (size = 4 ∧ x.toNat % 4 = 0 ∧ (mw.getLsbD 31 = false ∨ (∃ a ∈ [1, 2, 3], mw.toNat / 2 ^ 26 % 4 = a ∧ 96 ≤ mw.toNat / 2 ^ 8 % 128) ∨ (mw.toNat / 2 ^ 26 % 4 = 0 ∧ 12 ≤ mw.toNat / 2 ^ 8 % 128) ∨ (lc ∧ (sel 1 g ∨ sel 3 g) ∧ s.domain g ≠ 2) ∨ (lc ∧ sel 0 c ∧ s.domain (96 + c) ≠ 2) ∨ (lc ∧ sel 1 g ∧ x.toNat < 0x20000 ∧ ¬bank) ∨ (who = .host ∧ ((sel 0 c ∨ sel 1 g) ∧ s.flag PRIN_CTL PRIN_CTL_HOST_MEM = false ∨ sel 2 g ∨ sel 3 g)) ∨ (who = .warden ∧ sel 2 g ∧ s.rotState g ≠ 3)) ∧ (who = .warden ∨ hl)),
    decide (rshape ∧ who = .lens ∧ dep = true ∧ sel 0 c),
    decide (wshape ∧ who = .lens ∧ s.lcState = 1 ∧ sel 2 g),
    decide (¬rshape ∧ who = .host),
    decide (¬wshape ∧ who = .host)]

theorem witness_MemoryAperture :
    let s0 : State :=
      let y := tOn.clu 2
      let c := tOn.core 9
      (tOn.setClu 2 { y with cmem := y.cmem.store 0x48 (toLE 8 0x99) .onlyK }).setCore 9 { c with dmem := c.dmem.store 0x4048 (toLE 8 0x99) .onlyK, dbOwn := c.dbOwn.set 0 1 1 }
    let fin : State := (List.range 96).foldl (fun s g => s.wr (ROT_CORE (g / 8) (g % 8)) 0) s0
    let rel : State := fin.wr (ROT_CORE 1 1) (BitVec.ofNat 32 (3 * 2 ^ ROT_CORE_STATE.lo))
    let at_ (s : State) (who : Prin) (target : Nat) (unit : Nat) (x : BitVec 22) (size : Nat) : List Bool :=
      preMemoryAperture { s with memwin := s.memwin.set 0 (prinKey who) (BitVec.ofNat 32 (2 ^ 31 + target * 2 ^ 26 + unit * 2 ^ 8)) } who 0 x size 0x1234567890ABCDEF 2 9
    covered [at_ fin .host 0 2 0x40 4, at_ fin .host 0 2 0x48 8, at_ fin .host 0 12 0 4, at_ fin .host 0 2 0x40 3, at_ (fin.wr PRIN_CTL 0) .host 0 2 0 4,
      at_ fin .host 1 9 0x4040 8, at_ fin .host 1 9 0x4048 8, at_ fin .host 1 9 0x20000 4, at_ fin .lens 2 9 0x40 8, at_ rel .warden 2 9 0x40 8, at_ fin .warden 2 9 0x40 4,
      at_ rel .warden 1 9 0x4040 4, at_ fin .warden 1 9 0x4040 4, at_ fin .lens 3 9 0x200 4, at_ fin .lens 3 9 0x210 4, at_ fin .warden 3 9 0x360 4, at_ fin .lens 3 9 0x360 4,
      at_ (tLife 3 fin) .lens 0 2 0x40 4, at_ (tLife 1 fin) .lens 2 9 0x40 8, at_ (tLife 3 rel) .lens 2 9 0x40 8, at_ (tLife 0 fin) .lens 2 9 0x40 8,
      at_ (fin.toRot 9 2) .warden 1 9 0x4040 4] = true := by decide +kernel

/-- Which premises of the clauses of `RegisterFields` hold. -/
def preRegisterFields (s : State) (who : Prin) (off : BitVec 24) (v : Word) (f : RegFam) (is : List Nat) : List Bool :=
  let a := off.toNat
  let outside : Bool := decide (who ∈ [.warden, .host, .lens])
  let acts : Bool := decide (f.base ∈ [0x100000, 0x110000, 0x120000, 0x3A0000, 0x3A0008, 0x3B1024, 0x3B102C, 0x3B1050, 0x3B1058, 0x2C0008, 0x2C0010, 0x3E0000, 0x3E1000, 0x3F0000, 0x400100, 0x411000, 0x450030, 0x42000C, 0x430008, 0x430020, 0x440000, 0x450000, 0x460000, 0x461000, 0x800000, 0x800010, 0x813000, 0x820018, 0x820100, 0x820200, 0x83000C, 0x830014, 0x830018, 0x83001C] ∨ (0x401000 ≤ f.base ∧ f.base < 0x401010) ∨ (0x811000 ≤ f.base ∧ f.base < 0x811010) ∨ (0x812000 ≤ f.base ∧ f.base < 0x812010))
  let permitted : Bool := decide (who = .warden ∨ (s.refusedBits who a f true).2 = 0)
  let ok : Bool := decide (outside ∧ a % 4 = 0 ∧ a ≠ 0x10 ∧ s.blockOn a = true ∧ permitted)
  let m := s.mbx
  let table : Bool := decide (0xE000 ≤ a ∧ a < 0xE200 ∧ a % 4 = 0)
  [decide (ok ∧ famOf a = some (f, is, false) ∧ f.w64 = false ∧ ¬acts),
    decide (ok ∧ famOf a = some (f, is, true)),
    decide (ok ∧ famOf a = some (f, is, false) ∧ f.w64 = true ∧ ¬acts),
    decide (outside ∧ a % 4 = 0 ∧ a ≠ 0x10 ∧ s.blockOn a = true ∧ famOf a = none),
    decide (who = .warden ∧ a % 4 ≠ 0),
    decide (who ≠ .host),
    decide (who = .host ∧ a < 0x8000 ∧ m.busy = true),
    decide (who = .host ∧ a < 0x8000 ∧ m.busy = false),
    decide (who = .host ∧ a = 0xC000 ∧ v.getLsbD 0 = true),
    decide (who = .host ∧ a = 0xC008 ∧ v.getLsbD 0 = true),
    decide (who = .host ∧ ((a = 0xC000 ∨ a = 0xC008) ∧ v.getLsbD 0 = false ∨ (0x8000 ≤ a ∧ a < 0xE000 ∧ a ≠ 0xC000 ∧ a ≠ 0xC008) ∨ 0xE200 ≤ a)),
    decide (who = .host ∧ table)]

theorem witness_RegisterFields :
    let at_ (s : State) (w : Prin) (a : Nat) (v : Word) : List Bool :=
      match famOf a with
      | some (f, is, _) => preRegisterFields s w (BitVec.ofNat 24 a) v f is
      | none => preRegisterFields s w (BitVec.ofNat 24 a) v ⟨0, [], 0, 0, 0, 0, 0, 0, 0, false, .none⟩ []
    let busy : State := { tOn with mbx := { tOn.mbx with busy := true } }
    covered [at_ tOn .warden (PRM_CFG 0 3) 5, at_ tOn .warden (SA_PN_LIMIT 77 1) 5, at_ tOn .warden (SA_PN_LIMIT 77 1 + 4) 5, at_ tOn .warden 0x480000 5, at_ tOn .warden 3 5,
      at_ busy .host 0 1, at_ tOn .host 0 1, at_ tOn .host 0xC000 1, at_ tOn .host 0xC008 1, at_ tOn .host 0xC000 0, at_ tOn .host 0xE00C 1] = true := by decide +kernel

/-- Which premises of the clauses of `RegisterCommands` hold. -/
def preRegisterCommands (s : State) (v : Word) (p : PortId) (q : QuadId) (c : ClId) (g : CoreId) (n : R3) (ch : R4) (r : Fin 12) (sa : BitVec 12) (src : EvSrc) (o : BitVec 24) : List Bool :=
  let on (a : Nat) : Bool := decide (s.blockOn a = true)
  let b (i : Nat) : Bool := v.getLsbD i
  let a := o.toNat
  let rc := ROT_CORE (g.val / 8) (g.val % 8)
  let st := s.rotState g
  let fences : Bool := decide (st ≠ 5 ∧ st ≠ 6)
  [decide (a = PORT_CFG 0 p ∧ s.portOn 0 p = false ∧ b 31 = true),
    decide (a = PORT_CFG 1 p ∧ s.portOn 1 p = true ∧ b 31 = false),
    decide (a = PORT_CFG 1 p ∧ s.portOn 1 p = true ∧ b 31 = true),
    decide (a = QUAD_CTL 0 q),
    decide (a = LANE_CFG 0 p ∧ b 31 = false ∧ b 30 = false),
    decide (a = LANE_CFG 0 p ∧ b 31 = true ∧ b 30 = false),
    decide (a = LANE_CFG 0 p ∧ b 31 = false ∧ b 30 = true),
    decide (a = ROT_CTL c ∧ on a ∧ v.fld ROT_CTL_FORCE = 1 ∧ v.fld ROT_CTL_STEP_NOW = 0),
    decide (a = ROT_CTL c ∧ on a ∧ v.fld ROT_CTL_STEP_NOW = 1),
    decide (a = 0x430008),
    decide (a = SA_NEXT_PN sa.toNat 1 ∧ s.hold.get none 96 = some (a, BitVec.ofNat 32 ch.toNat)),
    decide (a = CLK_CTL ∧ v.fld CLK_CTL_WARM_REQ = 0 ∧ v.fld CLK_CTL_REF_SEL = s.fld CLK_CTL CLK_CTL_REF_SEL ∧ v.fld CLK_CTL_PLL_SEL = s.fld CLK_CTL CLK_CTL_PLL_SEL),
    decide (a = CAON_WAKE (g.val / 8) (g.val % 8) n.toNat ∧ on a),
    decide (a = DMA_CTL c ch.toNat ∧ on a ∧ v = ((s.rd a).setFld DMA_CTL_EN 1).setFld DMA_CTL_ABORT 0),
    decide (a = DMA_DREQ c ch.toNat ∧ on a ∧ b 0 = true),
    decide (a = CLINK_POOL c),
    decide (a = CLINK_CTL c),
    decide (a = ZTF_CTL p),
    decide (a = SA_KEY sa.toNat),
    decide (a = COST_CTL ∧ v = 1),
    decide (a = COST_CTL ∧ v = 8),
    decide (a = TINT_CTL),
    decide (evExists src = true ∧ a = srcAddr (evKey src) 0 ∧ on a),
    decide (evExists src = true ∧ a = srcAddr (evKey src) 3 ∧ on a ∧ v = 1),
    decide (evExists src = true ∧ a = srcAddr (evKey src) 3 ∧ on a ∧ v = 2),
    decide (a = PWR_CMD ∧ b 31 = true ∧ b 30 = false),
    decide (a = PWR_CMD ∧ b 31 = true ∧ b 30 = true),
    decide (a = RING_CFG),
    decide (a = RPORT_CTL 1),
    decide (a = DUST_CTL),
    decide (a = ARB_PRI c r ∧ on a),
    decide (a = MREP c n.toNat ∧ on a),
    decide (a = DMA_QPTR c ch.toNat ∧ on a),
    decide (a = rc ∧ on a ∧ v = BitVec.ofNat 32 (2 ^ ROT_CORE_RELEASE.lo)),
    decide (a = rc ∧ on a ∧ v = BitVec.ofNat 32 (5 * 2 ^ ROT_CORE_STATE.lo) ∧ fences),
    decide (a = TAMPER_CTL),
    decide (a = COST 1 5 ∧ s.flag (COST_STAT 1) COST_STAT_VALID = true),
    decide (a = COST 1 5 ∧ s.flag (COST_STAT 1) COST_STAT_VALID = false),
    decide (a = ZTF_TAG p ∧ s.portOn 1 p = true)]

theorem witness_RegisterCommands :
    let src : EvSrc := .shared 1 40
    let at_ (s : State) (a : Nat) (v : Word) : List Bool := preRegisterCommands s v 3 2 1 11 5 9 11 77 src (BitVec.ofNat 24 a)
    let s : State := { tOn.wr (COST_STAT 1) 0x80000000 with hold := [(96, some (SA_NEXT_PN 77 1, 9))] }
    let off : State := (s.wr (PORT_CFG 0 3) 0).wr (COST_STAT 1) 0
    let live : State := s.wr (PORT_CFG 1 3) 0x80000000
    covered [at_ off (PORT_CFG 0 3) 0x80000000, at_ live (PORT_CFG 1 3) 0, at_ live (PORT_CFG 1 3) 0x80000000, at_ s (QUAD_CTL 0 2) 0, at_ s (LANE_CFG 0 3) 0,
      at_ s (LANE_CFG 0 3) 0x80000000, at_ s (LANE_CFG 0 3) 0x40000000, at_ s (ROT_CTL 1) ((0 : Word).setFld ROT_CTL_FORCE 1), at_ s (ROT_CTL 1) ((0 : Word).setFld ROT_CTL_STEP_NOW 1),
      at_ s 0x430008 0, at_ s (SA_NEXT_PN 77 1) 0, at_ s CLK_CTL ((s.rd CLK_CTL).setFld CLK_CTL_WARM_REQ 0), at_ s (CAON_WAKE 1 3 5) 0,
      at_ s (DMA_CTL 1 9) (((s.rd (DMA_CTL 1 9)).setFld DMA_CTL_EN 1).setFld DMA_CTL_ABORT 0), at_ s (DMA_DREQ 1 9) 1, at_ s (CLINK_POOL 1) 0, at_ s (CLINK_CTL 1) 0, at_ s (ZTF_CTL 3) 0,
      at_ s (SA_KEY 77) 0, at_ s COST_CTL 1, at_ s COST_CTL 8, at_ s TINT_CTL 0, at_ s (srcAddr (evKey src) 0) 0, at_ s (srcAddr (evKey src) 3) 1, at_ s (srcAddr (evKey src) 3) 2,
      at_ s PWR_CMD 0x80000000, at_ s PWR_CMD 0xC0000000, at_ s RING_CFG 0, at_ s (RPORT_CTL 1) 0, at_ s DUST_CTL 0, at_ s (ARB_PRI 1 11) 0, at_ s (MREP 1 5) 0, at_ s (DMA_QPTR 1 9) 0,
      at_ s (ROT_CORE 1 3) (BitVec.ofNat 32 (2 ^ ROT_CORE_RELEASE.lo)), at_ s (ROT_CORE 1 3) (BitVec.ofNat 32 (5 * 2 ^ ROT_CORE_STATE.lo)), at_ s TAMPER_CTL 0,
      at_ s (COST 1 5) 0, at_ off (COST 1 5) 0, at_ live (ZTF_TAG 3) 0] = true := by decide +kernel

/-- Which premises of the clauses of `RefusedCommands` hold. -/
def preRefusedCommands (s : State) (who : Prin) (sd : Side) (c : ClId) (p : PortId) (ch : R4) (v : Word) (i : BitVec 8) (b : Bool) (g : CoreId) : List Bool :=
  let dep : Bool := s.lcState == 2
  let on (a : Nat) : Bool := decide (s.blockOn a = true)
  let off (a : Nat) : Bool := decide (s.blockOn a = false)
  let barred : Bool := decide (who = .host ∧ s.flag PRIN_CTL PRIN_CTL_HOST_CFG = false)
  let wdn : Bool := decide (who = .host ∨ (who = .lens ∧ dep = false))
  let shut : Bool := decide (who = .lens ∧ dep = true)
  let noDma : Bool := decide (who = .host ∧ (s.flag PRIN_CTL PRIN_CTL_HOST_CFG = false ∨ s.flag PRIN_CTL PRIN_CTL_HOST_DMA = false))
  let alien : Bool := decide ((s.core g).run = true ∧ ((s.core g).pl = 0 ∨ g.val / 8 ≠ c.val))
  let src : EvSrc := .shared c i
  [decide ((barred ∨ shut)),
    decide ((wdn ∨ shut)),
    decide ((barred ∨ shut) ∧ on (PRISM_LOCKR (sideN sd))),
    decide ((barred ∨ shut) ∧ on (RSQ_LOCKR (sideN sd))),
    decide ((barred ∨ shut) ∧ evExists src = true ∧ on (srcAddr (evKey src) 0)),
    decide ((noDma ∨ shut) ∧ on (DMA_CTL c ch.toNat)),
    decide (wdn),
    decide (who = .smbus),
    decide (who = .smbus ∧ on (ERRQ_POPR c 0)),
    decide (alien ∧ on (DMA_CTL c ch.toNat)),
    decide ((s.core g).run = true),
    decide (off (PRISM_LOCKR (sideN sd))),
    decide (off (RSQ_LOCKR (sideN sd))),
    decide (off (DMA_CTL c ch.toNat)),
    decide (off (DMA_CTL c ch.toNat) ∧ evExists src = true)]

theorem witness_RefusedCommands :
    let at_ (s : State) (who : Prin) : List Bool := preRefusedCommands s who .red 1 3 9 0 40 true 9
    let core (s : State) (pl : Nat) : State := s.setCore 9 (tCore pl)
    let off : State := [97, 120, 121].foldl (fun s d => s.setDomain d 0) tOn
    covered [at_ (tOn.wr PRIN_CTL 0) .host, at_ tOn .lens, at_ (tLife 3 tOn) .lens, at_ tOn .smbus, at_ (core tOn 0) .warden, at_ (core tOn 1) .warden, at_ off .host,
      at_ tUp .warden] = true := by decide +kernel

/-! Witnesses: the whole block. -/

/-- A block with memory in use, a frame at core 9, and two commands that wait. -/
def tBlock : State :=
  { (tState (tCore 0)) with warden := { State.reset.warden with dmem := State.reset.warden.dmem.store 8 [7] .clean },
                            frames := [(2, { Frame.none with atCore := true, core := 9 })],
                            pending := [.trngRecover, .nop 3 .s0] }

theorem witness_StepRunsTheFrontCommand :
    tBlock.pending = .trngRecover :: [.nop 3 .s0] ∧ (tBlock.pending = [] → False) ∧ State.reset.pending = [] := by
  decide +kernel

/-- A step from a state that meets the premise answers a next state. -/
def tSteps (s : State) : Bool :=
  match step s with
  | .next t => t.pending.length + 1 == s.pending.length
  | .fault _ => false
  | .refused _ => false

theorem witness_MemoriesStayCanonical :
    ((∀ g : Nat, (tBlock.core g).dmem.wf = true ∧ SMap.wf 0 (tBlock.core g).imem = true) ∧
      (∀ c : Nat, (tBlock.clu c).cmem.wf = true) ∧ tBlock.warden.dmem.wf = true) ∧ tSteps tBlock = true := by
  refine ⟨⟨?_, fun _ => rfl, by decide +kernel⟩, by decide +kernel⟩
  intro g
  have h : tBlock.core g = if g < 3 then Core.reset else if g = 3 then tBlock.core 3 else Core.reset := rfl
  rw [h]
  split
  · decide +kernel
  · split <;> decide +kernel

theorem witness_RegistersStayCanonical : (tUp.regsWf && tSteps { tUp with pending := [.trngRecover] }) = true := by decide +kernel

theorem witness_FramesStayInRange : (tBlock.framesInRange && tSteps tBlock) = true := by decide +kernel

theorem witness_FusesOnlyBurn :
    (tBlock.warden.lcTarget = none ∧ tSteps tBlock = true) ∧
    (let s : State := { tUp with fuses := { tUp.fuses with lc := 1 } }
     tReady (tMail s (tCmd 0x34 0 [])) 0x34 0 (tCmd 0x34 0 []) = true ∧ s.lcState = 1) ∧
    (let s : State := { tUp with fuses := { tUp.fuses with lc := 3 } }
     tReady (tMail s (tCmd 0x34 0 [])) 0x34 0 (tCmd 0x34 0 []) = true ∧ s.lcState = 2) := by decide +kernel

/-! Terms that are no command: one for each check of `Instr.wf`. -/

theorem test_wf_rxCell : (Instr.rxCell .red 0 [1, 2, 3]).wf = false ∧ (Instr.rxCell .red 0 (List.replicate 256 1)).wf = true := by decide +kernel
theorem test_wf_rxFrameEnd : (Instr.rxFrameEnd .red 0 (List.replicate 257 1) false).wf = false := by decide +kernel
theorem test_wf_puttyJob : (Instr.puttyJob 0 4).wf = false ∧ (Instr.puttyJob 0 3).wf = true := by decide +kernel
theorem test_wf_cmemBeatGrant : (Instr.cmemBeatGrant 0 [⟨3, 0, true⟩, ⟨3, 1, true⟩]).wf = false := by decide +kernel
theorem test_wf_supplyDroop : (Instr.supplyDroop 7).wf = false := by decide +kernel
theorem test_wf_brownOut : (Instr.brownOut 6).wf = false := by decide +kernel
theorem test_wf_thermalSample : (Instr.thermalSample [1]).wf = false := by decide +kernel
theorem test_wf_ringHandshake : (Instr.ringHandshake .east 1 [[1]]).wf = false := by decide +kernel
theorem test_wf_ringSpill :
    (Instr.ringSpill .east (tHdr 2 5 3 false) ⟨false, 5, false, 0, 3, 0, 9, 80, 112, 55, 8⟩ [1] [true]).wf = false := by decide +kernel
theorem test_wf_ringSpillResult :
    (Instr.ringSpillResult .east (tHdr 2 5 3 false) ⟨false, 5, false, 0, 3, 0, 9, 80, 112, 55, 8⟩ [1] [true]).wf = false := by decide +kernel
theorem test_wf_ringRepl :
    (Instr.ringRepl .east (tHdr 2 5 3 false) ⟨5, 4, false, false, 1, true, true, 999, 44, some [1]⟩).wf = false := by decide +kernel
theorem test_wf_ringForward : (Instr.ringForward .east (tHdr 2 5 3 false) (.handshake 3 [])).wf = false := by decide +kernel
theorem test_wf_apertureAccess :
    (Instr.apertureAccess .host 0 0 none).wf = false ∧ (Instr.apertureAccess .host 0 4097 none).wf = false := by decide +kernel
theorem test_wf_smbTherm : (Instr.smbTherm 24).wf = false ∧ (Instr.smbTherm 23).wf = true := by decide +kernel

end
end

section
/-! SUPPORT. What a write leaves in a sparse map. -/

namespace Sys2Proof

variable {α : Type}

theorem SMap.mem_of_mem_insert {k : Nat} {v : α} {m : SMap α} {e : Nat × α} (h : e ∈ SMap.insert k v m) :
    e = (k, v) ∨ e ∈ m := by
  induction m with
  | nil => simpa [SMap.insert] using h
  | cons x m ih =>
    obtain ⟨k', v'⟩ := x
    simp only [SMap.insert] at h
    split at h
    · simpa using h
    · split at h
      · exact (List.mem_cons.1 h).imp_right (List.mem_cons_of_mem _)
      · rcases List.mem_cons.1 h with h | h
        · exact .inr (h ▸ List.mem_cons_self)
        · exact (ih h).imp_right (List.mem_cons_of_mem _)

theorem SMap.mem_of_mem_erase {k : Nat} {m : SMap α} {e : Nat × α} (h : e ∈ SMap.erase k m) : e ∈ m := by
  induction m with
  | nil => simp [SMap.erase] at h
  | cons x m ih =>
    obtain ⟨k', v'⟩ := x
    simp only [SMap.erase] at h
    split at h
    · exact h
    · split at h
      · exact List.mem_cons_of_mem _ (List.mem_filter.1 h).1
      · rcases List.mem_cons.1 h with h | h
        · exact h ▸ List.mem_cons_self
        · exact List.mem_cons_of_mem _ (ih h)

end Sys2Proof
end

section
/-! SUPPORT. Every operation of the block keeps the register map canonical: each changes it by writes of single registers
alone, but for the resets, which filter or empty it. One lemma for each operation over the state, in the model's order;
each is proved from the lemmas of the operations that it calls. -/

namespace Sys2Proof.Machine
open Sys2Proof

/-- A canonical register map: offsets rise strictly, and no word is listed at its reset value. -/
def RegsOk (m : SMap (Option Word)) : Prop := SMap.wf none m = true ∧ ∀ e ∈ m, e.2 ≠ some (rstWord e.1)

theorem State.regsWf_iff (s : State) : s.regsWf = true ↔ RegsOk s.regs := by
  simp [State.regsWf, RegsOk]

theorem RegsOk.nil : RegsOk [] := ⟨rfl, fun _ h => absurd h List.not_mem_nil⟩

theorem RegsOk.filter {m : SMap (Option Word)} (p : Nat × Option Word → Bool) (h : RegsOk m) : RegsOk (m.filter p) :=
  ⟨SMap.wf_filter none p m h.1, fun e he => h.2 e (List.mem_filter.1 he).1⟩

variable {s : State}

/-- A write lists a word only when it is not the reset value. -/
theorem RegsOk.wr (off : Nat) (w : Word) (h : RegsOk s.regs) : RegsOk (s.wr off w).regs := by
  refine ⟨SMap.wf_set none _ s.regs off h.1, fun e he => ?_⟩
  simp only [State.wr, SMap.set] at he
  split at he
  · exact h.2 e (SMap.mem_of_mem_erase he)
  · next hw =>
    rcases SMap.mem_of_mem_insert he with rfl | he
    · simp_all
    · exact h.2 e he

/-- A fold over values that hold a state. -/
theorem RegsOk.foldlBy {α β : Type} (p : β → State) (f : β → α → β) (l : List α)
    (hf : ∀ b x, RegsOk (p b).regs → RegsOk (p (f b x)).regs) (b : β) (h : RegsOk (p b).regs) :
    RegsOk (p (l.foldl f b)).regs := by
  induction l generalizing b with
  | nil => exact h
  | cons x l ih => exact ih _ (hf _ _ h)

theorem RegsOk.foldl {α : Type} (f : State → α → State) (l : List α)
    (hf : ∀ s x, RegsOk s.regs → RegsOk (f s x).regs) (h : RegsOk s.regs) : RegsOk (l.foldl f s).regs :=
  RegsOk.foldlBy id f l hf s h

theorem RegsOk.ite {c : Prop} [Decidable c] {a b : State} (ha : RegsOk a.regs) (hb : RegsOk b.regs) :
    RegsOk (if c then a else b).regs := by
  split
  · exact ha
  · exact hb

theorem RegsOk.setFld (off : Nat) (f : Fld) (n : Nat) (h : RegsOk s.regs) : RegsOk (s.setFld off f n).regs :=
  h.wr _ _

theorem RegsOk.setFlag (off : Nat) (f : Fld) (b : Bool) (h : RegsOk s.regs) : RegsOk (s.setFlag off f b).regs :=
  h.setFld _ _ _

theorem RegsOk.wr64 (off v : Nat) (h : RegsOk s.regs) : RegsOk (s.wr64 off v).regs := (h.wr _ _).wr _ _

theorem RegsOk.add64 (off n : Nat) (h : RegsOk s.regs) : RegsOk (s.add64 off n).regs := h.wr64 _ _

theorem RegsOk.inc64 (off : Nat) (h : RegsOk s.regs) : RegsOk (s.inc64 off).regs := h.add64 _ _

theorem RegsOk.inc32 (off : Nat) (h : RegsOk s.regs) : RegsOk (s.inc32 off).regs := h.wr _ _

theorem RegsOk.incSat (off : Nat) (f : Fld) (h : RegsOk s.regs) : RegsOk (s.incSat off f).regs := h.setFld _ _ _

theorem RegsOk.pwr (off : Nat) (w : Word) (h : RegsOk s.regs) : RegsOk (s.pwr off w).regs := by
  unfold State.pwr
  grind [RegsOk.wr]

theorem RegsOk.pwr64 (off v : Nat) (h : RegsOk s.regs) : RegsOk (s.pwr64 off v).regs := (h.pwr _ _).pwr _ _

theorem RegsOk.logWrite (off : Nat) (h : RegsOk s.regs) : RegsOk (s.logWrite off).regs := by
  unfold State.logWrite
  grind

theorem RegsOk.setCore (g : Nat) (c : Core) (h : RegsOk s.regs) : RegsOk (s.setCore g c).regs := h

theorem RegsOk.setClu (c : Nat) (x : Cluster) (h : RegsOk s.regs) : RegsOk (s.setClu c x).regs := h

theorem RegsOk.setFrame (f : Nat) (x : Frame) (h : RegsOk s.regs) : RegsOk (s.setFrame f x).regs := h

theorem RegsOk.setRx (k : Nat) (x : Rx) (h : RegsOk s.regs) : RegsOk (s.setRx k x).regs := h

theorem RegsOk.setEgr (k : Nat) (x : Egress) (h : RegsOk s.regs) : RegsOk (s.setEgr k x).regs := h

theorem RegsOk.setLink (k : Nat) (x : Link) (h : RegsOk s.regs) : RegsOk (s.setLink k x).regs := h

theorem RegsOk.setRot (g : Nat) (x : Rot) (h : RegsOk s.regs) : RegsOk (s.setRot g x).regs := h

theorem RegsOk.emit (o : Out) (h : RegsOk s.regs) : RegsOk (s.emit o).regs := h

theorem RegsOk.setSrc (k : Nat) (x : Src) (h : RegsOk s.regs) : RegsOk (s.setSrc k x).regs := h

theorem RegsOk.msixSend (v : Nat) (h : RegsOk s.regs) : RegsOk (s.msixSend v).regs := by
  unfold State.msixSend
  grind [RegsOk.emit]

theorem RegsOk.msixRise (v : Nat) (h : RegsOk s.regs) : RegsOk (s.msixRise v).regs := by
  unfold State.msixRise
  grind [RegsOk.msixSend]

theorem RegsOk.devRise (i : Nat) (h : RegsOk s.regs) : RegsOk (s.devRise i).regs := by
  unfold State.devRise
  grind [RegsOk.foldl, RegsOk.msixRise]

theorem RegsOk.raiseDev (i : Nat) (h : RegsOk s.regs) : RegsOk (s.raiseDev i).regs := (h.setSrc _ _).devRise _

theorem RegsOk.evtSet (evt en src : Nat) (f : Fld) (h : RegsOk s.regs) : RegsOk (s.evtSet evt en src f).regs :=
  .ite ((h.setFlag _ _ _).devRise _) (h.setFlag _ _ _)

theorem RegsOk.fallback (c i : Nat) (h : RegsOk s.regs) : RegsOk (s.fallback c i).regs :=
  .ite h (((RegsOk.ite ((h.setSrc _ _).inc64 _) (h.setSrc _ _)).wr _ _).raiseDev _)

theorem RegsOk.raise (k : Nat) (h : RegsOk s.regs) : RegsOk (s.raise k).regs :=
  .ite (h.raiseDev _) (.ite ((h.setSrc _ _).fallback _ _) (h.setSrc _ _))

theorem RegsOk.raisePriv (g i : Nat) (h : RegsOk s.regs) : RegsOk (s.raisePriv g i).regs := h.raise _

theorem RegsOk.raiseShared (c i : Nat) (h : RegsOk s.regs) : RegsOk (s.raiseShared c i).regs := h.raise _

theorem RegsOk.closeKeOf (g : Nat) (h : RegsOk s.regs) : RegsOk (s.closeKeOf g).regs := by
  unfold State.closeKeOf
  grind

theorem RegsOk.faultStat (f : Fld) (h : RegsOk s.regs) : RegsOk (s.faultStat f).regs := h.setFlag _ _ _

theorem RegsOk.pushDev (r : ErrRec) (h : RegsOk s.regs) : RegsOk (s.pushDev r).regs := by
  unfold State.pushDev
  extract_lets p any rise r1 r2 r3 s1 s2 s3 s4
  have h2 : RegsOk s2.regs := .ite (.faultStat _ (.setFlag _ _ _ (.inc64 _ h))) h
  have h3 : RegsOk s3.regs := .ite (h2.devRise _) h2
  have h4 : RegsOk s4.regs := .ite (h3.devRise _) h3
  exact .ite (h4.devRise _) h4

theorem RegsOk.pushCl (c : Nat) (r : ErrRec) (h : RegsOk s.regs) : RegsOk (s.pushCl c r).regs :=
  .ite ((((h.setClu _ _).inc64 _).setFlag _ _ _).faultStat _) (h.setClu _ _)

theorem RegsOk.record (c : Option Nat) (cls action kind index : Nat) (info0 info1 : Word) (h : RegsOk s.regs) :
    RegsOk (s.record c cls action kind index info0 info1).regs := by
  unfold State.record
  grind [RegsOk.faultStat, RegsOk.pushCl, RegsOk.pushDev]

theorem RegsOk.recordMs (c : Option Nat) (cls action kind index unit : Nat) (info0 info1 : Word) (h
    : RegsOk s.regs) : RegsOk (s.recordMs c cls action kind index unit info0 info1).regs := by
  unfold State.recordMs
  grind [RegsOk.record]

theorem RegsOk.coreMemErr (g mem : Nat) (ue : Bool) (addr : Word) (h : RegsOk s.regs) :
    RegsOk (s.coreMemErr g mem ue addr).regs := by
  unfold State.coreMemErr
  grind [RegsOk.inc64, RegsOk.setFlag, RegsOk.record, RegsOk.recordMs]

theorem RegsOk.cmemErr (c : Nat) (ue : Bool) (off : Nat) (h : RegsOk s.regs) :
    RegsOk (s.cmemErr c ue off).regs := by
  unfold State.cmemErr
  grind [RegsOk.inc64, RegsOk.setFlag, RegsOk.wr, RegsOk.record, RegsOk.recordMs]

theorem RegsOk.skbErr (c : Nat) (ue : Bool) (idx : Nat) (h : RegsOk s.regs) :
    RegsOk (s.skbErr c ue idx).regs := by
  unfold State.skbErr
  grind [RegsOk.inc64, RegsOk.setFlag, RegsOk.record, RegsOk.recordMs]

theorem RegsOk.setDomain (d n : Nat) (h : RegsOk s.regs) : RegsOk (s.setDomain d n).regs := h.wr _ _

theorem RegsOk.pushRecord (c : Option Nat) (r : ErrRec) (h : RegsOk s.regs) :
    RegsOk (s.pushRecord c r).regs := by
  unfold State.pushRecord
  grind [RegsOk.faultStat, RegsOk.pushCl, RegsOk.pushDev]

theorem RegsOk.dmaStop (cause : Nat) (hold : Bool) (test : Nat → DmaRun → Bool) (h : RegsOk s.regs) :
    RegsOk (s.dmaStop cause hold test).regs := by
  unfold State.dmaStop
  grind [RegsOk.foldl, RegsOk.setFlag]

theorem RegsOk.dmaHold (d : Nat) (h : RegsOk s.regs) : RegsOk (s.dmaHold d).regs := h.dmaStop _ _ _

theorem RegsOk.pwrResult (c : PwrCmd) (result : Nat) (h : RegsOk s.regs) :
    RegsOk (s.pwrResult c result).regs := by
  unfold State.pwrResult
  grind [RegsOk.setFld, RegsOk.setFlag, RegsOk.raiseDev, RegsOk.pushRecord]

theorem RegsOk.pwrBegin (l : List PwrCmd) (h : RegsOk s.regs) : RegsOk (s.pwrBegin l).regs := by
  induction l generalizing s with
  | nil => exact h
  | cons c l ih =>
    unfold State.pwrBegin
    grind [RegsOk.pwrResult, RegsOk.setFlag, RegsOk.setFld, RegsOk.setDomain, RegsOk.dmaHold]

theorem RegsOk.pwrAdd (c : PwrCmd) (h : RegsOk s.regs) : RegsOk (s.pwrAdd c).regs := by
  unfold State.pwrAdd
  grind [RegsOk.pwrBegin]

theorem RegsOk.pwrEnd (result dom : Nat) (h : RegsOk s.regs) : RegsOk (s.pwrEnd result dom).regs := by
  unfold State.pwrEnd
  grind [RegsOk.pwrBegin, RegsOk.pwrResult, RegsOk.setDomain]

theorem RegsOk.sheetOff (d : Nat) (note : Option (Option Nat × ErrRec)) (h : RegsOk s.regs) :
    RegsOk (s.sheetOff d note).regs := h.pwrAdd _

theorem RegsOk.ledger (side p k : Nat) (h : RegsOk s.regs) : RegsOk (s.ledger side p k).regs := h.inc64 _

theorem RegsOk.inflight (side p : Nat) (up : Bool) (h : RegsOk s.regs) : RegsOk (s.inflight side p up).regs :=
  h.wr _ _

theorem RegsOk.prune (f : Nat) (h : RegsOk s.regs) : RegsOk (s.prune f).regs := .ite (h.setFrame _ _) h

theorem RegsOk.saCount (sa k : Nat) (h : RegsOk s.regs) : RegsOk (s.saCount sa k).regs := h.inc64 _

theorem RegsOk.unrelease (f : Nat) (h : RegsOk s.regs) : RegsOk (s.unrelease f).regs := .ite (h.setEgr _ _) h

theorem RegsOk.ledgerDrop (x : Frame) (code : Nat) (h : RegsOk s.regs) : RegsOk (s.ledgerDrop x code).regs := by
  unfold State.ledgerDrop
  grind [RegsOk.ledger, RegsOk.inc64, RegsOk.wr64, RegsOk.inflight]

theorem RegsOk.drop (f code : Nat) (h : RegsOk s.regs) : RegsOk (s.drop f code).regs := by
  unfold State.drop
  grind [RegsOk.ledgerDrop, RegsOk.saCount, RegsOk.unrelease, RegsOk.prune, RegsOk.setFrame]

theorem RegsOk.setTfree (g : Nat) (w : Word) (h : RegsOk s.regs) : RegsOk (s.setTfree g w).regs := h

theorem RegsOk.lose (f : Nat) (h : RegsOk s.regs) : RegsOk (s.lose f).regs :=
  .ite (((h.drop _ _).setFrame _ _).prune _) (h.drop _ _)

theorem RegsOk.coreLost (g : Nat) (h : RegsOk s.regs) : RegsOk (s.coreLost g).regs := by
  unfold State.coreLost
  grind [RegsOk.foldl, RegsOk.lose, RegsOk.setTfree, RegsOk.setCore]

theorem RegsOk.fallbackAll (c : Nat) (h : RegsOk s.regs) : RegsOk (s.fallbackAll c).regs := by
  unfold State.fallbackAll
  grind [RegsOk.foldl, RegsOk.fallback]

theorem RegsOk.evcRelease (g : Nat) (h : RegsOk s.regs) : RegsOk (s.evcRelease g).regs := by
  unfold State.evcRelease
  grind [RegsOk.foldl, RegsOk.setSrc, RegsOk.setCore]

theorem RegsOk.evcBankReset (g : Nat) (h : RegsOk s.regs) : RegsOk (s.evcBankReset g).regs := by
  unfold State.evcBankReset
  grind [RegsOk.foldl, RegsOk.wr, RegsOk.setSrc]

theorem RegsOk.performBeats (c : Nat) (h : RegsOk s.regs) : RegsOk (s.performBeats c).regs := by
  unfold State.performBeats
  grind [RegsOk.foldl, RegsOk.setClu, RegsOk.setCore]

theorem RegsOk.withdraw (g : Nat) (h : RegsOk s.regs) : RegsOk (s.withdraw g).regs := by
  unfold State.withdraw
  grind [RegsOk.foldl, RegsOk.performBeats, RegsOk.inc64, RegsOk.setClu, RegsOk.setCore]

theorem RegsOk.unlock (g : Nat) (h : RegsOk s.regs) : RegsOk (s.unlock g).regs := h.setClu _ _

theorem RegsOk.dropCaptures (key : Nat) (h : RegsOk s.regs) : RegsOk (s.dropCaptures key).regs := h

theorem RegsOk.resetCore (g sub : Nat) (h : RegsOk s.regs) : RegsOk (s.resetCore g sub).regs := by
  unfold State.resetCore
  grind [RegsOk.dropCaptures, RegsOk.coreLost, RegsOk.evcBankReset, RegsOk.evcRelease, RegsOk.withdraw,
    RegsOk.unlock, RegsOk.setCore]

theorem RegsOk.toRot (g st : Nat) (h : RegsOk s.regs) : RegsOk (s.toRot g st).regs :=
  (h.setFld _ _ _).setRot _ _

theorem RegsOk.promoteSpare (c : Nat) (h : RegsOk s.regs) : RegsOk (s.promoteSpare c).regs := by
  unfold State.promoteSpare
  grind [RegsOk.toRot, RegsOk.closeKeOf, RegsOk.setRot]

theorem RegsOk.unuseCore (g st : Nat) (h : RegsOk s.regs) : RegsOk (s.unuseCore g st).regs := by
  unfold State.unuseCore
  grind [RegsOk.closeKeOf, RegsOk.coreLost, RegsOk.evcRelease, RegsOk.withdraw, RegsOk.unlock, RegsOk.setCore,
    RegsOk.toRot, RegsOk.faultStat, RegsOk.fallbackAll, RegsOk.promoteSpare]

theorem RegsOk.fenceCore (g st cls : Nat) (info0 info1 : Word) (h : RegsOk s.regs) :
    RegsOk (s.fenceCore g st cls info0 info1).regs := (h.unuseCore _ _).sheetOff _ _

theorem RegsOk.puttyLost (c : Nat) (h : RegsOk s.regs) : RegsOk (s.puttyLost c).regs := by
  unfold State.puttyLost
  grind [RegsOk.foldl, RegsOk.setEgr]

theorem RegsOk.clearLink (c : Nat) (h : RegsOk s.regs) : RegsOk (s.clearLink c).regs :=
  (((h.setLink _ _).setLink _ _).setFld _ _ _).setFld _ _ _

theorem RegsOk.fenceCluster (c why : Nat) (note : Option ErrRec) (h : RegsOk s.regs) :
    RegsOk (s.fenceCluster c why note).regs := by
  unfold State.fenceCluster
  grind [RegsOk.foldl, RegsOk.setClu, RegsOk.sheetOff, RegsOk.unuseCore]

theorem RegsOk.linkLost (c : Nat) (h : RegsOk s.regs) : RegsOk (s.linkLost c).regs := by
  unfold State.linkLost
  grind [RegsOk.foldl, RegsOk.puttyLost, RegsOk.lose, RegsOk.prune, RegsOk.setFrame, RegsOk.coreLost,
    RegsOk.clearLink]

theorem RegsOk.fenceLink (c cause : Nat) (h : RegsOk s.regs) : RegsOk (s.fenceLink c cause).regs := by
  unfold State.fenceLink
  grind [RegsOk.setFld, RegsOk.setFlag, RegsOk.linkLost, RegsOk.setClu, RegsOk.raiseShared, RegsOk.record,
    RegsOk.fenceCluster]

theorem RegsOk.upTo (t : Nat) (h : RegsOk s.regs) : RegsOk (s.upTo t).regs := h

theorem RegsOk.putCore (g : Nat) (c : Core) (h : RegsOk s.regs) : RegsOk (s.putCore g c).regs :=
  (RegsOk.ite (.ite h (h.add64 _ _)) ((RegsOk.ite h (h.add64 _ _)).add64 _ _)).setCore _ _

theorem RegsOk.keeperAbort (g : Nat) (code : Nat) (h : RegsOk s.regs) : RegsOk (s.keeperAbort g code).regs :=
  (h.setCore _ _).record _ _ _ _ _ _ _

theorem RegsOk.thirdFault (g : Nat) (x : Accept) (h : RegsOk s.regs) : RegsOk (s.thirdFault g x).regs :=
  (h.fenceCore _ _ _ _ _).resetCore _ _

theorem RegsOk.doubleFault (g : Nat) (x : Accept) (badTsb : Bool) (h : RegsOk s.regs) :
    RegsOk (s.doubleFault g x badTsb).regs := .ite (h.thirdFault _ _) ((h.setCore _ _).record _ _ _ _ _ _ _)

theorem RegsOk.enterTsb (g : Nat) (x : Accept) (h : RegsOk s.regs) : RegsOk (s.enterTsb g x).regs :=
  h.putCore _ _

theorem RegsOk.enter (g : Nat) (x : Accept) (h : RegsOk s.regs) : RegsOk (s.enter g x).regs := by
  unfold State.enter
  grind [RegsOk.unlock, RegsOk.setCore, RegsOk.keeperAbort, RegsOk.thirdFault, RegsOk.doubleFault,
    RegsOk.enterTsb]

theorem RegsOk.except (g code sub : Nat) (faddr : Option Word) (h : RegsOk s.regs) :
    RegsOk (s.except g code sub faddr).regs := h.enter _ _

theorem RegsOk.toBoundary (g : Nat) (h : RegsOk s.regs) : RegsOk (s.toBoundary g).regs := (h.upTo _).putCore _ _

theorem RegsOk.lensRefused (h : RegsOk s.regs) : RegsOk s.lensRefused.regs := h.raiseDev _

theorem RegsOk.accRefused (who : Prin) (off : Nat) (wr : Bool) (reason : Nat) (h : RegsOk s.regs) :
    RegsOk (s.accRefused who off wr reason).regs := by
  unfold State.accRefused
  grind [RegsOk.wr, RegsOk.wr64, RegsOk.evtSet, RegsOk.inc64, RegsOk.lensRefused, RegsOk.except]

theorem RegsOk.accUnavail (who : Prin) (h : RegsOk s.regs) : RegsOk (s.accUnavail who).regs :=
  .ite ((h.inc64 _).evtSet _ _ _ _) h

theorem RegsOk.guarded (who : Prin) (off : Nat) (act : State → State) (ha : RegsOk (act s).regs)
    (h : RegsOk s.regs) : RegsOk (s.guarded who off act).regs := by
  unfold State.guarded
  grind [RegsOk.accUnavail, RegsOk.accRefused]

theorem RegsOk.tintFault (g slot trig : Nat) (h : RegsOk s.regs) : RegsOk (s.tintFault g slot trig).regs :=
  ((h.setCore _ _).inc64 _).except _ _ _ _

theorem RegsOk.draw (h : RegsOk s.regs) : RegsOk s.draw.2.regs := h

theorem RegsOk.partStoreErr (g : Nat) (ea : Word) (size : Nat) (ecc : Ecc) (h : RegsOk s.regs) :
    RegsOk (s.partStoreErr g ea size ecc).regs := by
  unfold State.partStoreErr
  grind [RegsOk.coreMemErr, RegsOk.draw, RegsOk.setCore]

theorem RegsOk.dmemElem (g : Nat) (r : VRun) (i : Nat) (ecc : Ecc) (h : RegsOk s.regs) :
    RegsOk (s.dmemElem g r i ecc).regs := by
  unfold State.dmemElem
  grind [RegsOk.setCore, RegsOk.partStoreErr, RegsOk.draw, RegsOk.coreMemErr]

theorem RegsOk.stepRun (g : Nat) (ecc : Ecc) (first : Bool) (h : RegsOk s.regs) :
    RegsOk (s.stepRun g ecc first).regs := by
  unfold State.stepRun
  grind [RegsOk.setCore, RegsOk.except, RegsOk.upTo, RegsOk.dmemElem]

theorem RegsOk.evcEoi (g id : Nat) (h : RegsOk s.regs) : RegsOk (s.evcEoi g id).regs := by
  unfold State.evcEoi
  grind [RegsOk.setSrc, RegsOk.setCore, RegsOk.inc64]

theorem RegsOk.afterIssue (g : Nat) (c0 : Core) (ops : List (Slot × Op)) (h : RegsOk s.regs) :
    RegsOk (s.afterIssue g c0 ops).regs := by
  unfold State.afterIssue
  grind [RegsOk.foldl, RegsOk.evcEoi, RegsOk.unlock]

theorem RegsOk.issueOk (g : Nat) (b : Bundle) (data : Ecc) (h : RegsOk s.regs) :
    RegsOk (s.issueOk g b data).regs := by
  unfold State.issueOk
  grind [RegsOk.foldl, RegsOk.setCore, RegsOk.partStoreErr, RegsOk.afterIssue, RegsOk.stepRun]

theorem RegsOk.boundaryEntry {t : State} (g : Nat) (e : s.boundaryEntry g = some t) (h : RegsOk s.regs) :
    RegsOk t.regs := by
  unfold State.boundaryEntry at e
  grind [RegsOk.enter, RegsOk.except, RegsOk.setCore]

theorem RegsOk.issueAt (g : Nat) (alone : Option (Slot × Op)) (fetch data : Ecc) (h : RegsOk s.regs) :
    RegsOk (s.issueAt g alone fetch data).regs := by
  unfold State.issueAt
  extract_lets c e pc off b? own s1
  have hs : RegsOk s1.regs := .ite h (h.coreMemErr _ _ _ _)
  clear_value s1 own b?
  split
  · exact h.setCore _ _
  · refine .ite (h.except _ _ _ _) (.ite (h.except _ _ _ _) (.ite (hs.except _ _ _ _) ?_))
    split
    · exact hs.except _ _ _ _
    · extract_lets succ run retx
      refine .ite (hs.except _ _ _ _) (.ite (hs.setCore _ _) (.ite (hs.except _ _ _ _) ?_))
      clear_value retx
      split
      · exact hs.tintFault _ _ _
      · grind [RegsOk.except, RegsOk.setCore, RegsOk.tintFault, RegsOk.issueOk]

theorem RegsOk.issue (g : Nat) (alone : Option (Slot × Op)) (fetch data : Ecc) (h : RegsOk s.regs) :
    RegsOk (s.issue g alone fetch data).regs := by
  unfold State.issue
  grind [RegsOk.toBoundary, RegsOk.stepRun, RegsOk.boundaryEntry, RegsOk.issueAt]

theorem RegsOk.loadErr (g : Nat) (f : Flight) (a : Word) (ecc : Ecc) (h : RegsOk s.regs) :
    RegsOk (s.loadErr g f a ecc).1.regs := by
  unfold State.loadErr
  grind [RegsOk.coreMemErr, RegsOk.draw, RegsOk.setCore]

theorem RegsOk.accept (g : Nat) (h : RegsOk s.regs) : RegsOk (s.accept g).1.regs := by
  unfold State.accept
  grind [RegsOk.setSrc, RegsOk.setCore, RegsOk.inc64]

theorem RegsOk.wake (g why : Nat) (src : Option Nat) (h : RegsOk s.regs) : RegsOk (s.wake g why src).regs := by
  unfold State.wake
  grind [RegsOk.upTo, RegsOk.setCore, RegsOk.wr]

theorem RegsOk.prismWake (g : Nat) (h : RegsOk s.regs) : RegsOk (s.prismWake g).regs := by
  unfold State.prismWake
  grind [RegsOk.wake]

theorem RegsOk.retireCtx (c i err : Nat) (h : RegsOk s.regs) : RegsOk (s.retireCtx c i err).regs := by
  unfold State.retireCtx
  grind [RegsOk.foldl, RegsOk.setCore]

theorem RegsOk.lockWrite (g v : Nat) (h : RegsOk s.regs) : RegsOk (s.lockWrite g v).regs :=
  .ite ((h.setCore _ _).unlock _) (h.setCore _ _)

theorem RegsOk.arbGrant (c k : Nat) (p : Pres) (h : RegsOk s.regs) : RegsOk (s.arbGrant c k p).regs := by
  unfold State.arbGrant
  grind [RegsOk.inc64, RegsOk.setClu, RegsOk.setCore]

theorem RegsOk.arbBanks (c k : Nat) (ps : List Pres) (h : RegsOk s.regs) :
    RegsOk (s.arbBanks c k ps).1.regs := by
  unfold State.arbBanks
  generalize Sys2Proof.range 0 32 = l
  refine RegsOk.foldlBy Prod.fst _ l (fun a b ha => ?_) (s, []) h
  split
  · exact ha
  · exact ha.arbGrant _ _ _

theorem RegsOk.arbAge (c r : Nat) (ps won : List Pres) (masked : Bool) (h : RegsOk s.regs) :
    RegsOk (s.arbAge c r ps won masked).regs := by
  unfold State.arbAge
  grind [RegsOk.inc64, RegsOk.setClu, RegsOk.wr]

theorem RegsOk.arbPri (c r : Nat) (v : Word) (h : RegsOk s.regs) : RegsOk (s.arbPri c r v).regs :=
  (h.logWrite _).wr _ _

theorem RegsOk.remapStart (c f : Nat) (h : RegsOk s.regs) : RegsOk (s.remapStart c f).regs :=
  .ite h (((((h.wr _ _).setFlag _ _ _).setFlag _ _ _).setFld _ _ _).setClu _ _)

theorem RegsOk.skimUe (c j : Nat) (h : RegsOk s.regs) : RegsOk (s.skimUe c j).regs := by
  unfold State.skimUe
  grind [RegsOk.draw, RegsOk.cmemErr, RegsOk.setClu]

theorem RegsOk.skimFail (c j b : Nat) (h : RegsOk s.regs) : RegsOk (s.skimFail c j b).regs := by
  unfold State.skimFail
  grind [RegsOk.setClu, RegsOk.setFlag, RegsOk.inc64, RegsOk.setFld, RegsOk.fenceCluster, RegsOk.record,
    RegsOk.remapStart]

theorem RegsOk.mrepCount (c n : Nat) (h : RegsOk s.regs) : RegsOk (s.mrepCount c n).regs :=
  (h.setFld _ _ _).setFld _ _ _

theorem RegsOk.softRepair (c n a col : Nat) (h : RegsOk s.regs) : RegsOk (s.softRepair c n a col).regs :=
  .ite h (.ite ((h.setClu _ _).mrepCount _ _) (h.setFlag _ _ _))

theorem RegsOk.mrepWrite (c n : Nat) (v : Word) (h : RegsOk s.regs) : RegsOk (s.mrepWrite c n v).regs :=
  .ite (((h.setFld _ _ _).setFld _ _ _).softRepair _ _ _ _) ((h.setFld _ _ _).setFld _ _ _)

theorem RegsOk.portCount (sd p k n : Nat) (h : RegsOk s.regs) : RegsOk (s.portCount sd p k n).regs :=
  h.add64 _ _

theorem RegsOk.portEvt (sd p : Nat) (f : Fld) (h : RegsOk s.regs) : RegsOk (s.portEvt sd p f).regs :=
  h.evtSet _ _ _ _

theorem RegsOk.countOut (x : Frame) (n : Nat) (h : RegsOk s.regs) : RegsOk (s.countOut x n).regs :=
  (((h.ledger _ _ _).inflight _ _ _).saCount _ _).add64 _ _

theorem RegsOk.linkFill (k n : Nat) (h : RegsOk s.regs) : RegsOk (s.linkFill k n).regs := by
  induction n generalizing s with
  | zero => exact h
  | succ n ih =>
    unfold State.linkFill
    grind [RegsOk.setLink, RegsOk.setFld]

theorem RegsOk.linkPush (k : Nat) (m : LMsg) (h : RegsOk s.regs) : RegsOk (s.linkPush k m).regs :=
  (h.setLink _ _).linkFill _ _

theorem RegsOk.sendCell (f : Nat) (bytes : List Byte) (last : Bool) (h : RegsOk s.regs) :
    RegsOk (s.sendCell f bytes last).regs := by
  unfold State.sendCell
  grind [RegsOk.setFrame, RegsOk.linkPush]

theorem RegsOk.endCorrect (f : Nat) (h : RegsOk s.regs) : RegsOk (s.endCorrect f).regs := by
  unfold State.endCorrect
  grind [RegsOk.setTfree, RegsOk.wr, RegsOk.setFrame, RegsOk.drop]

theorem RegsOk.lateDiscard (sd p f : Nat) (h : RegsOk s.regs) : RegsOk (s.lateDiscard sd p f).regs := by
  unfold State.lateDiscard
  grind [RegsOk.portEvt, RegsOk.portCount, RegsOk.setFrame, RegsOk.linkPush, RegsOk.drop]

theorem RegsOk.setRp (d : Nat) (x : RPortSt) (h : RegsOk s.regs) : RegsOk (s.setRp d x).regs := h

theorem RegsOk.setRpState (d n : Nat) (h : RegsOk s.regs) : RegsOk (s.setRpState d n).regs := h.setFld _ _ _

theorem RegsOk.ringEvt (f : Fld) (h : RegsOk s.regs) : RegsOk (s.ringEvt f).regs := h.evtSet _ _ _ _

theorem RegsOk.ringEmit (d : Nat) (m : RMsg) (h : RegsOk s.regs) : RegsOk (s.ringEmit d m).regs :=
  ((h.setRp _ _).add64 _ _).emit _

theorem RegsOk.ringPump (k n : Nat) (h : RegsOk s.regs) : RegsOk (s.ringPump k n).regs := by
  induction n generalizing s with
  | zero => exact h
  | succ n ih =>
    unfold State.ringPump
    grind [RegsOk.ringEmit]

theorem RegsOk.ringSend (d dest src : Nat) (dl : Bool) (body : RBody) (h : RegsOk s.regs) :
    RegsOk (s.ringSend d dest src dl body).regs :=
  .ite ((h.setRp _ _).ringPump _ _) (.ite ((h.setRp _ _).ringPump _ _) h)

theorem RegsOk.ringOwn (d dest : Nat) (body : RBody) (h : RegsOk s.regs) :
    RegsOk (s.ringOwn d dest body).regs := h.ringSend _ _ _ _ _

theorem RegsOk.ringRefused (h : RegsOk s.regs) : RegsOk s.ringRefused.regs := (h.inc64 _).evtSet _ _ _ _

theorem RegsOk.replSend (sa : Nat) (k full resync : Bool) (pn : Nat) (h : RegsOk s.regs) :
    RegsOk (s.replSend sa k full resync pn).regs := by
  unfold State.replSend
  grind [RegsOk.ringOwn]

theorem RegsOk.leaseCheck (sa : Nat) (k : Bool) (np : Nat) (h : RegsOk s.regs) :
    RegsOk (s.leaseCheck sa k np).regs := by
  unfold State.leaseCheck
  grind [RegsOk.replSend]

theorem RegsOk.replKey (sa : Nat) (k resync : Bool) (h : RegsOk s.regs) :
    RegsOk (s.replKey sa k resync).regs := by
  unfold State.replKey
  grind [RegsOk.replSend]

theorem RegsOk.replPn (sa : Nat) (k : Bool) (h : RegsOk s.regs) : RegsOk (s.replPn sa k).regs := by
  unfold State.replPn
  grind [RegsOk.replSend]

theorem RegsOk.replAdvance (sa : Nat) (k : Bool) (h : RegsOk s.regs) : RegsOk (s.replAdvance sa k).regs := by
  unfold State.replAdvance
  grind [RegsOk.replPn]

theorem RegsOk.spillSend (f : Nat) (h : RegsOk s.regs) : RegsOk (s.spillSend f).regs := by
  unfold State.spillSend
  grind [RegsOk.ringOwn, RegsOk.setFrame]

theorem RegsOk.rpTrain (d : Nat) (h : RegsOk s.regs) : RegsOk (s.rpTrain d).regs := (h.setRp _ _).setRpState _ _

theorem RegsOk.saKeyWrite (sa : Nat) (v : Word) (h : RegsOk s.regs) : RegsOk (s.saKeyWrite sa v).regs := by
  unfold State.saKeyWrite
  grind [RegsOk.logWrite, RegsOk.setFlag, RegsOk.wr, RegsOk.replKey]

theorem RegsOk.txIdle (sd p : Nat) (b : Bool) (h : RegsOk s.regs) : RegsOk (s.txIdle sd p b).regs := by
  unfold State.txIdle
  grind [RegsOk.foldl, RegsOk.setFlag]

theorem RegsOk.enablePort (sd p : Nat) (v : Word) (h : RegsOk s.regs) : RegsOk (s.enablePort sd p v).regs := by
  unfold State.enablePort
  grind [RegsOk.wr, RegsOk.setFld, RegsOk.setFlag, RegsOk.txIdle]

theorem RegsOk.rxAbort (sd p : Nat) (h : RegsOk s.regs) : RegsOk (s.rxAbort sd p).regs := by
  unfold State.rxAbort
  grind [RegsOk.setRx, RegsOk.prune, RegsOk.portCount, RegsOk.lateDiscard]

theorem RegsOk.disablePort (sd p : Nat) (h : RegsOk s.regs) : RegsOk (s.disablePort sd p).regs :=
  (h.rxAbort _ _).setFlag _ _ _

theorem RegsOk.linkFall (sd p code : Nat) (h : RegsOk s.regs) : RegsOk (s.linkFall sd p code).regs := by
  unfold State.linkFall
  grind [RegsOk.foldl, RegsOk.setFlag, RegsOk.portEvt, RegsOk.portCount, RegsOk.drop]

theorem RegsOk.unlockRx (sd p : Nat) (h : RegsOk s.regs) : RegsOk (s.unlockRx sd p).regs :=
  ((h.setFlag _ _ _).setFlag _ _ _).setFld _ _ _

theorem RegsOk.handOver (sd p : Nat) (cell : List Byte) (ended : Bool) (h : RegsOk s.regs) :
    RegsOk (s.handOver sd p cell ended).1.regs := by
  unfold State.handOver
  grind [RegsOk.ledger, RegsOk.setFrame]

theorem RegsOk.refreshFenced (sd : Nat) (h : RegsOk s.regs) : RegsOk (s.refreshFenced sd).regs := by
  unfold State.refreshFenced
  grind [RegsOk.foldl, RegsOk.setFlag]

theorem RegsOk.portFenced (sd p : Nat) (h : RegsOk s.regs) : RegsOk (s.portFenced sd p).regs := by
  unfold State.portFenced
  grind [RegsOk.unlockRx, RegsOk.rxAbort, RegsOk.linkFall, RegsOk.txIdle]

theorem RegsOk.fenceLane (sd l : Nat) (h : RegsOk s.regs) : RegsOk (s.fenceLane sd l).regs := by
  unfold State.fenceLane
  grind [RegsOk.foldl, RegsOk.refreshFenced, RegsOk.setFlag, RegsOk.portFenced, RegsOk.record, RegsOk.faultStat]

theorem RegsOk.unfenceLane (sd l : Nat) (h : RegsOk s.regs) : RegsOk (s.unfenceLane sd l).regs :=
  .ite h ((h.setFlag _ _ _).refreshFenced _)

theorem RegsOk.fenceQuad (sd q code : Nat) (h : RegsOk s.regs) : RegsOk (s.fenceQuad sd q code).regs := by
  unfold State.fenceQuad
  grind [RegsOk.foldl, RegsOk.setFld, RegsOk.setFlag, RegsOk.refreshFenced, RegsOk.portFenced, RegsOk.faultStat,
    RegsOk.sheetOff]

theorem RegsOk.bufErr (sd p : Nat) (egress ue : Bool) (h : RegsOk s.regs) :
    RegsOk (s.bufErr sd p egress ue).regs := by
  unfold State.bufErr
  grind [RegsOk.record, RegsOk.recordMs]

theorem RegsOk.abandon (sd p : Nat) (sent : List Byte) (h : RegsOk s.regs) :
    RegsOk (s.abandon sd p sent).regs := ((h.portCount _ _ _ _).portEvt _ _ _).emit _

theorem RegsOk.underrun (sd p f : Nat) (sent : List Byte) (h : RegsOk s.regs) :
    RegsOk (s.underrun sd p f sent).regs := (((h.abandon _ _ _).drop _ _).evtSet _ _ _ _).record _ _ _ _ _ _ _

theorem RegsOk.deadlineMiss (f : Nat) (h : RegsOk s.regs) : RegsOk (s.deadlineMiss f).regs :=
  ((h.drop _ _).evtSet _ _ _ _).record _ _ _ _ _ _ _

theorem RegsOk.txFrame (sd p f n : Nat) (h : RegsOk s.regs) : RegsOk (s.txFrame sd p f n).regs := by
  unfold State.txFrame
  grind [RegsOk.portCount, RegsOk.countOut, RegsOk.unrelease, RegsOk.emit, RegsOk.prune, RegsOk.setFrame]

theorem RegsOk.saEvent (kind sa : Nat) (h : RegsOk s.regs) : RegsOk (s.saEvent kind sa).regs := by
  unfold State.saEvent
  grind [RegsOk.inc64, RegsOk.devRise]

theorem RegsOk.stopSa (sa : Nat) (h : RegsOk s.regs) : RegsOk (s.stopSa sa).regs :=
  .ite (h.pwr _ _) ((h.pwr _ _).saEvent _ _)

theorem RegsOk.pnTake (sa : Nat) (k : Bool) (np : Nat) (h : RegsOk s.regs) : RegsOk (s.pnTake sa k np).regs :=
  (RegsOk.ite (((h.pwr64 _ _).pwr _ _).saEvent _ _) (h.pwr64 _ _)).leaseCheck _ _ _

theorem RegsOk.refuse (f code : Nat) (sa : Option Nat) (h : RegsOk s.regs) :
    RegsOk (s.refuse f code sa).regs := by
  unfold State.refuse
  grind [RegsOk.inc64, RegsOk.ledger, RegsOk.saCount, RegsOk.setFrame]

theorem RegsOk.admitFrame (f : Nat) (x : Hdr) (k : Found) (pl : Place) (l : Nat) (whole : Bool) (q outL : Nat)
    (cand : List Nat) (buf cells : Nat) (h : RegsOk s.regs) :
    RegsOk (s.admitFrame f x k pl l whole q outL cand buf cells).regs := by
  unfold State.admitFrame
  grind [RegsOk.foldl, RegsOk.setFrame, RegsOk.setEgr, RegsOk.wr, RegsOk.inflight, RegsOk.pnTake, RegsOk.inc64,
    RegsOk.setTfree, RegsOk.linkPush, RegsOk.sendCell, RegsOk.prismWake]

theorem RegsOk.judge (f : Nat) (ue : Bool) (h : RegsOk s.regs) : RegsOk (s.judge f ue).regs := by
  unfold State.judge
  extract_lets x sd out t cell cfg whole l cells walk
  clear_value whole l cells walk
  split
  · exact h.refuse _ _ _
  · split
    · grind [RegsOk.refuse, RegsOk.stopSa]
    · extract_lets scfg q e cand outL down
      clear_value cand outL down
      grind [RegsOk.refuse, RegsOk.admitFrame, RegsOk.linkPush, RegsOk.drop, RegsOk.spillSend, RegsOk.endCorrect]

theorem RegsOk.takeDesc (f : Nat) (h : RegsOk s.regs) : RegsOk (s.takeDesc f).regs := by
  unfold State.takeDesc
  grind [RegsOk.setClu, RegsOk.setCore]

theorem RegsOk.takeCell (f idx : Nat) (bytes : List Byte) (last ue : Bool) (h : RegsOk s.regs) :
    RegsOk (s.takeCell f idx bytes last ue).regs :=
  .ite h (.ite (((h.setClu _ _).setCore _ _).drop _ _) ((h.setClu _ _).setCore _ _))

theorem RegsOk.takeArrival (f : Nat) (discard : Bool) (h : RegsOk s.regs) :
    RegsOk (s.takeArrival f discard).regs := .ite h (h.setCore _ _)

theorem RegsOk.pullAll (f : Nat) (h : RegsOk s.regs) : RegsOk (s.pullAll f).regs := by
  unfold State.pullAll
  grind [RegsOk.foldl, RegsOk.setFrame, RegsOk.linkPush]

theorem RegsOk.exitRefused (f : Nat) (red : Bool) (h : RegsOk s.regs) : RegsOk (s.exitRefused f red).regs :=
  ((h.drop _ _).inc64 _).evtSet _ _ _ _

theorem RegsOk.handToShaper (f : Nat) (h : RegsOk s.regs) : RegsOk (s.handToShaper f).regs :=
  .ite ((h.countOut _ _).setFrame _ _) h

theorem RegsOk.takePull (f idx : Nat) (ecc : Ecc) (h : RegsOk s.regs) : RegsOk (s.takePull f idx ecc).regs := by
  unfold State.takePull
  grind [RegsOk.cmemErr, RegsOk.exitRefused, RegsOk.handToShaper, RegsOk.setFrame]

theorem RegsOk.takeProgress (f n : Nat) (h : RegsOk s.regs) : RegsOk (s.takeProgress f n).regs :=
  .ite h (.ite ((h.setFrame _ _).pullAll _) (h.setFrame _ _))

theorem RegsOk.reservePull (q b : Nat) (h : RegsOk s.regs) : RegsOk (s.reservePull q b).regs := by
  unfold State.reservePull
  grind [RegsOk.pullAll]

theorem RegsOk.puttyDrop (f : Nat) (h : RegsOk s.regs) : RegsOk (s.puttyDrop f).regs :=
  (h.saCount _ _).setFrame _ _

theorem RegsOk.ringResult (f result len : Nat) (h : RegsOk s.regs) : RegsOk (s.ringResult f result len).regs :=
  .ite ((h.setFrame _ _).ringRefused) ((h.setFrame _ _).ringOwn _ _ _)

theorem RegsOk.takeDone (f result len : Nat) (h : RegsOk s.regs) : RegsOk (s.takeDone f result len).regs := by
  unfold State.takeDone
  grind [RegsOk.ringResult, RegsOk.setEgr, RegsOk.setFrame, RegsOk.reservePull, RegsOk.record, RegsOk.puttyDrop,
    RegsOk.evtSet, RegsOk.drop, RegsOk.pullAll]

theorem RegsOk.frmNext (g : Nat) (h : RegsOk s.regs) : RegsOk (s.frmNext g).1.regs := by
  unfold State.frmNext
  grind [RegsOk.setCore]

theorem RegsOk.frmStray (g tag : Nat) (h : RegsOk s.regs) : RegsOk (s.frmStray g tag).regs :=
  h.record _ _ _ _ _ _ _

theorem RegsOk.frmProgress (g : Nat) (v : Word) (h : RegsOk s.regs) : RegsOk (s.frmProgress g v).regs := by
  unfold State.frmProgress
  grind [RegsOk.frmStray, RegsOk.linkPush, RegsOk.setCore]

theorem RegsOk.completeAt (g f : Nat) (h : RegsOk s.regs) : RegsOk (s.completeAt g f).regs := by
  unfold State.completeAt
  grind [RegsOk.setFrame, RegsOk.setTfree, RegsOk.inc32, RegsOk.recordMs]

theorem RegsOk.frmDone (g : Nat) (lo hi : Word) (h : RegsOk s.regs) : RegsOk (s.frmDone g lo hi).regs := by
  unfold State.frmDone
  grind [RegsOk.frmStray, RegsOk.completeAt, RegsOk.setCore, RegsOk.prune, RegsOk.linkPush]

theorem RegsOk.linkRetry (k : Nat) (h : RegsOk s.regs) : RegsOk (s.linkRetry k).regs := by
  unfold State.linkRetry
  grind [RegsOk.inc64, RegsOk.setLink, RegsOk.setFld, RegsOk.fenceLink]

theorem RegsOk.linkAudit (k : Nat) (h : RegsOk s.regs) : RegsOk (s.linkAudit k).regs :=
  .ite (h.setLink _ _) ((h.setLink _ _).fenceLink _ _)

theorem RegsOk.poolWrite (c : Nat) (v : Word) (h : RegsOk s.regs) : RegsOk (s.poolWrite c v).regs :=
  .ite h (h.wr _ _)

theorem RegsOk.setBitmap (sa : Nat) (k : Bool) (b : BitVec 256) (h : RegsOk s.regs) :
    RegsOk (s.setBitmap sa k b).regs := h

theorem RegsOk.replayTake (sa : Nat) (k : Bool) (pn : Nat) (h : RegsOk s.regs) :
    RegsOk (s.replayTake sa k pn).regs :=
  .ite (((h.setBitmap _ _ _).wr64 _ _).replAdvance _ _) ((h.setBitmap _ _ _).wr64 _ _)

theorem RegsOk.leaveOrder (sd p f : Nat) (h : RegsOk s.regs) : RegsOk (s.leaveOrder sd p f).regs := h.setEgr _ _

theorem RegsOk.release (sd p f : Nat) (h : RegsOk s.regs) : RegsOk (s.release sd p f).regs :=
  (((h.leaveOrder _ _ _).setEgr _ _).setFrame _ _).pullAll _

theorem RegsOk.auditPort (sd p : Nat) (h : RegsOk s.regs) : RegsOk (s.auditPort sd p).regs := by
  unfold State.auditPort
  grind [RegsOk.incSat, RegsOk.setFld, RegsOk.raiseDev, RegsOk.record]

theorem RegsOk.ztfCommit (q : Nat) (h : RegsOk s.regs) : RegsOk (s.ztfCommit q).regs := by
  unfold State.ztfCommit
  grind [RegsOk.setFld, RegsOk.setEgr]

theorem RegsOk.puttyAdmit (q b sa : Nat) (k : Bool) (np cls core : Nat) (c : Word) (pb buf cells : Nat) (h
    : RegsOk s.regs) : RegsOk (s.puttyAdmit q b sa k np cls core c pb buf cells).regs := by
  unfold State.puttyAdmit
  grind [RegsOk.pnTake, RegsOk.setFrame, RegsOk.setTfree, RegsOk.linkPush, RegsOk.prismWake]

theorem RegsOk.puttyRefuse (q : Nat) (h : RegsOk s.regs) : RegsOk (s.puttyRefuse q).regs := h.inc64 _

theorem RegsOk.puttyJob (q b : Nat) (h : RegsOk s.regs) : RegsOk (s.puttyJob q b).regs := by
  unfold State.puttyJob
  extract_lets
  split
  · grind [RegsOk.stopSa, RegsOk.puttyRefuse]
  · grind [RegsOk.puttyRefuse, RegsOk.puttyAdmit]

theorem RegsOk.sendPutty (q b f : Nat) (n : Nat) (h : RegsOk s.regs) : RegsOk (s.sendPutty q b f n).regs := by
  unfold State.sendPutty
  grind [RegsOk.portCount, RegsOk.inc64, RegsOk.emit, RegsOk.setFrame, RegsOk.reservePull, RegsOk.setEgr]

theorem RegsOk.starve (q b : Nat) (h : RegsOk s.regs) : RegsOk (s.starve q b).regs :=
  ((h.inc64 _).evtSet _ _ _ _).record _ _ _ _ _ _ _

theorem RegsOk.fillSlot (q b : Nat) (h : RegsOk s.regs) : RegsOk (s.fillSlot q b).regs := by
  unfold State.fillSlot
  grind [RegsOk.txFrame, RegsOk.starve, RegsOk.sendPutty]

theorem RegsOk.costCommit (t : Nat) (h : RegsOk s.regs) : RegsOk (s.costCommit t).regs := by
  unfold State.costCommit
  grind [RegsOk.logWrite, RegsOk.setFld, RegsOk.setFlag]

theorem RegsOk.costInval (t : Nat) (h : RegsOk s.regs) : RegsOk (s.costInval t).regs :=
  .ite ((h.logWrite _).setFld _ _ _) (((h.logWrite _).setFlag _ _ _).setFld _ _ _)

theorem RegsOk.nextPnWrite (sa : Nat) (k : Bool) (v : Nat) (h : RegsOk s.regs) :
    RegsOk (s.nextPnWrite sa k v).regs := (((h.logWrite _).logWrite _).wr64 _ _).setBitmap _ _ _

theorem RegsOk.saEvtPop (h : RegsOk s.regs) : RegsOk s.saEvtPop.1.regs := by
  unfold State.saEvtPop
  grind

theorem RegsOk.enterTest (g sub : Nat) (h : RegsOk s.regs) : RegsOk (s.enterTest g sub).regs :=
  (((h.resetCore _ _).setCore _ _).toRot _ _).fallbackAll _

theorem RegsOk.stepTake (c : Nat) (spare : Option Nat) (h : RegsOk s.regs) :
    RegsOk (s.stepTake c spare).regs := by
  unfold State.stepTake
  grind [RegsOk.setFlag, RegsOk.setClu, RegsOk.setFld, RegsOk.toRot]

theorem RegsOk.rotStep (c : Nat) (h : RegsOk s.regs) : RegsOk (s.rotStep c).regs := by
  unfold State.rotStep
  grind [RegsOk.setFld, RegsOk.setFlag, RegsOk.stepTake, RegsOk.toRot]

theorem RegsOk.forceCore (c n : Nat) (h : RegsOk s.regs) : RegsOk (s.forceCore c n).regs :=
  (h.setFld _ _ _).setClu _ _

theorem RegsOk.toReload (g : Nat) (h : RegsOk s.regs) : RegsOk (s.toReload g).regs :=
  .ite (h.toRot _ _) ((h.toRot _ _).devRise _)

theorem RegsOk.drawBytes (n : Nat) (h : RegsOk s.regs) : RegsOk (s.drawBytes n).2.regs := h

theorem RegsOk.releaseCore (g : Nat) (h : RegsOk s.regs) : RegsOk (s.releaseCore g).regs := by
  unfold State.releaseCore
  grind [RegsOk.drawBytes, RegsOk.setCore, RegsOk.setFlag, RegsOk.setFld, RegsOk.setRot]

theorem RegsOk.rotReady (g : Nat) (h : RegsOk s.regs) : RegsOk (s.rotReady g).regs := by
  unfold State.rotReady
  grind [RegsOk.toRot, RegsOk.setRot, RegsOk.setCore, RegsOk.setFld]

theorem RegsOk.recRead (who : Prin) (off : Nat) (r : Option ErrRec) (h : RegsOk s.regs) :
    RegsOk (s.recRead who off r).2.regs := h

theorem RegsOk.errqRead (who : Prin) (c : Nat) (h : RegsOk s.regs) : RegsOk (s.errqRead who c).2.regs := by
  unfold State.errqRead
  grind [RegsOk.recRead, RegsOk.setClu]

theorem RegsOk.derrqRead (who : Prin) (h : RegsOk s.regs) : RegsOk (s.derrqRead who).2.regs := by
  unfold State.derrqRead
  grind [RegsOk.recRead]

theorem RegsOk.popGuard (who : Prin) (off : Nat) (act : State → Word × State) (ha : RegsOk (act s).2.regs)
    (h : RegsOk s.regs) : RegsOk (s.popGuard who off act).regs := by
  unfold State.popGuard
  grind [RegsOk.accUnavail, RegsOk.accRefused, RegsOk.emit]

theorem RegsOk.aliveKick (h : RegsOk s.regs) : RegsOk s.aliveKick.regs := by
  unfold State.aliveKick
  grind

theorem RegsOk.pwrCmd (v : Word) (h : RegsOk s.regs) : RegsOk (s.pwrCmd v).regs := by
  unfold State.pwrCmd
  grind [RegsOk.inc64, RegsOk.wr, RegsOk.pwrResult, RegsOk.pwrAdd]

theorem RegsOk.loseDomain (d : Nat) (h : RegsOk s.regs) : RegsOk (s.loseDomain d).regs := by
  unfold State.loseDomain
  grind [RegsOk.setCore, RegsOk.mrepCount, RegsOk.setClu, RegsOk.setFlag]

theorem RegsOk.poweredUp (d : Nat) (h : RegsOk s.regs) : RegsOk (s.poweredUp d).regs :=
  .ite (h.enterTest _ _) (.ite (h.setClu _ _) (.ite ((h.setFlag _ _ _).setFlag _ _ _) h))

theorem RegsOk.releaseDomain (d : Nat) (h : RegsOk s.regs) : RegsOk (s.releaseDomain d).regs :=
  .ite (.ite (h.enterTest _ _) h) (h.pwrAdd _)

theorem RegsOk.dustCtl (v : Word) (h : RegsOk s.regs) : RegsOk (s.dustCtl v).regs := by
  unfold State.dustCtl
  grind [RegsOk.foldl, RegsOk.wr, RegsOk.releaseDomain, RegsOk.setFlag]

theorem RegsOk.unfenceUnit (k i : Nat) (h : RegsOk s.regs) : RegsOk (s.unfenceUnit k i).regs := by
  unfold State.unfenceUnit
  grind [RegsOk.setClu, RegsOk.refreshFenced, RegsOk.setFld, RegsOk.setFlag, RegsOk.rpTrain]

theorem RegsOk.releaseFail (k i : Nat) (h : RegsOk s.regs) : RegsOk (s.releaseFail k i).regs := by
  unfold State.releaseFail
  grind [RegsOk.fenceCore, RegsOk.record]

theorem RegsOk.keepSheet (c : Nat) (h : RegsOk s.regs) : RegsOk (s.keepSheet c).regs := by
  unfold State.keepSheet
  grind [RegsOk.foldl, RegsOk.setClu, RegsOk.setDomain, RegsOk.toRot]

theorem RegsOk.warmReset (cause : Nat) (h : RegsOk s.regs) : RegsOk (s.warmReset cause).regs := by
  have h0 := h.filter (fun e => warmKept e.1)
  unfold State.warmReset
  grind [RegsOk.foldl, RegsOk.setCore, RegsOk.keepSheet, RegsOk.incSat, RegsOk.setFld]

/-- A power-on or brown-out reset starts from the empty map. -/
theorem RegsOk.powerReset (kept : Option Nat) (_ : RegsOk s.regs) : RegsOk (s.powerReset kept).regs := by
  have h0 := RegsOk.nil
  unfold State.powerReset
  grind [RegsOk.wr, RegsOk.setFld, State.reset]

theorem RegsOk.thermalReset (h : RegsOk s.regs) : RegsOk s.thermalReset.regs := by
  unfold State.thermalReset
  grind [RegsOk.foldl, RegsOk.powerReset, RegsOk.setDomain]

theorem RegsOk.resetBy (cause : Nat) (h : RegsOk s.regs) : RegsOk (s.resetBy cause).regs :=
  .ite (h.powerReset _) (.ite h.thermalReset (.ite (h.warmReset _) h))

theorem RegsOk.requestReset (cause : Nat) (h : RegsOk s.regs) : RegsOk (s.requestReset cause).regs := by
  unfold State.requestReset
  grind [RegsOk.resetBy]

theorem RegsOk.clkEvt (f : Fld) (h : RegsOk s.regs) : RegsOk (s.clkEvt f).regs := h.evtSet _ _ _ _

theorem RegsOk.refSwitch (b : Bool) (h : RegsOk s.regs) : RegsOk (s.refSwitch b).regs := by
  unfold State.refSwitch
  grind [RegsOk.setFlag, RegsOk.clkEvt]

theorem RegsOk.refFault (b : Bool) (h : RegsOk s.regs) : RegsOk (s.refFault b).regs :=
  .ite ((h.setFlag _ _ _).refSwitch _) (h.setFlag _ _ _)

theorem RegsOk.refSel (b : Bool) (h : RegsOk s.regs) : RegsOk (s.refSel b).regs := .ite h (h.refSwitch _)

theorem RegsOk.pllSwitch (fault : Bool) (h : RegsOk s.regs) : RegsOk (s.pllSwitch fault).regs := by
  unfold State.pllSwitch
  grind [RegsOk.setFlag, RegsOk.record, RegsOk.inc64, RegsOk.clkEvt]

theorem RegsOk.pllSel (b : Bool) (h : RegsOk s.regs) : RegsOk (s.pllSel b).regs := .ite h (h.pllSwitch _)

theorem RegsOk.monEvt (f : Fld) (h : RegsOk s.regs) : RegsOk (s.monEvt f).regs := h.evtSet _ _ _ _

theorem RegsOk.tintCtl (v : Word) (h : RegsOk s.regs) : RegsOk (s.tintCtl v).regs := by
  unfold State.tintCtl
  grind [RegsOk.foldl, RegsOk.setFlag, RegsOk.setCore]

theorem RegsOk.setDmaRun (c n : Nat) (r : Option DmaRun) (h : RegsOk s.regs) :
    RegsOk (s.setDmaRun c n r).regs := h

theorem RegsOk.dmaWrite (c a : Nat) (w : TD) (h : RegsOk s.regs) : RegsOk (s.dmaWrite c a w).regs :=
  .ite (h.setCore _ _) (h.setClu _ _)

theorem RegsOk.dmaReadErr (c a : Nat) (ue : Bool) (h : RegsOk s.regs) : RegsOk (s.dmaReadErr c a ue).regs := by
  unfold State.dmaReadErr
  grind [RegsOk.coreMemErr, RegsOk.cmemErr]

theorem RegsOk.dmaFall (c n : Nat) (h : RegsOk s.regs) : RegsOk (s.dmaFall c n).regs := by
  unfold State.dmaFall
  grind [RegsOk.inc64, RegsOk.setDmaRun]

theorem RegsOk.dmaAbort (c n cause : Nat) (h : RegsOk s.regs) : RegsOk (s.dmaAbort c n cause).regs := by
  unfold State.dmaAbort
  grind [RegsOk.setFlag, RegsOk.setDmaRun]

theorem RegsOk.dmaCtl (c n : Nat) (v : Word) (h : RegsOk s.regs) : RegsOk (s.dmaCtl c n v).regs := by
  unfold State.dmaCtl
  grind [RegsOk.setFld, RegsOk.setFlag, RegsOk.dmaAbort]

theorem RegsOk.dmaTail (c n : Nat) (v : Word) (h : RegsOk s.regs) : RegsOk (s.dmaTail c n v).regs :=
  .ite (h.setFld _ _ _) h

theorem RegsOk.dmaQcfg (c n : Nat) (v : Word) (h : RegsOk s.regs) : RegsOk (s.dmaQcfg c n v).regs :=
  .ite h (h.wr _ _)

theorem RegsOk.dmaFetch (c a k : Nat) (ecc : Ecc) (h : RegsOk s.regs) :
    RegsOk (s.dmaFetch c a k ecc).2.regs := by
  unfold State.dmaFetch
  grind [RegsOk.dmaReadErr, RegsOk.draw]

theorem RegsOk.dmaWrites (c a : Nat) (l : List TD) (h : RegsOk s.regs) : RegsOk (s.dmaWrites c a l).regs := by
  induction l generalizing s a with
  | nil => exact h
  | cons w l ih =>
    unfold State.dmaWrites
    exact ih _ (h.dmaWrite _ _ _)

theorem RegsOk.dmaBurstRun (c n : Nat) (r : DmaRun) (ecc : Ecc) (h : RegsOk s.regs) :
    RegsOk (s.dmaBurstRun c n r ecc).regs := by
  unfold State.dmaBurstRun
  grind [RegsOk.wr, RegsOk.setDmaRun, RegsOk.dmaWrites, RegsOk.dmaFetch]

theorem RegsOk.levelRise (k : Nat) (h : RegsOk s.regs) : RegsOk (s.levelRise k).regs :=
  .ite h (.ite h (.ite ((h.setSrc _ _).fallback _ _) h))

theorem RegsOk.srcSet (src : EvSrc) (h : RegsOk s.regs) : RegsOk (s.srcSet src).regs := .ite (h.raise _) h

theorem RegsOk.srcClr (src : EvSrc) (h : RegsOk s.regs) : RegsOk (s.srcClr src).regs := .ite h (h.setSrc _ _)

theorem RegsOk.srcCfg (src : EvSrc) (v : Word) (h : RegsOk s.regs) : RegsOk (s.srcCfg src v).regs := by
  unfold State.srcCfg
  grind [RegsOk.wr, RegsOk.fallback]

theorem RegsOk.pinEvent (k : Nat) (v : Bool) (h : RegsOk s.regs) : RegsOk (s.pinEvent k v).regs := by
  unfold State.pinEvent
  grind [RegsOk.foldl, RegsOk.devRise, RegsOk.levelRise, RegsOk.raiseDev, RegsOk.raiseShared]

theorem RegsOk.pinFall (k : Nat) (h : RegsOk s.regs) : RegsOk (s.pinFall k).regs := by
  unfold State.pinFall
  grind [RegsOk.foldl, RegsOk.dmaFall]

theorem RegsOk.putCtx (idx : Nat) (x : SkbCtx) (homes : List Nat) (h : RegsOk s.regs) :
    RegsOk (s.putCtx idx x homes).regs := by
  unfold State.putCtx
  grind [RegsOk.foldl, RegsOk.setClu]

theorem RegsOk.dropCtx (idx : Nat) (homes : List Nat) (h : RegsOk s.regs) :
    RegsOk (s.dropCtx idx homes).regs := by
  unfold State.dropCtx
  grind [RegsOk.foldl, RegsOk.setClu, RegsOk.retireCtx]

theorem RegsOk.trngWord (secret : Bool) (h : RegsOk s.regs) : RegsOk (s.trngWord secret).2.regs := by
  unfold State.trngWord
  grind [RegsOk.draw]

theorem RegsOk.trngRead (g rd : Nat) (secret : Bool) (h : RegsOk s.regs) :
    RegsOk (s.trngRead g rd secret).regs := by
  unfold State.trngRead
  grind [RegsOk.except, RegsOk.trngWord, RegsOk.setCore]

theorem RegsOk.dmaStopAll (cause : Nat) (h : RegsOk s.regs) : RegsOk (s.dmaStopAll cause).regs := by
  unfold State.dmaStopAll
  grind [RegsOk.foldl, RegsOk.dmaAbort]

theorem RegsOk.lineIdle (h : RegsOk s.regs) : RegsOk s.lineIdle.regs := by
  unfold State.lineIdle
  extract_lets t
  have ht : RegsOk t.regs := by grind [RegsOk.foldl, RegsOk.setFlag]
  exact ht

theorem RegsOk.clearRoot (h : RegsOk s.regs) : RegsOk s.clearRoot.regs := h

theorem RegsOk.zeroise (cause : Nat) (root : Bool) (h : RegsOk s.regs) :
    RegsOk (s.zeroise cause root).regs := by
  unfold State.zeroise
  grind [RegsOk.foldl, RegsOk.clearRoot, RegsOk.setFlag, RegsOk.performBeats, RegsOk.incSat, RegsOk.setFld,
    RegsOk.dmaStopAll, RegsOk.setCore, RegsOk.setClu, RegsOk.lineIdle]

theorem RegsOk.respond (gen : Nat) (rsp : List Byte) (h : RegsOk s.regs) : RegsOk (s.respond gen rsp).regs := by
  unfold State.respond
  grind [RegsOk.msixSend, RegsOk.evtSet, RegsOk.inc64]

theorem RegsOk.store (c rsp : List Byte) (h : RegsOk s.regs) : RegsOk (s.store c rsp).regs := h

theorem RegsOk.finish (gen : Nat) (c : List Byte) (r : Reply) (h : RegsOk s.regs) :
    RegsOk (s.finish gen c r).regs := by
  unfold State.finish
  grind [RegsOk.respond, RegsOk.store]

theorem RegsOk.mbxSkip (n : Nat) (h : RegsOk s.regs) : RegsOk (s.mbxSkip n).regs := by
  induction n generalizing s with
  | zero => exact h
  | succ n ih =>
    unfold State.mbxSkip
    grind [RegsOk.respond, RegsOk.finish]

theorem RegsOk.mbxTake (h : RegsOk s.regs) : RegsOk s.mbxTake.regs := by
  unfold State.mbxTake
  grind [RegsOk.mbxSkip]

theorem RegsOk.command (op : Nat) (states : List Nat) (recovery : Bool) (len : Nat → Bool) (zero : List (Nat × Nat))
    (run : State → List Byte → State × Reply) (hr : ∀ t p, RegsOk t.regs → RegsOk (run t p).1.regs)
    (h : RegsOk s.regs) : RegsOk (s.command op states recovery len zero run).regs := by
  unfold State.command
  grind [RegsOk.respond, RegsOk.finish, RegsOk.mbxSkip]

theorem RegsOk.mbxRelease (h : RegsOk s.regs) : RegsOk s.mbxRelease.regs := by
  unfold State.mbxRelease
  grind [RegsOk.respond, RegsOk.mbxSkip]

theorem RegsOk.mbxGo (h : RegsOk s.regs) : RegsOk s.mbxGo.regs := by
  unfold State.mbxGo
  grind [RegsOk.inc64, RegsOk.mbxTake, RegsOk.raiseDev]

theorem RegsOk.mbxAck (h : RegsOk s.regs) : RegsOk s.mbxAck.regs := h

theorem RegsOk.randomBytes (secret : Bool) (n : Nat) (h : RegsOk s.regs) :
    RegsOk (s.randomBytes secret n).2.regs := by
  induction n generalizing s with
  | zero => exact h
  | succ n ih =>
    unfold State.randomBytes
    exact ih (h.trngWord _)

theorem RegsOk.afterKey (s0 : State) (sa : Nat) (p : List Byte) (h : RegsOk s.regs) :
    RegsOk (s.afterKey s0 sa p).1.regs := by
  unfold State.afterKey
  grind

theorem RegsOk.wrW (off : Nat) (w : Word) (h : RegsOk s.regs) : RegsOk (s.wrW off w).regs :=
  (h.logWrite _).wr _ _

theorem RegsOk.wrW64 (off v : Nat) (h : RegsOk s.regs) : RegsOk (s.wrW64 off v).regs :=
  ((h.logWrite _).logWrite _).wr64 _ _

theorem RegsOk.saFill (sa : Nat) (p : List Byte) (i : Nat) (h : RegsOk s.regs) :
    RegsOk (s.saFill sa p i).regs := by
  unfold State.saFill
  grind [RegsOk.saKeyWrite, RegsOk.wrW, RegsOk.nextPnWrite, RegsOk.wrW64]

theorem RegsOk.saCreate (p : List Byte) (h : RegsOk s.regs) : RegsOk (s.saCreate p).1.regs := by
  unfold State.saCreate
  grind [RegsOk.saFill]

theorem RegsOk.addRetire (rs : List Retire) (h : RegsOk s.regs) : RegsOk (s.addRetire rs).regs := h

theorem RegsOk.saDelete (p : List Byte) (h : RegsOk s.regs) : RegsOk (s.saDelete p).1.regs := by
  unfold State.saDelete
  grind [RegsOk.wrW, RegsOk.wrW64, RegsOk.saKeyWrite, RegsOk.addRetire, RegsOk.afterKey, RegsOk.wr]

theorem RegsOk.saUpdate (p : List Byte) (h : RegsOk s.regs) : RegsOk (s.saUpdate p).1.regs := by
  unfold State.saUpdate
  grind [RegsOk.putCtx, RegsOk.wrW, RegsOk.addRetire]

theorem RegsOk.installKey {t : State} (r : KeyReq) (plain : List Byte) (i : Nat)
    (e : s.installKey r plain = some (t, i)) (h : RegsOk s.regs) : RegsOk t.regs := by
  unfold State.installKey at e
  grind [RegsOk.putCtx, RegsOk.setFlag, RegsOk.nextPnWrite, RegsOk.wrW64, RegsOk.saKeyWrite]

theorem RegsOk.keyImport (p : List Byte) (h : RegsOk s.regs) : RegsOk (s.keyImport p).1.regs := by
  unfold State.keyImport
  repeat' split
  all_goals grind [RegsOk.installKey, RegsOk.afterKey]

theorem RegsOk.keyActivate (p : List Byte) (h : RegsOk s.regs) : RegsOk (s.keyActivate p).1.regs := by
  unfold State.keyActivate
  grind [RegsOk.afterKey, RegsOk.saKeyWrite]

theorem RegsOk.keyRetire (p : List Byte) (h : RegsOk s.regs) : RegsOk (s.keyRetire p).1.regs := by
  unfold State.keyRetire
  grind [RegsOk.afterKey, RegsOk.addRetire, RegsOk.saKeyWrite]

theorem RegsOk.replStart (sa : Nat) (h : RegsOk s.regs) : RegsOk (s.replStart sa).regs := by
  unfold State.replStart
  grind [RegsOk.replKey, RegsOk.replSend]

theorem RegsOk.saProtect (p : List Byte) (h : RegsOk s.regs) : RegsOk (s.saProtect p).1.regs := by
  unfold State.saProtect
  grind [RegsOk.wr, RegsOk.wrW, RegsOk.replStart]

theorem RegsOk.sign (seed msg : List Byte) (h : RegsOk s.regs) : RegsOk (s.sign seed msg).2.regs := by
  unfold State.sign
  grind [RegsOk.randomBytes]

theorem RegsOk.runKernel (g : Nat) (h : RegsOk s.regs) : RegsOk (s.runKernel g).regs := by
  unfold State.runKernel
  grind [RegsOk.draw, RegsOk.raisePriv, RegsOk.setCore]

theorem RegsOk.unbind (g : Nat) (h : RegsOk s.regs) : RegsOk (s.unbind g).regs := by
  unfold State.unbind
  grind

theorem RegsOk.openHandle (slot : Nat) (k : KeHandle) (h : RegsOk s.regs) :
    RegsOk (s.openHandle slot k).1.regs := h

theorem RegsOk.keInit (p : List Byte) (h : RegsOk s.regs) : RegsOk (s.keInit p).1.regs := by
  unfold State.keInit
  grind [RegsOk.randomBytes, RegsOk.sign, RegsOk.runKernel, RegsOk.unbind, RegsOk.openHandle]

theorem RegsOk.keRespond (p : List Byte) (h : RegsOk s.regs) : RegsOk (s.keRespond p).1.regs := by
  unfold State.keRespond
  dsimp only
  repeat' split
  all_goals
    grind [RegsOk.randomBytes, RegsOk.sign, RegsOk.unbind, RegsOk.runKernel, RegsOk.installKey, RegsOk.afterKey]

theorem RegsOk.keFinish (p : List Byte) (h : RegsOk s.regs) : RegsOk (s.keFinish p).1.regs := by
  unfold State.keFinish
  dsimp only
  repeat' split
  all_goals grind [RegsOk.unbind, RegsOk.runKernel, RegsOk.installKey, RegsOk.afterKey]

theorem RegsOk.useNonce (h : RegsOk s.regs) : RegsOk s.useNonce.regs := h

theorem RegsOk.peerTrust (p : List Byte) (h : RegsOk s.regs) : RegsOk (s.peerTrust p).1.regs := by
  unfold State.peerTrust
  grind [RegsOk.useNonce]

theorem RegsOk.ownerProvision (p : List Byte) (h : RegsOk s.regs) : RegsOk (s.ownerProvision p).1.regs := by
  unfold State.ownerProvision
  grind [RegsOk.useNonce, RegsOk.runKernel, RegsOk.unbind, RegsOk.setFld]

theorem RegsOk.lcAdvance (p : List Byte) (h : RegsOk s.regs) : RegsOk (s.lcAdvance p).1.regs := by
  unfold State.lcAdvance
  grind [RegsOk.useNonce, RegsOk.zeroise, RegsOk.warmReset]

theorem RegsOk.costPut (t : Nat) (bs : List Byte) (h : RegsOk s.regs) : RegsOk (s.costPut t bs).regs := by
  unfold State.costPut
  grind [RegsOk.foldl, RegsOk.wr, RegsOk.costCommit]

theorem RegsOk.costLoad (p : List Byte) (h : RegsOk s.regs) : RegsOk (s.costLoad p).1.regs := by
  unfold State.costLoad
  grind [RegsOk.costPut]

theorem RegsOk.flashImage (b : List Byte) (h : RegsOk s.regs) : RegsOk (s.flashImage b).regs := h

theorem RegsOk.mirrorStart (im : CoreImage) (h : RegsOk s.regs) : RegsOk (s.mirrorStart im).regs := by
  unfold State.mirrorStart
  grind [RegsOk.foldl, RegsOk.wr]

theorem RegsOk.imageCommit (p : List Byte) (h : RegsOk s.regs) : RegsOk (s.imageCommit p).1.regs := by
  unfold State.imageCommit
  grind [RegsOk.flashImage, RegsOk.mirrorStart]

theorem RegsOk.wardenStart (slotB : Bool) (h : RegsOk s.regs) : RegsOk (s.wardenStart slotB).regs := by
  unfold State.wardenStart
  grind [RegsOk.setFlag, RegsOk.setFld, RegsOk.wr, RegsOk.randomBytes]

theorem RegsOk.coresStart (h : RegsOk s.regs) : RegsOk s.coresStart.regs := by
  unfold State.coresStart
  grind [RegsOk.foldl, RegsOk.costPut, RegsOk.releaseCore, RegsOk.setClu]

theorem RegsOk.coldStart (h : RegsOk s.regs) : RegsOk s.coldStart.regs := by
  unfold State.coldStart
  grind [RegsOk.foldl, RegsOk.setFlag]

theorem RegsOk.rootCheck (h : RegsOk s.regs) : RegsOk s.rootCheck.regs :=
  .ite (h.setFlag _ _ _) (((h.setFlag _ _ _).setFld _ _ _).setFld _ _ _)

theorem RegsOk.replStale (sa : Nat) (h : RegsOk s.regs) : RegsOk (s.replStale sa).regs :=
  .ite ((h.setFlag _ _ _).ringEvt _) (h.setFlag _ _ _)

theorem RegsOk.boundCheck (h : RegsOk s.regs) : RegsOk s.boundCheck.regs := by
  unfold State.boundCheck
  grind [RegsOk.foldl, RegsOk.replStale, RegsOk.ringEvt]

theorem RegsOk.isolated (h : RegsOk s.regs) : RegsOk s.isolated.regs := by
  unfold State.isolated
  grind [RegsOk.foldl, RegsOk.stopSa]

theorem RegsOk.lossOf (y x : Nat) (h : RegsOk s.regs) : RegsOk (s.lossOf y x).regs := by
  unfold State.lossOf
  grind [RegsOk.foldl, RegsOk.drop]

theorem RegsOk.neighbourLost (d st cause : Nat) (h : RegsOk s.regs) :
    RegsOk (s.neighbourLost d st cause).regs := by
  unfold State.neighbourLost
  grind [RegsOk.setRp, RegsOk.setFlag, RegsOk.setRpState, RegsOk.ringEvt, RegsOk.inc64, RegsOk.record,
    RegsOk.lossOf, RegsOk.ringOwn, RegsOk.isolated]

theorem RegsOk.closeRing (d : Nat) (h : RegsOk s.regs) : RegsOk (s.closeRing d).regs := by
  unfold State.closeRing
  grind [RegsOk.setRp]

theorem RegsOk.rpFence (d cause : Nat) (h : RegsOk s.regs) : RegsOk (s.rpFence d cause).regs := by
  unfold State.rpFence
  grind [RegsOk.setFld, RegsOk.closeRing, RegsOk.neighbourLost, RegsOk.setRp, RegsOk.setRpState]

theorem RegsOk.ringReplay (d : Nat) (h : RegsOk s.regs) : RegsOk (s.ringReplay d).regs := by
  unfold State.ringReplay
  grind [RegsOk.foldl, RegsOk.inc64, RegsOk.rpFence, RegsOk.setRp, RegsOk.emit]

theorem RegsOk.ringAck (d : Nat) (x : FlitHdr) (h : RegsOk s.regs) : RegsOk (s.ringAck d x).regs := by
  unfold State.ringAck
  grind [RegsOk.setRp, RegsOk.ringReplay]

theorem RegsOk.ringNack (d : Nat) (h : RegsOk s.regs) : RegsOk (s.ringNack d).regs :=
  .ite ((h.setRp _ _).rpFence _ _) (h.setRp _ _)

theorem RegsOk.rpUp (d : Nat) (h : RegsOk s.regs) : RegsOk (s.rpUp d).regs :=
  .ite h (((h.setRp _ _).setRpState _ _).ringEvt _)

theorem RegsOk.ringAccept (d : Nat) (x : FlitHdr) (body : RBody) (act : State → State)
    (ha : ∀ t, RegsOk t.regs → RegsOk (act t).regs) (h : RegsOk s.regs) : RegsOk (s.ringAccept d x body act).regs := by
  unfold State.ringAccept
  grind [RegsOk.ringNack, RegsOk.setRp, RegsOk.add64, RegsOk.rpUp, RegsOk.ringAck, RegsOk.ringPump]

theorem RegsOk.ringRoute (d : Nat) (x : FlitHdr) (body : RBody) (act : State → State)
    (ha : ∀ t, RegsOk t.regs → RegsOk (act t).regs) (h : RegsOk s.regs) : RegsOk (s.ringRoute d x body act).regs := by
  unfold State.ringRoute
  grind [RegsOk.ringSend]

theorem RegsOk.sendClear (d : Nat) (b : RBody) (h : RegsOk s.regs) : RegsOk (s.sendClear d b).regs := h.emit _

theorem RegsOk.ringKeys (d : Nat) (z ek ct : List Byte) (h : RegsOk s.regs) :
    RegsOk (s.ringKeys d z ek ct).regs := ((h.closeRing _).setRp _ _).ringEmit _ _

theorem RegsOk.ringStep (d g : Nat) (seed : List Byte) (h : RegsOk s.regs) :
    RegsOk (s.ringStep d g seed).regs := by
  unfold State.ringStep
  grind [RegsOk.runKernel, RegsOk.unbind, RegsOk.setRp, RegsOk.randomBytes, RegsOk.sign, RegsOk.openHandle,
    RegsOk.sendClear, RegsOk.rpFence, RegsOk.ringKeys]

theorem RegsOk.handshake (d : Nat) (h : RegsOk s.regs) : RegsOk (s.handshake d).regs := by
  unfold State.handshake
  grind [RegsOk.ringStep, RegsOk.setRp]

theorem RegsOk.ringPortFence (d : Nat) (h : RegsOk s.regs) : RegsOk (s.ringPortFence d).regs :=
  (h.setFlag _ _ _).rpFence _ _

theorem RegsOk.ringCfg (v : Word) (h : RegsOk s.regs) : RegsOk (s.ringCfg v).regs := by
  unfold State.ringCfg
  grind [RegsOk.wr, RegsOk.rpTrain]

theorem RegsOk.latchTarget (d : Nat) (h : RegsOk s.regs) : RegsOk (s.latchTarget d).regs := by
  unfold State.latchTarget
  grind [RegsOk.foldl, RegsOk.setFld, RegsOk.replStale]

theorem RegsOk.offerOf (d : Nat) (h : RegsOk s.regs) : RegsOk (s.offerOf d).regs := by
  unfold State.offerOf
  grind [RegsOk.setFld, RegsOk.setFlag]

theorem RegsOk.advertIn (a : Advert) (h : RegsOk s.regs) : RegsOk (s.advertIn a).regs := by
  unfold State.advertIn
  grind [RegsOk.offerOf, RegsOk.latchTarget, RegsOk.boundCheck]

theorem RegsOk.spillRefuse (d : Nat) (x : SpillHdr) (h : RegsOk s.regs) : RegsOk (s.spillRefuse d x).regs :=
  ((h.inc64 _).ringEvt _).ringOwn _ _ _

theorem RegsOk.spillTake (d : Nat) (x : SpillHdr) (bytes : List Byte) (rmask : List Bool) (h : RegsOk s.regs) :
    RegsOk (s.spillTake d x bytes rmask).regs := by
  unfold State.spillTake
  grind [RegsOk.foldl, RegsOk.spillRefuse, RegsOk.setFrame, RegsOk.inc64, RegsOk.setTfree, RegsOk.linkPush,
    RegsOk.sendCell, RegsOk.prismWake]

theorem RegsOk.spillResult (x : SpillHdr) (bytes : List Byte) (rmask : List Bool) (h : RegsOk s.regs) :
    RegsOk (s.spillResult x bytes rmask).regs := by
  unfold State.spillResult
  grind [RegsOk.ringEvt, RegsOk.deadlineMiss, RegsOk.takeDone, RegsOk.setClu]

theorem RegsOk.replicaKey {t : State} (sa : Nat) (m : ReplMsg) (e : s.replicaKey sa m = some t) (h : RegsOk s.regs) :
    RegsOk t.regs := by
  unfold State.replicaKey at e
  grind [RegsOk.dropCtx, RegsOk.wrW64, RegsOk.saKeyWrite, RegsOk.putCtx]

theorem RegsOk.replIn (x : FlitHdr) (m : ReplMsg) (h : RegsOk s.regs) : RegsOk (s.replIn x m).regs := by
  unfold State.replIn
  grind [RegsOk.replStale, RegsOk.replicaKey, RegsOk.setFlag, RegsOk.ringOwn]

theorem RegsOk.leaseAcked (sa seq : Nat) (k : Bool) (h : RegsOk s.regs) :
    RegsOk (s.leaseAcked sa seq k).regs := by
  unfold State.leaseAcked
  grind

theorem RegsOk.resyncAcked (sa seq : Nat) (h : RegsOk s.regs) : RegsOk (s.resyncAcked sa seq).regs := by
  unfold State.resyncAcked
  grind [RegsOk.setFlag]

theorem RegsOk.replAcked (sa seq : Nat) (h : RegsOk s.regs) : RegsOk (s.replAcked sa seq).regs := by
  unfold State.replAcked
  grind [RegsOk.resyncAcked, RegsOk.leaseAcked, RegsOk.mbxRelease]

theorem RegsOk.promote (sa : Nat) (h : RegsOk s.regs) : RegsOk (s.promote sa).regs := by
  unfold State.promote
  grind [RegsOk.nextPnWrite, RegsOk.wrW, RegsOk.setFld, RegsOk.ringEvt, RegsOk.inc64]

theorem RegsOk.setMemwin (who : Prin) (v : Word) (h : RegsOk s.regs) : RegsOk (s.setMemwin who v).regs := h

theorem RegsOk.regRead (who : Prin) (off : Nat) (h : RegsOk s.regs) : RegsOk (s.regRead who off).2.regs := by
  unfold State.regRead
  grind [RegsOk.errqRead, RegsOk.derrqRead, RegsOk.saEvtPop]

theorem RegsOk.busRead (who : Prin) (off : Nat) (h : RegsOk s.regs) : RegsOk (s.busRead who off).2.regs := by
  unfold State.busRead
  grind [RegsOk.accUnavail, RegsOk.regRead, RegsOk.accRefused]

theorem RegsOk.storeFields (who : Prin) (f : RegFam) (off : Nat) (v : Word) (h : RegsOk s.regs) :
    RegsOk (s.storeFields who f off v).regs := (RegsOk.ite (h.logWrite _) h).wr _ _

theorem RegsOk.storeFields64 (who : Prin) (f : RegFam) (off : Nat) (v : Word) (hi : Option Word) (h
    : RegsOk s.regs) : RegsOk (s.storeFields64 who f off v hi).regs := by
  unfold State.storeFields64
  grind [RegsOk.storeFields]

theorem RegsOk.portCfg (who : Prin) (f : RegFam) (sd p off : Nat) (v : Word) (h : RegsOk s.regs) :
    RegsOk (s.portCfg who f sd p off v).regs :=
  .ite (.ite h (h.disablePort _ _)) (.ite (h.enablePort _ _ _) (h.storeFields _ _ _ _))

theorem RegsOk.laneCfg (who : Prin) (f : RegFam) (sd l off : Nat) (v : Word) (h : RegsOk s.regs) :
    RegsOk (s.laneCfg who f sd l off v).regs := by
  unfold State.laneCfg
  grind [RegsOk.storeFields, RegsOk.setFld, RegsOk.unfenceLane, RegsOk.fenceLane]

theorem RegsOk.costCtl (v : Word) (h : RegsOk s.regs) : RegsOk (s.costCtl v).regs := by
  unfold State.costCtl
  grind [RegsOk.costInval, RegsOk.costCommit]

theorem RegsOk.srcCmd (src : EvSrc) (v : Word) (h : RegsOk s.regs) : RegsOk (s.srcCmd src v).regs :=
  .ite ((RegsOk.ite (h.srcClr _) h).srcSet _) (.ite (h.srcClr _) h)

theorem RegsOk.srcWrite (src : EvSrc) (w : Nat) (v : Word) (h : RegsOk s.regs) :
    RegsOk (s.srcWrite src w v).regs := by
  unfold State.srcWrite
  grind [RegsOk.srcCfg, RegsOk.wr, RegsOk.srcCmd]

theorem RegsOk.clkCtl (v : Word) (h : RegsOk s.regs) : RegsOk (s.clkCtl v).regs := by
  unfold State.clkCtl
  grind [RegsOk.setFld, RegsOk.refSel, RegsOk.pllSel, RegsOk.requestReset]

theorem RegsOk.tamperCtl (v : Word) (h : RegsOk s.regs) : RegsOk (s.tamperCtl v).regs := by
  unfold State.tamperCtl
  grind [RegsOk.setFld]

theorem RegsOk.rotCtl (who : Prin) (f : RegFam) (c off : Nat) (v : Word) (h : RegsOk s.regs) :
    RegsOk (s.rotCtl who f c off v).regs := by
  unfold State.rotCtl
  grind [RegsOk.storeFields, RegsOk.forceCore, RegsOk.rotStep]

theorem RegsOk.rotCoreWrite (g : Nat) (v : Word) (h : RegsOk s.regs) : RegsOk (s.rotCoreWrite g v).regs := by
  unfold State.rotCoreWrite
  grind [RegsOk.setFlag, RegsOk.releaseCore, RegsOk.fenceCore]

theorem RegsOk.actLine (who : Prin) (f : RegFam) (i j off : Nat) (v : Word) (hi : Option Word) (h
    : RegsOk s.regs) : ∀ t, s.actLine who f i j off v hi = some t → RegsOk t.regs := by
  unfold State.actLine
  repeat' refine ite_some _ _ _ _ ?_ ?_
  all_goals
    intro t e
    grind [RegsOk.portCfg, RegsOk.laneCfg, RegsOk.fenceQuad, RegsOk.setFlag, RegsOk.fenceLink, RegsOk.poolWrite,
      RegsOk.ztfCommit, RegsOk.storeFields64]

theorem RegsOk.actSa (who : Prin) (f : RegFam) (i j off : Nat) (v : Word) (hi : Option Word) (h : RegsOk s.regs)
    : ∀ t, s.actSa who f i j off v hi = some t → RegsOk t.regs := by
  unfold State.actSa
  repeat' refine ite_some _ _ _ _ ?_ ?_
  all_goals
    intro t e
    grind [RegsOk.saKeyWrite, RegsOk.nextPnWrite, RegsOk.storeFields, RegsOk.costCtl]

theorem RegsOk.actDev (who : Prin) (f : RegFam) (i j k off : Nat) (v : Word) (h : RegsOk s.regs) :
    ∀ t, s.actDev who f i j k off v = some t → RegsOk t.regs := by
  unfold State.actDev
  repeat' refine ite_some _ _ _ _ ?_ ?_
  all_goals
    intro t e
    grind [Option.map_eq_some_iff, RegsOk.tintCtl, RegsOk.setFld, RegsOk.storeFields, RegsOk.srcWrite, RegsOk.tamperCtl,
      RegsOk.aliveKick, RegsOk.dustCtl, RegsOk.pwrCmd, RegsOk.clkCtl, RegsOk.ringCfg, RegsOk.ringPortFence]

theorem RegsOk.actCluster (who : Prin) (f : RegFam) (c i j off : Nat) (v : Word) (h : RegsOk s.regs) :
    ∀ t, s.actCluster who f c i j off v = some t → RegsOk t.regs := by
  unfold State.actCluster
  dsimp only
  repeat' refine ite_some _ _ _ _ ?_ ?_
  all_goals
    intro t e
    grind [Option.map_eq_some_iff, RegsOk.rotCtl, RegsOk.rotCoreWrite, RegsOk.srcWrite, RegsOk.wr, RegsOk.storeFields,
      RegsOk.remapStart, RegsOk.arbPri, RegsOk.mrepWrite, RegsOk.dmaCtl, RegsOk.dmaQcfg, RegsOk.dmaTail, RegsOk.dmaFall]

theorem RegsOk.regAct (who : Prin) (f : RegFam) (i j k off : Nat) (v : Word) (hi : Option Word) (h
    : RegsOk s.regs) : RegsOk (s.regAct who f i j k off v hi).regs := by
  unfold State.regAct
  extract_lets a
  cases e : a with
  | none => exact h.storeFields64 _ _ _ _ _
  | some t => grind [RegsOk.actCluster, RegsOk.actDev, RegsOk.actSa, RegsOk.actLine]

theorem RegsOk.regEffect (who : Prin) (f : RegFam) (is : List Nat) (off : Nat) (v : Word) (hi : Option Word) (h
    : RegsOk s.regs) : RegsOk (s.regEffect who f is off v hi).regs := by
  unfold State.regEffect
  grind [RegsOk.foldl, RegsOk.regAct, RegsOk.devRise, RegsOk.levelRise]

theorem RegsOk.regWrite (who : Prin) (off : Nat) (v : Word) (h : RegsOk s.regs) :
    RegsOk (s.regWrite who off v).regs := by
  unfold State.regWrite
  grind [RegsOk.regEffect]

theorem RegsOk.memwinWrite (who : Prin) (v : Word) (h : RegsOk s.regs) : RegsOk (s.memwinWrite who v).regs :=
  .ite (h.setMemwin _ _) (h.accRefused _ _ _ _)

theorem RegsOk.busWrite (who : Prin) (off : Nat) (v : Word) (h : RegsOk s.regs) :
    RegsOk (s.busWrite who off v).regs := by
  unfold State.busWrite
  grind [RegsOk.accRefused, RegsOk.memwinWrite, RegsOk.accUnavail, RegsOk.regWrite]

theorem RegsOk.msixWrite (i : Nat) (v : Word) (h : RegsOk s.regs) : RegsOk (s.msixWrite i v).regs := by
  unfold State.msixWrite
  grind [RegsOk.msixSend]

theorem RegsOk.bar2Write (off : Nat) (v : Word) (h : RegsOk s.regs) : RegsOk (s.bar2Write off v).regs := by
  unfold State.bar2Write
  grind [RegsOk.inc64, RegsOk.mbxGo, RegsOk.mbxAck, RegsOk.msixWrite]

theorem RegsOk.ctlRead (g x : Nat) (h : RegsOk s.regs) : RegsOk (s.ctlRead g x).2.regs := by
  unfold State.ctlRead
  grind [RegsOk.frmNext]

theorem RegsOk.ctlWrite (g x : Nat) (v : Word) (h : RegsOk s.regs) : RegsOk (s.ctlWrite g x v).regs := by
  unfold State.ctlWrite
  grind [RegsOk.frmProgress, RegsOk.frmDone, RegsOk.setCore, RegsOk.rotReady]

theorem RegsOk.winRead (g ea : Nat) (h : RegsOk s.regs) : RegsOk (s.winRead g ea).2.regs := by
  unfold State.winRead
  grind [RegsOk.regRead, RegsOk.ctlRead]

theorem RegsOk.winWrite (g ea : Nat) (v : Word) (h : RegsOk s.regs) : RegsOk (s.winWrite g ea v).regs := by
  unfold State.winWrite
  grind [RegsOk.regWrite, RegsOk.ctlWrite]

theorem RegsOk.winRead8 (g ea : Nat) (h : RegsOk s.regs) : RegsOk (s.winRead8 g ea).2.regs := by
  unfold State.winRead8
  grind [RegsOk.winRead]

theorem RegsOk.winWrite8 (g ea : Nat) (v : DWord) (h : RegsOk s.regs) : RegsOk (s.winWrite8 g ea v).regs := by
  unfold State.winWrite8
  grind [RegsOk.winWrite, RegsOk.regEffect, RegsOk.frmDone]

theorem RegsOk.vaultWord (g ea : Nat) (h : RegsOk s.regs) : RegsOk (s.vaultWord g ea).2.regs := by
  unfold State.vaultWord
  grind [RegsOk.trngWord, RegsOk.draw]

theorem RegsOk.vaultStore (g ea size : Nat) (lo hi : TD) (h : RegsOk s.regs) :
    RegsOk (s.vaultStore g ea size lo hi).regs := by
  unfold State.vaultStore
  grind

theorem RegsOk.farRead (g : Nat) (f : Far) (h : RegsOk s.regs) : RegsOk (s.farRead g f).2.regs := by
  unfold State.farRead
  grind [RegsOk.vaultWord, RegsOk.winRead8, RegsOk.winRead]

theorem RegsOk.farWrite (g : Nat) (f : Far) (h : RegsOk s.regs) : RegsOk (s.farWrite g f).regs := by
  unfold State.farWrite
  grind [RegsOk.vaultStore, RegsOk.winWrite8, RegsOk.winWrite]

theorem RegsOk.farDone (g : Nat) (f : Far) (h : RegsOk s.regs) : RegsOk (s.farDone g f).regs :=
  .ite ((h.setCore _ _).lockWrite _ _) (h.setCore _ _)

theorem RegsOk.farErr (g : Nat) (f : Far) (ue : Bool) (h : RegsOk s.regs) : RegsOk (s.farErr g f ue).regs := by
  unfold State.farErr
  grind [RegsOk.coreMemErr, RegsOk.cmemErr, RegsOk.setCore]

theorem RegsOk.memDone (g : Nat) (f : Far) (lo hi : TD) (ecc : Ecc) (h : RegsOk s.regs) :
    RegsOk (s.memDone g f lo hi ecc).regs := by
  unfold State.memDone
  grind [RegsOk.farDone, RegsOk.setCore, RegsOk.farErr, RegsOk.draw, RegsOk.setClu]

theorem RegsOk.readZeroed (who : Prin) (off : Nat) (t : Tint) (h : RegsOk s.regs) :
    RegsOk (s.readZeroed who off t).regs := (((h.inc64 _).evtSet _ _ _ _).wr64 _ _).wr _ _

theorem RegsOk.give (who : Prin) (off : Nat) (v : Word) (h : RegsOk s.regs) : RegsOk (s.give who off v).regs :=
  h.emit _

theorem RegsOk.ctlAperture (who : Prin) (g x : Nat) (v : Word) (h : RegsOk s.regs) :
    RegsOk (s.ctlAperture who g x v).regs := by
  unfold State.ctlAperture
  extract_lets c
  refine .ite (h.setCore _ _) (.ite h (.ite (h.accRefused _ _ _ _) (.ite (h.setCore _ _) (.ite (h.setCore _ _) ?_))))
  exact h.setCore _ _

theorem RegsOk.apertureWrite (who : Prin) (w : Win) (x n : Nat) (v : BitVec 64) (h : RegsOk s.regs) :
    RegsOk (s.apertureWrite who w x n v).regs := by
  unfold State.apertureWrite
  grind [RegsOk.setClu, RegsOk.setCore, RegsOk.ctlAperture]

theorem RegsOk.giveZero (who : Prin) (off n : Nat) (h : RegsOk s.regs) :
    RegsOk (s.giveZero who off n).regs := by
  induction n generalizing s off with
  | zero => exact h
  | succ n ih =>
    unfold State.giveZero
    exact ih _ (h.give _ _ _)

theorem RegsOk.apertureRead (who : Prin) (w : Win) (x n : Nat) (h : RegsOk s.regs) :
    RegsOk (s.apertureRead who w x n).regs := by
  induction n generalizing s x with
  | zero => exact h
  | succ n ih =>
    unfold State.apertureRead
    grind [RegsOk.give, RegsOk.accRefused, RegsOk.draw]

theorem RegsOk.aperture (who : Prin) (x size : Nat) (wr : Option (BitVec 64)) (h : RegsOk s.regs) :
    RegsOk (s.aperture who x size wr).regs := by
  unfold State.aperture
  grind [RegsOk.accRefused, RegsOk.giveZero, RegsOk.accUnavail, RegsOk.lensRefused, RegsOk.performBeats,
    RegsOk.apertureWrite, RegsOk.readZeroed, RegsOk.apertureRead]

theorem RegsOk.smbRead (code : Nat) (h : RegsOk s.regs) : RegsOk (s.smbRead code).regs := by
  unfold State.smbRead
  grind [RegsOk.give, RegsOk.accRefused]

theorem RegsOk.smbNotify (v : Word) (h : RegsOk s.regs) : RegsOk (s.smbNotify v).regs := (h.wr _ _).raiseDev _

theorem RegsOk.smbAccess (code : Nat) (wr : Option Word) (h : RegsOk s.regs) :
    RegsOk (s.smbAccess code wr).regs := by
  unfold State.smbAccess
  grind [RegsOk.smbRead, RegsOk.accRefused, RegsOk.smbNotify]

theorem RegsOk.access (who : Prin) (off : Nat) (wr : Option Word) (h : RegsOk s.regs) :
    RegsOk (s.access who off wr).regs := by
  unfold State.access
  grind [RegsOk.smbAccess, RegsOk.accRefused, RegsOk.busWrite, RegsOk.busRead, RegsOk.aperture, RegsOk.give]

theorem RegsOk.functionReset (h : RegsOk s.regs) : RegsOk s.functionReset.regs := by
  unfold State.functionReset
  grind [RegsOk.foldl, RegsOk.dropCaptures, RegsOk.wr]

theorem RegsOk.linkTake (ecc : Ecc) (m : LMsg) (h : RegsOk s.regs) : RegsOk (s.linkTake ecc m).regs := by
  cases m with
  | desc f => exact h.takeDesc f
  | cell f i bs last => exact h.takeCell f i bs last _
  | arrival f d => exact h.takeArrival f d
  | pull f i r => exact h.takePull f i ecc
  | progress f n => exact h.takeProgress f n
  | done f r n => exact h.takeDone f r n

end Sys2Proof.Machine
end

section
/-! SUPPORT. Every command answers a next state, with the queue as it was and the register map canonical if it was. -/

namespace Sys2Proof.Machine
open Sys2Proof

variable {s : State}

/-- The outcome is a next state with the queue of `s`, and with a canonical register map where `s` has one. -/
def Answers (s : State) (o : Host.Outcome State Fault Refusal) : Prop :=
  ∃ t, o = .next t ∧ t.pending = s.pending ∧ (RegsOk s.regs → RegsOk t.regs)

theorem answers_next {t : State} :
    Answers s (.next t) ↔ t.pending = s.pending ∧ (RegsOk s.regs → RegsOk t.regs) :=
  ⟨fun ⟨_, h, k⟩ => Host.Outcome.next.inj h ▸ k, fun k => ⟨t, rfl, k⟩⟩

@[simp] theorem State.linkTake_pending (ecc : Ecc) (m : LMsg) : (s.linkTake ecc m).pending = s.pending := by
  cases m <;> simp [State.linkTake]

/-- An operation of a core, alone in its bundle. -/
theorem issueOne_answers (g : CoreId) (sl : Slot) (op : Op) : Answers s (s.issueOne g sl op) :=
  answers_next.2 ⟨by simp, fun h => h.issue _ _ _ _⟩

theorem execBundleIssue_answers (g : CoreId) (fetch data : Ecc) : Answers s (execBundleIssue g fetch data s) :=
  answers_next.2 ⟨by simp, fun h => h.issue _ _ _ _⟩

theorem execResultCommit_answers (g : CoreId) (ecc : Ecc) : Answers s (execResultCommit g ecc s) := by
  unfold execResultCommit
  grind [answers_next, State.setCore_kept, State.loadErr_kept, State.putCore_kept, RegsOk.setCore,
    RegsOk.loadErr, RegsOk.putCore]

theorem execInterruptAccept_answers (g : CoreId) : Answers s (execInterruptAccept g s) := by
  unfold execInterruptAccept
  grind [answers_next, State.toBoundary_kept, State.boundaryEntry_kept, State.accept_kept, State.enter_kept,
    State.setCore_kept, RegsOk.toBoundary, RegsOk.boundaryEntry, RegsOk.accept, RegsOk.enter, RegsOk.setCore]

theorem execKeeperTimeLimit_answers (g : CoreId) : Answers s (execKeeperTimeLimit g s) := by
  unfold execKeeperTimeLimit
  grind [answers_next, State.toBoundary_kept, State.upTo_kept, State.boundaryEntry_kept, State.keeperAbort_kept,
    State.unlock_kept, State.setCore_kept, RegsOk.toBoundary, RegsOk.upTo, RegsOk.boundaryEntry,
    RegsOk.keeperAbort, RegsOk.unlock, RegsOk.setCore]

theorem execCoreWake_answers (g : CoreId) : Answers s (execCoreWake g s) := by
  unfold execCoreWake
  grind [answers_next, State.wake_kept, RegsOk.wake]

theorem execSleepTimerExpire_answers (g : CoreId) : Answers s (execSleepTimerExpire g s) := by
  unfold execSleepTimerExpire
  grind [answers_next, State.wake_kept, State.upTo_kept, RegsOk.wake, RegsOk.upTo]

theorem execLensHalt_answers (g : CoreId) : Answers s (execLensHalt g s) := by
  unfold execLensHalt
  grind [answers_next, State.lensRefused_kept, State.wake_kept, State.setCore_kept, State.toBoundary_kept,
    State.boundaryEntry_kept, RegsOk.lensRefused, RegsOk.wake, RegsOk.setCore, RegsOk.toBoundary,
    RegsOk.boundaryEntry]

theorem execKloadComplete_answers (g : CoreId) (ecc : Ecc) : Answers s (execKloadComplete g ecc s) := by
  unfold execKloadComplete
  grind [answers_next, State.upTo_kept, State.setCore_kept, State.skbErr_kept, State.retireCtx_kept,
    State.setClu_kept, RegsOk.upTo, RegsOk.setCore, RegsOk.skbErr, RegsOk.retireCtx, RegsOk.setClu]

theorem execEvcEoi_answers (g : CoreId) (v : Word) : Answers s (execEvcEoi g v s) :=
  answers_next.2 ⟨by simp, fun h => h.evcEoi _ _⟩

theorem execLockseqBegin_answers (g : CoreId) : Answers s (execLockseqBegin g s) :=
  answers_next.2 ⟨by simp, fun h => h.lockWrite _ _⟩

theorem execLockseqEnd_answers (g : CoreId) : Answers s (execLockseqEnd g s) :=
  answers_next.2 ⟨by simp, fun h => h.lockWrite _ _⟩

theorem execLockseqTimeout_answers (g : CoreId) : Answers s (execLockseqTimeout g s) := by
  unfold execLockseqTimeout
  grind [answers_next, State.upTo_kept, State.unlock_kept, State.setCore_kept, RegsOk.upTo, RegsOk.unlock,
    RegsOk.setCore]

theorem execPortEnable_answers (sd : Side) (p : PortId) (v : Word) : Answers s (execPortEnable sd p v s) := by
  unfold execPortEnable
  grind [answers_next, State.enablePort_kept, RegsOk.enablePort]

theorem execPortDisable_answers (sd : Side) (p : PortId) : Answers s (execPortDisable sd p s) := by
  unfold execPortDisable
  grind [answers_next, State.disablePort_kept, RegsOk.disablePort]

theorem execPortDrained_answers (sd : Side) (p : PortId) : Answers s (execPortDrained sd p s) := by
  unfold execPortDrained
  grind [answers_next, State.unlockRx_kept, State.linkFall_kept, State.txIdle_kept, State.setFlag_kept,
    State.setEgr_kept, RegsOk.unlockRx, RegsOk.linkFall, RegsOk.txIdle, RegsOk.setFlag, RegsOk.setEgr]

theorem execLinkUp_answers (sd : Side) (p : PortId) : Answers s (execLinkUp sd p s) := by
  unfold execLinkUp
  grind [answers_next, foldl_kept, RegsOk.foldl, State.setFld_kept, State.setFlag_kept, State.portEvt_kept,
    RegsOk.setFld, RegsOk.setFlag, RegsOk.portEvt]

theorem execLinkDown_answers (sd : Side) (p : PortId) (cause : DownCause) :
    Answers s (execLinkDown sd p cause s) := by
  unfold execLinkDown
  grind [answers_next, State.portEvt_kept, State.linkFall_kept, State.rxAbort_kept, State.unlockRx_kept,
    RegsOk.portEvt, RegsOk.linkFall, RegsOk.rxAbort, RegsOk.unlockRx]

theorem execRxCell_answers (sd : Side) (p : PortId) (cell : List Byte) :
    Answers s (execRxCell sd p cell s) := by
  unfold execRxCell
  grind [answers_next, State.setRx_kept, State.portCount_kept, State.lateDiscard_kept, State.sendCell_kept,
    State.setFrame_kept, State.handOver_kept, RegsOk.setRx, RegsOk.portCount, RegsOk.lateDiscard,
    RegsOk.sendCell, RegsOk.setFrame, RegsOk.handOver]

theorem execRxFrameEnd_answers (sd : Side) (p : PortId) (tail : List Byte) (bad : Bool) :
    Answers s (execRxFrameEnd sd p tail bad s) := by
  unfold execRxFrameEnd
  grind [answers_next, State.setRx_kept, State.setFrame_kept, State.portCount_kept, State.portEvt_kept,
    State.lateDiscard_kept, State.linkPush_kept, State.sendCell_kept, State.spillSend_kept,
    State.endCorrect_kept, State.handOver_kept, RegsOk.setRx, RegsOk.setFrame, RegsOk.portCount, RegsOk.portEvt,
    RegsOk.lateDiscard, RegsOk.linkPush, RegsOk.sendCell, RegsOk.spillSend, RegsOk.endCorrect, RegsOk.handOver]

theorem execRxFecCodeword_answers (sd : Side) (p : PortId) (symbols : BitVec 8) (bad inFrame : Bool) :
    Answers s (execRxFecCodeword sd p symbols bad inFrame s) := by
  unfold execRxFecCodeword
  grind [answers_next, State.portEvt_kept, State.portCount_kept, State.setRx_kept, RegsOk.portEvt,
    RegsOk.portCount, RegsOk.setRx]

theorem execLaneFence_answers (sd : Side) (l : PortId) : Answers s (execLaneFence sd l s) :=
  answers_next.2 ⟨by simp, fun h => h.fenceLane _ _⟩

theorem execLaneCalFail_answers (sd : Side) (l : PortId) : Answers s (execLaneCalFail sd l s) := by
  unfold execLaneCalFail
  grind [answers_next, State.setFlag_kept, State.fenceLane_kept, RegsOk.setFlag, RegsOk.fenceLane]

theorem execUnfence_answers (sd : Side) (l : PortId) : Answers s (execUnfence sd l s) :=
  answers_next.2 ⟨by simp, fun h => h.unfenceLane _ _⟩

theorem execQuadFence_answers (sd : Side) (q : QuadId) : Answers s (execQuadFence sd q s) :=
  answers_next.2 ⟨by simp, fun h => h.fenceQuad _ _ _⟩

theorem execQuadFault_answers (sd : Side) (q : QuadId) (code : QuadCode) :
    Answers s (execQuadFault sd q code s) := by
  unfold execQuadFault
  grind [answers_next, State.fenceQuad_kept, State.setFlag_kept, RegsOk.fenceQuad, RegsOk.setFlag]

theorem execLineLock_answers (sd : Side) : Answers s (execLineLock sd s) :=
  answers_next.2 ⟨by simp, fun h => h.setFlag _ _ _⟩

theorem execLaneRxLock_answers (sd : Side) (l : PortId) (sig cdr cal blk : Bool) :
    Answers s (execLaneRxLock sd l sig cdr cal blk s) := by
  unfold execLaneRxLock
  grind [answers_next, State.setFlag_kept, State.setFld_kept, State.rxAbort_kept, State.linkFall_kept,
    RegsOk.setFlag, RegsOk.setFld, RegsOk.rxAbort, RegsOk.linkFall]

theorem execEgressTxFrame_answers (sd : Side) (p : PortId) (ecc : Ecc) :
    Answers s (execEgressTxFrame sd p ecc s) := by
  unfold execEgressTxFrame
  grind [answers_next, State.deadlineMiss_kept, State.bufErr_kept, State.drop_kept, State.portCount_kept,
    State.underrun_kept, State.txFrame_kept, State.abandon_kept, RegsOk.deadlineMiss, RegsOk.bufErr,
    RegsOk.drop, RegsOk.portCount, RegsOk.underrun, RegsOk.txFrame, RegsOk.abandon]

theorem execPrismDecision_answers (sd : Side) (p : PortId) (ecc : Ecc) :
    Answers s (execPrismDecision sd p ecc s) := by
  unfold execPrismDecision
  grind [answers_next, State.upTo_kept, State.bufErr_kept, State.judge_kept, RegsOk.upTo, RegsOk.bufErr,
    RegsOk.judge]

theorem execFrmNextPop_answers (g : CoreId) : Answers s (execFrmNextPop g s) := by
  unfold execFrmNextPop
  grind [answers_next, State.frmNext_kept, RegsOk.frmNext]

theorem execFrmProgress_answers (g : CoreId) (v : Word) : Answers s (execFrmProgress g v s) :=
  answers_next.2 ⟨by simp, fun h => h.frmProgress _ _⟩

theorem execFrmDone_answers (g : CoreId) (lo hi : Word) : Answers s (execFrmDone g lo hi s) :=
  answers_next.2 ⟨by simp, fun h => h.frmDone _ _ _⟩

theorem execClinkCellRx_answers (c : ClId) (d : LinkDir) (err : Word) (ecc : Ecc) :
    Answers s (execClinkCellRx c d err ecc s) := by
  unfold execClinkCellRx
  grind [answers_next, State.upTo_kept, State.linkRetry_kept, State.inc64_kept, State.setLink_kept,
    State.setFld_kept, State.linkFill_kept, State.linkTake_pending, RegsOk.upTo, RegsOk.linkRetry, RegsOk.inc64,
    RegsOk.setLink, RegsOk.setFld, RegsOk.linkFill, RegsOk.linkTake]

theorem execClinkCellTimeout_answers (c : ClId) (d : LinkDir) : Answers s (execClinkCellTimeout c d s) := by
  unfold execClinkCellTimeout
  grind [answers_next, State.linkRetry_kept, State.upTo_kept, RegsOk.linkRetry, RegsOk.upTo]

theorem execClinkCreditAudit_answers (c : ClId) (d : LinkDir) : Answers s (execClinkCreditAudit c d s) := by
  unfold execClinkCreditAudit
  grind [answers_next, State.linkAudit_kept, RegsOk.linkAudit]

theorem execClinkIdleInsert_answers (c : ClId) (d : LinkDir) : Answers s (execClinkIdleInsert c d s) := by
  unfold execClinkIdleInsert
  grind [answers_next, State.linkAudit_kept, State.upTo_kept, RegsOk.linkAudit, RegsOk.upTo]

theorem execClinkFence_answers (c : ClId) : Answers s (execClinkFence c s) :=
  answers_next.2 ⟨by simp, fun h => (h.setFlag _ _ _).fenceLink _ _⟩

theorem execClinkPoolWrite_answers (who : Prin) (c : ClId) (v : Word) :
    Answers s (execClinkPoolWrite who c v s) := by
  unfold execClinkPoolWrite
  grind [answers_next, State.guarded_kept, State.poolWrite_kept, RegsOk.guarded, RegsOk.poolWrite]

theorem execClinkTrained_answers (c : ClId) : Answers s (execClinkTrained c s) := by
  unfold execClinkTrained
  grind [answers_next, State.clearLink_kept, State.setFld_kept, State.setFlag_kept, State.raiseShared_kept,
    RegsOk.clearLink, RegsOk.setFld, RegsOk.setFlag, RegsOk.raiseShared]

theorem execClinkLock_answers (who : Prin) : Answers s (execClinkLock who s) := by
  unfold execClinkLock
  grind [answers_next, State.guarded_kept, State.setFlag_kept, RegsOk.guarded, RegsOk.setFlag]

theorem execReseqRelease_answers (sd : Side) (p : PortId) : Answers s (execReseqRelease sd p s) := by
  unfold execReseqRelease
  grind [answers_next, State.leaveOrder_kept, State.prune_kept, State.setFrame_kept, State.deadlineMiss_kept,
    State.release_kept, State.replayTake_kept, State.evtSet_kept, State.drop_kept, RegsOk.leaveOrder,
    RegsOk.prune, RegsOk.setFrame, RegsOk.deadlineMiss, RegsOk.release, RegsOk.replayTake, RegsOk.evtSet,
    RegsOk.drop]

theorem execDeadlineMiss_answers (sd : Side) (p : PortId) : Answers s (execDeadlineMiss sd p s) := by
  unfold execDeadlineMiss
  grind [answers_next, State.deadlineMiss_kept, State.upTo_kept, RegsOk.deadlineMiss, RegsOk.upTo]

theorem execRsqLock_answers (who : Prin) (sd : Side) : Answers s (execRsqLock who sd s) := by
  unfold execRsqLock
  grind [answers_next, State.guarded_kept, State.setFlag_kept, RegsOk.guarded, RegsOk.setFlag]

theorem execPrismLock_answers (who : Prin) (sd : Side) : Answers s (execPrismLock who sd s) := by
  unfold execPrismLock
  grind [answers_next, State.guarded_kept, State.setFlag_kept, RegsOk.guarded, RegsOk.setFlag]

theorem execLedgerAudit_answers : Answers s (execLedgerAudit s) := by
  unfold execLedgerAudit
  grind [answers_next, foldl_kept, RegsOk.foldl, State.auditPort_kept, RegsOk.auditPort]

theorem execLedgerLock_answers (who : Prin) : Answers s (execLedgerLock who s) := by
  unfold execLedgerLock
  grind [answers_next, State.guarded_kept, State.setFlag_kept, RegsOk.guarded, RegsOk.setFlag]

theorem execZtfCommit_answers (who : Prin) (p : PortId) : Answers s (execZtfCommit who p s) := by
  unfold execZtfCommit
  grind [answers_next, State.guarded_kept, State.ztfCommit_kept, RegsOk.guarded, RegsOk.ztfCommit]

theorem execDlvLock_answers (who : Prin) : Answers s (execDlvLock who s) := by
  unfold execDlvLock
  grind [answers_next, State.guarded_kept, State.setFlag_kept, RegsOk.guarded, RegsOk.setFlag]

theorem execPuttyJob_answers (p : PortId) (b : R3) : Answers s (execPuttyJob p b s) := by
  unfold execPuttyJob
  grind [answers_next, State.upTo_kept, State.puttyJob_kept, RegsOk.upTo, RegsOk.puttyJob]

theorem execTfcStreamStart_answers (p : PortId) : Answers s (execTfcStreamStart p s) := by
  unfold execTfcStreamStart
  grind [answers_next, State.setFlag_kept, State.setEgr_kept, RegsOk.setFlag, RegsOk.setEgr]

theorem execSlotStart_answers (p : PortId) : Answers s (execSlotStart p s) := by
  unfold execSlotStart
  grind [answers_next, foldl_kept, RegsOk.foldl, State.upTo_kept, State.deadlineMiss_kept, State.setEgr_kept,
    State.inc64_kept, State.fillSlot_kept, RegsOk.upTo, RegsOk.deadlineMiss, RegsOk.setEgr, RegsOk.inc64,
    RegsOk.fillSlot]

theorem execCostCommit_answers (who : Prin) (t : Bool) : Answers s (execCostCommit who t s) := by
  unfold execCostCommit
  grind [answers_next, State.guarded_kept, State.costCommit_kept, RegsOk.guarded, RegsOk.costCommit]

theorem execCostInval_answers (who : Prin) (t : Bool) : Answers s (execCostInval who t s) := by
  unfold execCostInval
  grind [answers_next, State.guarded_kept, State.costInval_kept, RegsOk.guarded, RegsOk.costInval]

theorem execSaKeyWrite_answers (i : BitVec 12) (v : Word) : Answers s (execSaKeyWrite i v s) :=
  answers_next.2 ⟨by simp, fun h => h.saKeyWrite _ _⟩

theorem execSaNextPnWrite_answers (i : BitVec 12) (k : Bool) (v : DWord) :
    Answers s (execSaNextPnWrite i k v s) :=
  answers_next.2 ⟨by simp, fun h => h.nextPnWrite _ _ _⟩

theorem execSaEvtPop_answers : Answers s (execSaEvtPop s) := by
  unfold execSaEvtPop
  grind [answers_next, State.saEvtPop_kept, RegsOk.saEvtPop]

theorem execCmemBeatGrant_answers (c : ClId) (beats : List Beat) : Answers s (execCmemBeatGrant c beats s) := by
  unfold execCmemBeatGrant
  grind [answers_next, foldl_kept, RegsOk.foldl, State.performBeats_kept, State.upTo_kept, State.arbBanks_kept,
    State.arbAge_kept, State.setClu_kept, RegsOk.performBeats, RegsOk.upTo, RegsOk.arbBanks, RegsOk.arbAge,
    RegsOk.setClu]

theorem execQuotaWindowEnd_answers (c : ClId) : Answers s (execQuotaWindowEnd c s) :=
  answers_next.2 ⟨by simp, fun h => (h.upTo _).setClu _ _⟩

theorem execArbPriWrite_answers (c : ClId) (r : Fin 12) (v : Word) : Answers s (execArbPriWrite c r v s) :=
  answers_next.2 ⟨by simp, fun h => .ite (h.arbPri _ _ _) h⟩

theorem execRemapStart_answers (c : ClId) (bank : R5) : Answers s (execRemapStart c bank s) := by
  unfold execRemapStart
  grind [answers_next, State.remapStart_kept, State.setFld_kept, RegsOk.remapStart, RegsOk.setFld]

theorem execRemapDone_answers (c : ClId) : Answers s (execRemapDone c s) := by
  unfold execRemapDone
  grind [answers_next, State.setFld_kept, State.setFlag_kept, State.setClu_kept, RegsOk.setFld, RegsOk.setFlag,
    RegsOk.setClu]

theorem execSkimRegion_answers (c : ClId) (failBank : Option R5) (ecc : Ecc) :
    Answers s (execSkimRegion c failBank ecc s) := by
  unfold execSkimRegion
  grind [answers_next, foldl_kept, RegsOk.foldl, State.setClu_kept, State.setFld_kept, State.inc64_kept,
    State.cmemErr_kept, State.skimUe_kept, State.skimFail_kept, RegsOk.setClu, RegsOk.setFld, RegsOk.inc64,
    RegsOk.cmemErr, RegsOk.skimUe, RegsOk.skimFail]

theorem execMrepApply_answers (c : ClId) (n : R3) (v : Word) : Answers s (execMrepApply c n v s) :=
  answers_next.2 ⟨by simp, fun h => .ite (h.mrepWrite _ _ _) h⟩

theorem execDbankReq_answers (who : Prin) (g : CoreId) (v : Word) : Answers s (execDbankReq who g v s) := by
  unfold execDbankReq
  grind [answers_next, State.setCore_kept, State.except_kept, State.accRefused_kept, RegsOk.setCore,
    RegsOk.except, RegsOk.accRefused]

theorem execDbankHandoverDone_answers (g : CoreId) (b : R3) : Answers s (execDbankHandoverDone g b s) := by
  unfold execDbankHandoverDone
  grind [answers_next, State.setCore_kept, State.raisePriv_kept, RegsOk.setCore, RegsOk.raisePriv]

theorem execSkbContextRestore_answers (c : ClId) (i : BitVec 10) (ecc : Ecc) :
    Answers s (execSkbContextRestore c i ecc s) := by
  unfold execSkbContextRestore
  grind [answers_next, State.skbErr_kept, State.setClu_kept, RegsOk.skbErr, RegsOk.setClu]

theorem execRotStep_answers (c : ClId) : Answers s (execRotStep c s) := by
  unfold execRotStep
  grind [answers_next, State.upTo_kept, State.rotStep_kept, State.setClu_kept, RegsOk.upTo, RegsOk.rotStep,
    RegsOk.setClu]

theorem execStepNow_answers (c : ClId) : Answers s (execStepNow c s) :=
  answers_next.2 ⟨by simp, fun h => .ite (h.rotStep _) h⟩

theorem execForce_answers (c : ClId) (n : R3) : Answers s (execForce c n s) :=
  answers_next.2 ⟨by simp, fun h => .ite (h.forceCore _ _) h⟩

theorem execRotDrainDone_answers (g : CoreId) : Answers s (execRotDrainDone g s) := by
  unfold execRotDrainDone
  grind [answers_next, State.enterTest_kept, RegsOk.enterTest]

theorem execRotDrainTimeout_answers (g : CoreId) : Answers s (execRotDrainTimeout g s) := by
  unfold execRotDrainTimeout
  grind [answers_next, State.fenceCore_kept, State.upTo_kept, RegsOk.fenceCore, RegsOk.upTo]

theorem execBistDone_answers (g : CoreId) (logicOk memOk : Bool) :
    Answers s (execBistDone g logicOk memOk s) := by
  unfold execBistDone
  grind [answers_next, State.inc64_kept, State.upTo_kept, State.setFlag_kept, State.toReload_kept,
    State.draw_kept, State.fenceCore_kept, RegsOk.inc64, RegsOk.upTo, RegsOk.setFlag, RegsOk.toReload,
    RegsOk.draw, RegsOk.fenceCore]

theorem execBtbKeyWrite_answers (g : CoreId) (x : R4) (v : Word) : Answers s (execBtbKeyWrite g x v s) :=
  answers_next.2 ⟨by simp, fun h => h.setCore _ _⟩

theorem execKrgnWrite_answers (g : CoreId) (slot : Bool) (n : BitVec 2) (v : Word) :
    Answers s (execKrgnWrite g slot n v s) :=
  answers_next.2 ⟨by simp, fun h => h.setCore _ _⟩

theorem execRelease_answers (g : CoreId) : Answers s (execRelease g s) := by
  unfold execRelease
  grind [answers_next, State.releaseCore_kept, RegsOk.releaseCore]

theorem execRotRdy_answers (g : CoreId) (v : Word) : Answers s (execRotRdy g v s) := by
  unfold execRotRdy
  grind [answers_next, State.except_kept, State.rotReady_kept, RegsOk.except, RegsOk.rotReady]

theorem execStartupTimeout_answers (g : CoreId) : Answers s (execStartupTimeout g s) := by
  unfold execStartupTimeout
  grind [answers_next, State.fenceCore_kept, State.upTo_kept, RegsOk.fenceCore, RegsOk.upTo]

theorem execMirrorSwap_answers (g : CoreId) : Answers s (execMirrorSwap g s) :=
  answers_next.2 ⟨by simp, fun h => h.setFlag _ _ _⟩

theorem execCoreFence_answers (g : CoreId) : Answers s (execCoreFence g s) := by
  unfold execCoreFence
  grind [answers_next, State.fenceCore_kept, RegsOk.fenceCore]

theorem execMirrorDone_answers : Answers s (execMirrorDone s) := by
  unfold execMirrorDone
  extract_lets new all old s1 s2 s3 s4
  split
  · exact answers_next.2 ⟨rfl, id⟩
  · refine answers_next.2 ⟨?_, fun h => ?_⟩
    · have h3 : s3.pending = s.pending := by simp [s3, s2, s1]
      have h4 : s4.pending = s3.pending := (foldl_kept _ _ (fun t x => by split <;> simp) _).1
      exact h4.trans h3
    · have h3 : RegsOk s3.regs := by grind [RegsOk.foldl, RegsOk.setFlag, RegsOk.raiseDev, RegsOk.wr]
      have h4 : RegsOk s4.regs := RegsOk.foldl _ _ (fun t x ht => .ite (ht.costInval _) ht) h3
      exact h4

theorem execErrqPop_answers (who : Prin) (c : ClId) : Answers s (execErrqPop who c s) := by
  unfold execErrqPop
  grind [answers_next, State.popGuard_kept, State.errqRead_kept, RegsOk.popGuard, RegsOk.errqRead]

theorem execDerrqPop_answers (who : Prin) : Answers s (execDerrqPop who s) := by
  unfold execDerrqPop
  grind [answers_next, State.popGuard_kept, State.derrqRead_kept, RegsOk.popGuard, RegsOk.derrqRead]

theorem execAliveKick_answers : Answers s (execAliveKick s) :=
  answers_next.2 ⟨by simp, fun h => h.aliveKick⟩

theorem execAliveTimeout_answers : Answers s (execAliveTimeout s) := by
  unfold execAliveTimeout
  grind [answers_next, State.upTo_kept, RegsOk.upTo]

theorem execPowerOff_answers (who : Prin) (v : Word) : Answers s (execPowerOff who v s) := by
  unfold execPowerOff
  grind [answers_next, State.guarded_kept, State.pwrCmd_kept, RegsOk.guarded, RegsOk.pwrCmd]

theorem execPowerUp_answers (who : Prin) (v : Word) : Answers s (execPowerUp who v s) := by
  unfold execPowerUp
  grind [answers_next, State.guarded_kept, State.pwrCmd_kept, RegsOk.guarded, RegsOk.pwrCmd]

theorem execDomainDrained_answers : Answers s (execDomainDrained s) := by
  unfold execDomainDrained
  grind [answers_next, State.pwrEnd_kept, State.loseDomain_kept, RegsOk.pwrEnd, RegsOk.loseDomain]

theorem execQuiesceTimeout_answers : Answers s (execQuiesceTimeout s) := by
  unfold execQuiesceTimeout
  grind [answers_next, State.pwrEnd_kept, State.upTo_kept, RegsOk.pwrEnd, RegsOk.upTo]

theorem execPowerUpDone_answers : Answers s (execPowerUpDone s) := by
  unfold execPowerUpDone
  grind [answers_next, State.pwrEnd_kept, State.poweredUp_kept, RegsOk.pwrEnd, RegsOk.poweredUp]

theorem execDustRelease_answers (v : Word) : Answers s (execDustRelease v s) :=
  answers_next.2 ⟨by simp, fun h => h.dustCtl _⟩

theorem execDustReleaseDone_answers (ok : Bool) : Answers s (execDustReleaseDone ok s) := by
  unfold execDustReleaseDone
  grind [answers_next, State.setFlag_kept, State.unfenceUnit_kept, State.releaseFail_kept, RegsOk.setFlag,
    RegsOk.unfenceUnit, RegsOk.releaseFail]

theorem execPowerOnReset_answers : Answers s (execPowerOnReset s) :=
  answers_next.2 ⟨by simp, fun h => h.requestReset _⟩

theorem execWarmReset_answers : Answers s (execWarmReset s) :=
  answers_next.2 ⟨by simp, fun h => h.requestReset _⟩

theorem execWarmReq_answers : Answers s (execWarmReq s) :=
  answers_next.2 ⟨by simp, fun h => h.requestReset _⟩

theorem execRefclkFault_answers (refA : Bool) : Answers s (execRefclkFault refA s) :=
  answers_next.2 ⟨by simp, fun h => h.refFault _⟩

theorem execRefclkRecover_answers (refA : Bool) : Answers s (execRefclkRecover refA s) :=
  answers_next.2 ⟨by simp, fun h => .ite ((h.setFlag _ _ _).refSwitch _) (h.setFlag _ _ _)⟩

theorem execRefSel_answers (who : Prin) (b : Bool) : Answers s (execRefSel who b s) := by
  unfold execRefSel
  grind [answers_next, State.guarded_kept, State.refSel_kept, RegsOk.guarded, RegsOk.refSel]

theorem execRefSwitchDone_answers : Answers s (execRefSwitchDone s) := by
  unfold execRefSwitchDone
  grind [answers_next, State.refSwitch_kept, State.setFlag_kept, State.record_kept, State.inc64_kept,
    State.clkEvt_kept, RegsOk.refSwitch, RegsOk.setFlag, RegsOk.record, RegsOk.inc64, RegsOk.clkEvt]

theorem execRefFreqWindow_answers (ppmA ppmB : BitVec 16) : Answers s (execRefFreqWindow ppmA ppmB s) := by
  unfold execRefFreqWindow
  grind [answers_next, State.setFld_kept, State.setFlag_kept, State.clkEvt_kept, State.refFault_kept,
    RegsOk.setFld, RegsOk.setFlag, RegsOk.clkEvt, RegsOk.refFault]

theorem execPllFault_answers : Answers s (execPllFault s) := by
  unfold execPllFault
  grind [answers_next, State.pllSwitch_kept, State.setFlag_kept, RegsOk.pllSwitch, RegsOk.setFlag]

theorem execPllSel_answers (who : Prin) (b : Bool) : Answers s (execPllSel who b s) := by
  unfold execPllSel
  grind [answers_next, State.guarded_kept, State.pllSel_kept, RegsOk.guarded, RegsOk.pllSel]

theorem execStandbyRelock_answers : Answers s (execStandbyRelock s) := by
  unfold execStandbyRelock
  grind [answers_next, State.setFlag_kept, RegsOk.setFlag]

theorem execStandbyLost_answers : Answers s (execStandbyLost s) := by
  unfold execStandbyLost
  grind [answers_next, State.clkEvt_kept, State.setFlag_kept, RegsOk.clkEvt, RegsOk.setFlag]

theorem execSupplyDroop_answers (i : BitVec 4) : Answers s (execSupplyDroop i s) := by
  unfold execSupplyDroop
  grind [answers_next, State.monEvt_kept, State.recordMs_kept, State.inc64_kept, RegsOk.monEvt, RegsOk.recordMs,
    RegsOk.inc64]

theorem execBrownOut_answers (i : BitVec 4) : Answers s (execBrownOut i s) := by
  unfold execBrownOut
  grind [answers_next, State.powerReset_kept, RegsOk.powerReset]

theorem execThermalSample_answers (samples : List (BitVec 16)) : Answers s (execThermalSample samples s) := by
  unfold execThermalSample
  split
  · exact answers_next.2 ⟨rfl, id⟩
  · extract_lets s1
    have h1 : s1.pending = s.pending ∧ (RegsOk s.regs → RegsOk s1.regs) := by
      grind [foldl_kept, RegsOk.foldl, State.wr_kept, RegsOk.wr]
    clear_value s1
    grind [answers_next, foldl_kept, RegsOk.foldl, State.setDomain_kept, State.monEvt_kept, State.recordMs_kept,
      State.requestReset_kept, RegsOk.setDomain, RegsOk.monEvt, RegsOk.recordMs, RegsOk.requestReset]

theorem execTintRclrEnWrite_answers (v : Word) : Answers s (execTintRclrEnWrite v s) :=
  answers_next.2 ⟨by simp, fun h => h.tintCtl _⟩

theorem execDmaEnable_answers (who : Prin) (c : ClId) (ch : R4) : Answers s (execDmaEnable who c ch s) := by
  unfold execDmaEnable
  grind [answers_next, State.guarded_kept, State.dmaCtl_kept, RegsOk.guarded, RegsOk.dmaCtl]

theorem execDmaTailWrite_answers (who : Prin) (c : ClId) (ch : R4) (v : Word) :
    Answers s (execDmaTailWrite who c ch v s) := by
  unfold execDmaTailWrite
  grind [answers_next, State.guarded_kept, State.dmaTail_kept, RegsOk.guarded, RegsOk.dmaTail]

theorem execDmaAbort_answers (who : Prin) (c : ClId) (ch : R4) : Answers s (execDmaAbort who c ch s) := by
  unfold execDmaAbort
  grind [answers_next, State.guarded_kept, State.dmaAbort_kept, RegsOk.guarded, RegsOk.dmaAbort]

theorem execDmaDescriptorStart_answers (c : ClId) (ch : R4) : Answers s (execDmaDescriptorStart c ch s) := by
  unfold execDmaDescriptorStart
  grind [answers_next, State.performBeats_kept, State.wr_kept, State.setDmaRun_kept, State.setFld_kept,
    State.setFlag_kept, RegsOk.performBeats, RegsOk.wr, RegsOk.setDmaRun, RegsOk.setFld, RegsOk.setFlag]

theorem execDmaBurst_answers (c : ClId) (ch : R4) (ecc : Ecc) : Answers s (execDmaBurst c ch ecc s) := by
  unfold execDmaBurst
  grind [answers_next, State.performBeats_kept, State.setDmaRun_kept, State.dmaBurstRun_kept,
    RegsOk.performBeats, RegsOk.setDmaRun, RegsOk.dmaBurstRun]

theorem execDmaDescriptorFinish_answers (c : ClId) (ch : R4) : Answers s (execDmaDescriptorFinish c ch s) := by
  unfold execDmaDescriptorFinish
  grind [answers_next, State.performBeats_kept, State.setClu_kept, State.raiseShared_kept, State.inc64_kept,
    State.setFld_kept, State.add64_kept, State.setDmaRun_kept, State.setFlag_kept, RegsOk.performBeats,
    RegsOk.setClu, RegsOk.raiseShared, RegsOk.inc64, RegsOk.setFld, RegsOk.add64, RegsOk.setDmaRun,
    RegsOk.setFlag]

theorem execEvcSourceEvent_answers (src : EvSrc) : Answers s (execEvcSourceEvent src s) := by
  unfold execEvcSourceEvent
  grind [answers_next, State.levelRise_kept, State.raise_kept, RegsOk.levelRise, RegsOk.raise]

theorem execSrcCmdSet_answers (src : EvSrc) : Answers s (execSrcCmdSet src s) :=
  answers_next.2 ⟨by simp, fun h => h.srcSet _⟩

theorem execSrcCmdClr_answers (src : EvSrc) : Answers s (execSrcCmdClr src s) :=
  answers_next.2 ⟨by simp, fun h => h.srcClr _⟩

theorem execCoalesceTimeout_answers (src : EvSrc) : Answers s (execCoalesceTimeout src s) := by
  unfold execCoalesceTimeout
  grind [answers_next, State.setSrc_kept, State.upTo_kept, State.fallback_kept, RegsOk.setSrc, RegsOk.upTo,
    RegsOk.fallback]

theorem execSrcCfgWrite_answers (who : Prin) (src : EvSrc) (v : Word) :
    Answers s (execSrcCfgWrite who src v s) := by
  unfold execSrcCfgWrite
  grind [answers_next, State.guarded_kept, State.srcCfg_kept, RegsOk.guarded, RegsOk.srcCfg]

theorem execPinFilterChange_answers (pin : PinId) (v : Bool) : Answers s (execPinFilterChange pin v s) := by
  unfold execPinFilterChange
  grind [answers_next, State.incSat_kept, State.setFlag_kept, State.pinEvent_kept, State.pinFall_kept,
    RegsOk.incSat, RegsOk.setFlag, RegsOk.pinEvent, RegsOk.pinFall]

theorem execKeyRetireComplete_answers (i : BitVec 12) (k : Bool) : Answers s (execKeyRetireComplete i k s) := by
  unfold execKeyRetireComplete
  grind [answers_next, State.dropCtx_kept, State.upTo_kept, RegsOk.dropCtx, RegsOk.upTo]

theorem execKexportComplete_answers (g : CoreId) : Answers s (execKexportComplete g s) := by
  unfold execKexportComplete
  grind [answers_next, State.setCore_kept, State.raisePriv_kept, RegsOk.setCore, RegsOk.raisePriv]

theorem execKeHandleTimeout_answers (h : R4) : Answers s (execKeHandleTimeout h s) := by
  unfold execKeHandleTimeout
  grind [answers_next, State.upTo_kept, State.raiseDev_kept, RegsOk.upTo, RegsOk.raiseDev]

theorem execTrngPub_answers (g : CoreId) (rd : R5) : Answers s (execTrngPub g rd s) :=
  answers_next.2 ⟨by simp, fun h => h.trngRead _ _ _⟩

theorem execTrngSec_answers (g : CoreId) (rd : R5) : Answers s (execTrngSec g rd s) :=
  answers_next.2 ⟨by simp, fun h => h.trngRead _ _ _⟩

theorem execTrngHealthFail_answers : Answers s (execTrngHealthFail s) :=
  answers_next.2 ⟨by simp, fun h => .ite (((h.setFlag _ _ _).setFlag _ _ _).devRise _) ((h.setFlag _ _ _).setFlag _ _ _)⟩

theorem execTrngRecover_answers : Answers s (execTrngRecover s) := by
  unfold execTrngRecover
  grind [answers_next, State.setFlag_kept, RegsOk.setFlag]

theorem execDrbgReseed_answers : Answers s (execDrbgReseed s) := by
  unfold execDrbgReseed
  grind [answers_next, State.upTo_kept, RegsOk.upTo]

theorem execZeroiseDone_answers : Answers s (execZeroiseDone s) := by
  unfold execZeroiseDone
  grind [answers_next, State.upTo_kept, State.setFlag_kept, State.faultStat_kept, State.warmReset_kept,
    State.resetBy_kept, RegsOk.upTo, RegsOk.setFlag, RegsOk.faultStat, RegsOk.warmReset, RegsOk.resetBy]

theorem execTamperBreach_answers (loop : BitVec 2) : Answers s (execTamperBreach loop s) := by
  unfold execTamperBreach
  grind [answers_next, State.zeroise_kept, State.setFld_kept, RegsOk.zeroise, RegsOk.setFld]

theorem execVbatTamperBreach_answers : Answers s (execVbatTamperBreach s) := by
  unfold execVbatTamperBreach
  grind [answers_next, State.draw_kept, State.clearRoot_kept, RegsOk.draw, RegsOk.clearRoot]

theorem execScanReq_answers : Answers s (execScanReq s) := by
  unfold execScanReq
  grind [answers_next, State.zeroise_kept, State.lensRefused_kept, RegsOk.zeroise, RegsOk.lensRefused]

theorem execMbxGo_answers : Answers s (execMbxGo s) :=
  answers_next.2 ⟨by simp, fun h => h.mbxGo⟩

theorem execMbxAck_answers : Answers s (execMbxAck s) :=
  answers_next.2 ⟨by simp, fun h => h.mbxAck⟩

theorem execMbxTimeout_answers : Answers s (execMbxTimeout s) := by
  unfold execMbxTimeout
  grind [answers_next, State.upTo_kept, State.msixSend_kept, RegsOk.upTo, RegsOk.msixSend]

theorem execGetInfo_answers : Answers s (execGetInfo s) := by
  unfold execGetInfo
  grind [answers_next, State.command_pending, RegsOk.command]

theorem execGetRandom_answers : Answers s (execGetRandom s) := by
  unfold execGetRandom
  grind [answers_next, State.command_pending, State.randomBytes_kept, RegsOk.command, RegsOk.randomBytes]

theorem execGetChallenge_answers : Answers s (execGetChallenge s) := by
  unfold execGetChallenge
  grind [answers_next, State.command_pending, State.randomBytes_kept, RegsOk.command, RegsOk.randomBytes]

theorem execSaStatus_answers : Answers s (execSaStatus s) := by
  unfold execSaStatus
  grind [answers_next, State.command_pending, RegsOk.command]

theorem execSaCreate_answers : Answers s (execSaCreate s) := by
  unfold execSaCreate
  grind [answers_next, State.command_pending, State.saCreate_kept, RegsOk.command, RegsOk.saCreate]

theorem execSaDelete_answers : Answers s (execSaDelete s) := by
  unfold execSaDelete
  grind [answers_next, State.command_pending, State.saDelete_kept, RegsOk.command, RegsOk.saDelete]

theorem execSaUpdate_answers : Answers s (execSaUpdate s) := by
  unfold execSaUpdate
  grind [answers_next, State.command_pending, State.saUpdate_kept, RegsOk.command, RegsOk.saUpdate]

theorem execKeyImport_answers : Answers s (execKeyImport s) := by
  unfold execKeyImport
  grind [answers_next, State.command_pending, State.keyImport_kept, RegsOk.command, RegsOk.keyImport]

theorem execKeyActivate_answers : Answers s (execKeyActivate s) := by
  unfold execKeyActivate
  grind [answers_next, State.command_pending, State.keyActivate_kept, RegsOk.command, RegsOk.keyActivate]

theorem execKeyRetire_answers : Answers s (execKeyRetire s) := by
  unfold execKeyRetire
  grind [answers_next, State.command_pending, State.keyRetire_kept, RegsOk.command, RegsOk.keyRetire]

theorem execSaProtect_answers : Answers s (execSaProtect s) := by
  unfold execSaProtect
  grind [answers_next, State.command_pending, State.saProtect_kept, RegsOk.command, RegsOk.saProtect]

theorem execIdentGet_answers : Answers s (execIdentGet s) := by
  unfold execIdentGet
  grind [answers_next, State.command_pending, RegsOk.command]

theorem execKeInit_answers : Answers s (execKeInit s) := by
  unfold execKeInit
  grind [answers_next, State.command_pending, State.keInit_kept, RegsOk.command, RegsOk.keInit]

theorem execKeRespond_answers : Answers s (execKeRespond s) := by
  unfold execKeRespond
  grind [answers_next, State.command_pending, State.keRespond_kept, RegsOk.command, RegsOk.keRespond]

theorem execKeFinish_answers : Answers s (execKeFinish s) := by
  unfold execKeFinish
  grind [answers_next, State.command_pending, State.keFinish_kept, RegsOk.command, RegsOk.keFinish]

theorem execKeAbort_answers : Answers s (execKeAbort s) := by
  unfold execKeAbort
  grind [answers_next, State.command_pending, RegsOk.command]

theorem execPeerTrust_answers : Answers s (execPeerTrust s) := by
  unfold execPeerTrust
  grind [answers_next, State.command_pending, State.peerTrust_kept, RegsOk.command, RegsOk.peerTrust]

theorem execOwnerProvision_answers : Answers s (execOwnerProvision s) := by
  unfold execOwnerProvision
  grind [answers_next, State.command_pending, State.ownerProvision_kept, RegsOk.command, RegsOk.ownerProvision]

theorem execLcAdvance_answers : Answers s (execLcAdvance s) := by
  unfold execLcAdvance
  grind [answers_next, State.command_pending, State.lcAdvance_kept, RegsOk.command, RegsOk.lcAdvance]

theorem execZeroise_answers : Answers s (execZeroise s) := by
  unfold execZeroise
  grind [answers_next, State.command_pending, State.zeroise_kept, RegsOk.command, RegsOk.zeroise]

theorem execPrinSet_answers : Answers s (execPrinSet s) := by
  unfold execPrinSet
  grind [answers_next, State.command_pending, State.wr_kept, RegsOk.command, RegsOk.wr]

theorem execCostLoad_answers : Answers s (execCostLoad s) := by
  unfold execCostLoad
  grind [answers_next, State.command_pending, State.costLoad_kept, RegsOk.command, RegsOk.costLoad]

theorem execImageStage_answers : Answers s (execImageStage s) := by
  unfold execImageStage
  grind [answers_next, State.command_pending, RegsOk.command]

theorem execImageCommit_answers : Answers s (execImageCommit s) := by
  unfold execImageCommit
  grind [answers_next, State.command_pending, State.imageCommit_kept, RegsOk.command, RegsOk.imageCommit]

theorem execSvnCommit_answers : Answers s (execSvnCommit s) := by
  unfold execSvnCommit
  grind [answers_next, foldl_kept, RegsOk.foldl, State.command_pending, RegsOk.command]

theorem execFlashWriteTimeout_answers : Answers s (execFlashWriteTimeout s) := by
  unfold execFlashWriteTimeout
  grind [answers_next, State.finish_kept, State.mbxSkip_kept, State.costLoad_kept, State.imageCommit_kept,
    RegsOk.finish, RegsOk.mbxSkip, RegsOk.costLoad, RegsOk.imageCommit]

theorem execWardenBoot_answers : Answers s (execWardenBoot s) := by
  unfold execWardenBoot
  grind [answers_next, State.rootCheck_kept, State.coldStart_kept, State.mbxTake_kept, State.setFlag_kept,
    State.coresStart_kept, State.wardenStart_kept, RegsOk.rootCheck, RegsOk.coldStart, RegsOk.mbxTake,
    RegsOk.setFlag, RegsOk.coresStart, RegsOk.wardenStart]

theorem execLockstepMismatch_answers : Answers s (execLockstepMismatch s) := by
  unfold execLockstepMismatch
  grind [answers_next, State.draw_kept, State.record_kept, RegsOk.draw, RegsOk.record]

theorem execWardenHotRestart_answers : Answers s (execWardenHotRestart s) := by
  unfold execWardenHotRestart
  grind [answers_next, State.mbxTake_kept, State.setFlag_kept, State.wardenStart_kept, State.coresStart_kept,
    RegsOk.mbxTake, RegsOk.setFlag, RegsOk.wardenStart, RegsOk.coresStart]

theorem execHelloSend_answers (e : RPort) : Answers s (execHelloSend e s) := by
  unfold execHelloSend
  grind [answers_next, State.setRp_kept, State.sendClear_kept, RegsOk.setRp, RegsOk.sendClear]

theorem execRingHello_answers (e : RPort) (east : Bool) (ringId : BitVec 16) (node : BitVec 8) :
    Answers s (execRingHello e east ringId node s) := by
  unfold execRingHello
  grind [answers_next, State.neighbourLost_kept, State.rpFence_kept, State.setRpState_kept, State.setFld_kept,
    State.setRp_kept, State.handshake_kept, RegsOk.neighbourLost, RegsOk.rpFence, RegsOk.setRpState,
    RegsOk.setFld, RegsOk.setRp, RegsOk.handshake]

theorem execRingHandshake_answers (e : RPort) (step : BitVec 2) (parts : List (List Byte)) :
    Answers s (execRingHandshake e step parts s) := by
  unfold execRingHandshake
  grind [answers_next, State.handshake_kept, State.setRp_kept, RegsOk.handshake, RegsOk.setRp]

theorem execHandshakeRetry_answers (e : RPort) : Answers s (execHandshakeRetry e s) := by
  unfold execHandshakeRetry
  grind [answers_next, State.handshake_kept, State.setRp_kept, RegsOk.handshake, RegsOk.setRp]

theorem execRingPcsLock_answers (e : RPort) : Answers s (execRingPcsLock e s) :=
  answers_next.2 ⟨by simp, fun h => .ite ((h.setRp _ _).rpTrain _) (h.setRp _ _)⟩

theorem execRingPcsLoss_answers (e : RPort) : Answers s (execRingPcsLoss e s) :=
  answers_next.2 ⟨by simp, fun h => .ite (h.setRp _ _) h⟩

theorem execRingIdle_answers (e : RPort) (h : FlitHdr) : Answers s (execRingIdle e h s) := by
  unfold execRingIdle
  grind [answers_next, State.ringAccept_kept, RegsOk.ringAccept]

theorem execRingFlitError_answers (e : RPort) (kind : FlitErr) : Answers s (execRingFlitError e kind s) := by
  unfold execRingFlitError
  grind [answers_next, State.ringNack_kept, State.inc64_kept, State.rpFence_kept, State.ringEvt_kept,
    RegsOk.ringNack, RegsOk.inc64, RegsOk.rpFence, RegsOk.ringEvt]

theorem execRingFlitTimeout_answers (e : RPort) : Answers s (execRingFlitTimeout e s) := by
  unfold execRingFlitTimeout
  grind [answers_next, State.ringReplay_kept, State.upTo_kept, RegsOk.ringReplay, RegsOk.upTo]

theorem execRingCreditAudit_answers (e : RPort) (d0 d1 c0 c1 : BitVec 9) :
    Answers s (execRingCreditAudit e d0 d1 c0 c1 s) := by
  unfold execRingCreditAudit
  grind [answers_next, State.rpFence_kept, RegsOk.rpFence]

theorem execRingHeartbeat_answers (e : RPort) (h : FlitHdr) : Answers s (execRingHeartbeat e h s) := by
  unfold execRingHeartbeat
  grind [answers_next, State.ringAccept_kept, State.setRp_kept, RegsOk.ringAccept, RegsOk.setRp]

theorem execHeartbeatSend_answers (e : RPort) : Answers s (execHeartbeatSend e s) := by
  unfold execHeartbeatSend
  grind [answers_next, State.setFlag_kept, State.ringOwn_kept, RegsOk.setFlag, RegsOk.ringOwn]

theorem execNeighbourLost_answers (e : RPort) : Answers s (execNeighbourLost e s) := by
  unfold execNeighbourLost
  grind [answers_next, State.neighbourLost_kept, State.upTo_kept, RegsOk.neighbourLost, RegsOk.upTo]

theorem execRingPortFence_answers (e : RPort) : Answers s (execRingPortFence e s) :=
  answers_next.2 ⟨by simp, fun h => h.ringPortFence _⟩

theorem execRingCfgWrite_answers (who : Prin) (v : Word) : Answers s (execRingCfgWrite who v s) := by
  unfold execRingCfgWrite
  grind [answers_next, State.guarded_kept, State.ringCfg_kept, RegsOk.guarded, RegsOk.ringCfg]

theorem execRingAdvert_answers (e : RPort) (h : FlitHdr) (a : Advert) : Answers s (execRingAdvert e h a s) := by
  unfold execRingAdvert
  grind [answers_next, State.ringAccept_kept, State.ringRoute_kept, State.advertIn_kept, RegsOk.ringAccept,
    RegsOk.ringRoute, RegsOk.advertIn]

theorem execAdvertSend_answers : Answers s (execAdvertSend s) := by
  unfold execAdvertSend
  grind [answers_next, foldl_kept, RegsOk.foldl, State.ringOwn_kept, RegsOk.ringOwn]

theorem execNodeUnreached_answers (n : BitVec 8) : Answers s (execNodeUnreached n s) := by
  unfold execNodeUnreached
  grind [answers_next, foldl_kept, RegsOk.foldl, State.upTo_kept, State.offerOf_kept, State.replStale_kept,
    RegsOk.upTo, RegsOk.offerOf, RegsOk.replStale]

theorem execRingLoss_answers (e : RPort) (h : FlitHdr) (y : BitVec 8) : Answers s (execRingLoss e h y s) := by
  unfold execRingLoss
  grind [answers_next, State.ringAccept_kept, State.ringRoute_kept, State.lossOf_kept, RegsOk.ringAccept,
    RegsOk.ringRoute, RegsOk.lossOf]

theorem execRingSpill_answers (e : RPort) (h : FlitHdr) (x : SpillHdr) (bytes : List Byte) (rmask : List Bool) :
    Answers s (execRingSpill e h x bytes rmask s) := by
  unfold execRingSpill
  grind [answers_next, State.ringAccept_kept, State.ringRoute_kept, State.spillTake_kept, RegsOk.ringAccept,
    RegsOk.ringRoute, RegsOk.spillTake]

theorem execRingSpillResult_answers (e : RPort) (h : FlitHdr) (x : SpillHdr) (bytes : List Byte) (rmask
    : List Bool) : Answers s (execRingSpillResult e h x bytes rmask s) := by
  unfold execRingSpillResult
  grind [answers_next, State.ringAccept_kept, State.ringRoute_kept, State.spillResult_kept, RegsOk.ringAccept,
    RegsOk.ringRoute, RegsOk.spillResult]

theorem execRingRepl_answers (e : RPort) (h : FlitHdr) (m : ReplMsg) : Answers s (execRingRepl e h m s) := by
  unfold execRingRepl
  grind [answers_next, State.ringAccept_kept, State.ringRoute_kept, State.replIn_kept, RegsOk.ringAccept,
    RegsOk.ringRoute, RegsOk.replIn]

theorem execRingReplAck_answers (e : RPort) (h : FlitHdr) (sa : BitVec 12) (seq : Word) :
    Answers s (execRingReplAck e h sa seq s) := by
  unfold execRingReplAck
  grind [answers_next, State.ringAccept_kept, State.ringRoute_kept, State.replAcked_kept, RegsOk.ringAccept,
    RegsOk.ringRoute, RegsOk.replAcked]

/-- A ring message that is performed and passed on, when what performs it keeps the queue and the register map. -/
theorem answers_ringForwarded (d : Nat) (h : FlitHdr) (body : RBody) (act : State → State)
    (ha : ∀ t, (act t).pending = t.pending ∧ (act t).fuses = t.fuses)
    (hr : ∀ t, RegsOk t.regs → RegsOk (act t).regs) :
    Answers s (.next (s.ringAccept d h body fun t => t.ringRoute d h body act)) :=
  answers_next.2 ⟨(State.ringAccept_kept _ _ _ _ _ fun _ => State.ringRoute_kept _ _ _ _ _ ha).1,
    fun k => k.ringAccept _ _ _ _ fun _ k => k.ringRoute _ _ _ _ hr⟩

theorem execRingForward_answers (e : RPort) (h : FlitHdr) (body : RBody) :
    Answers s (execRingForward e h body s) := by
  unfold execRingForward
  cases body with
  | hello _ _ _ => exact answers_next.2 ⟨rfl, id⟩
  | handshake _ _ => exact answers_next.2 ⟨rfl, id⟩
  | idle => exact answers_next.2 ⟨by simp, fun k => k.ringAccept _ _ _ _ fun _ => id⟩
  | heartbeat => exact answers_next.2 ⟨by simp, fun k => k.ringAccept _ _ _ _ fun _ k => k.setRp _ _⟩
  | advert a => exact answers_ringForwarded _ _ _ _ (fun _ => by simp) fun _ k => k.advertIn a
  | loss y => exact answers_ringForwarded _ _ _ _ (fun _ => by simp) fun _ k => k.lossOf _ _
  | spill x bs r => exact answers_ringForwarded _ _ _ _ (fun _ => by simp) fun _ k => k.spillTake _ x bs r
  | result x bs r => exact answers_ringForwarded _ _ _ _ (fun _ => by simp) fun _ k => k.spillResult x bs r
  | repl m => exact answers_ringForwarded _ _ _ _ (fun _ => by simp) fun _ k => k.replIn h m
  | replAck sa q => exact answers_ringForwarded _ _ _ _ (fun _ => by simp) fun _ k => k.replAcked _ _

theorem execReplAckTimeout_answers : Answers s (execReplAckTimeout s) := by
  unfold execReplAckTimeout
  grind [answers_next, State.mbxRelease_kept, State.upTo_kept, RegsOk.mbxRelease, RegsOk.upTo]

theorem execReplPnTimer_answers (i : BitVec 12) : Answers s (execReplPnTimer i s) := by
  unfold execReplPnTimer
  grind [answers_next, foldl_kept, RegsOk.foldl, State.replPn_kept, State.upTo_kept, RegsOk.replPn, RegsOk.upTo]

theorem execLeaseSuspend_answers (n : BitVec 8) : Answers s (execLeaseSuspend n s) := by
  unfold execLeaseSuspend
  grind [answers_next, foldl_kept, RegsOk.foldl, State.upTo_kept, State.replStale_kept, RegsOk.upTo,
    RegsOk.replStale]

theorem execReplResync_answers (n : BitVec 8) : Answers s (execReplResync n s) := by
  unfold execReplResync
  grind [answers_next, foldl_kept, RegsOk.foldl, State.replStart_kept, RegsOk.replStart]

theorem execReplicaPromote_answers (n : BitVec 8) : Answers s (execReplicaPromote n s) := by
  unfold execReplicaPromote
  grind [answers_next, foldl_kept, RegsOk.foldl, State.promote_kept, RegsOk.promote]

theorem execFarAccessComplete_answers (g : CoreId) (ecc : Ecc) : Answers s (execFarAccessComplete g ecc s) := by
  unfold execFarAccessComplete
  grind [answers_next, State.performBeats_kept, State.upTo_kept, State.memDone_kept, State.farRead_kept,
    State.farWrite_kept, State.setCore_kept, State.farDone_kept, RegsOk.performBeats, RegsOk.upTo,
    RegsOk.memDone, RegsOk.farRead, RegsOk.farWrite, RegsOk.setCore, RegsOk.farDone]

theorem execFarAccessTimeout_answers (g : CoreId) : Answers s (execFarAccessTimeout g s) := by
  unfold execFarAccessTimeout
  grind [answers_next, State.upTo_kept, State.setCore_kept, State.record_kept, State.farDone_kept, RegsOk.upTo,
    RegsOk.setCore, RegsOk.record, RegsOk.farDone]

theorem execRegisterWrite_answers (who : Prin) (bar2 : Bool) (off : BitVec 24) (v : Word) :
    Answers s (execRegisterWrite who bar2 off v s) :=
  answers_next.2 ⟨by simp, fun h => .ite (.ite (h.bar2Write _ _) h) (h.busWrite _ _ _)⟩

theorem execApertureAccess_answers (who : Prin) (x : BitVec 22) (size : Nat) (wr : Option (BitVec 64)) :
    Answers s (execApertureAccess who x size wr s) :=
  answers_next.2 ⟨by simp, fun h => h.aperture _ _ _ _⟩

theorem execMemwinWrite_answers (who : Prin) (v : Word) : Answers s (execMemwinWrite who v s) :=
  answers_next.2 ⟨by simp, fun h => h.memwinWrite _ _⟩

theorem execSmbIdcode_answers : Answers s (execSmbIdcode s) :=
  answers_next.2 ⟨by simp, fun h => h.smbRead _⟩

theorem execSmbLcState_answers : Answers s (execSmbLcState s) :=
  answers_next.2 ⟨by simp, fun h => h.smbRead _⟩

theorem execSmbStatus_answers : Answers s (execSmbStatus s) :=
  answers_next.2 ⟨by simp, fun h => h.smbRead _⟩

theorem execSmbFaultStat_answers : Answers s (execSmbFaultStat s) :=
  answers_next.2 ⟨by simp, fun h => h.smbRead _⟩

theorem execSmbThermMax_answers : Answers s (execSmbThermMax s) :=
  answers_next.2 ⟨by simp, fun h => h.smbRead _⟩

theorem execSmbTherm_answers (k : R5) : Answers s (execSmbTherm k s) :=
  answers_next.2 ⟨by simp, fun h => h.smbRead _⟩

theorem execSmbMonEvt_answers : Answers s (execSmbMonEvt s) :=
  answers_next.2 ⟨by simp, fun h => h.smbRead _⟩

theorem execSmbLinkUp_answers : Answers s (execSmbLinkUp s) :=
  answers_next.2 ⟨by simp, fun h => h.smbRead _⟩

theorem execSmbRingState_answers : Answers s (execSmbRingState s) :=
  answers_next.2 ⟨by simp, fun h => h.smbRead _⟩

theorem execSmbDerrqStat_answers : Answers s (execSmbDerrqStat s) :=
  answers_next.2 ⟨by simp, fun h => h.smbRead _⟩

theorem execSmbNotify_answers (v : Word) : Answers s (execSmbNotify v s) :=
  answers_next.2 ⟨by simp, fun h => h.smbNotify _⟩

theorem execSmbBusTimeout_answers : Answers s (execSmbBusTimeout s) :=
  answers_next.2 ⟨rfl, id⟩

theorem execAccessRefused_answers (who : Prin) (off : BitVec 24) (wr : Option Word) :
    Answers s (execAccessRefused who off wr s) :=
  answers_next.2 ⟨by simp, fun h => h.access _ _ _⟩

theorem execReadZeroed_answers (who : Prin) (off : BitVec 24) (wr : Option Word) :
    Answers s (execReadZeroed who off wr s) :=
  answers_next.2 ⟨by simp, fun h => h.access _ _ _⟩

theorem execAccessUnavail_answers (who : Prin) (off : BitVec 24) (wr : Option Word) :
    Answers s (execAccessUnavail who off wr s) :=
  answers_next.2 ⟨by simp, fun h => h.access _ _ _⟩

theorem execPcieFunctionReset_answers : Answers s (execPcieFunctionReset s) :=
  answers_next.2 ⟨by simp, fun h => h.functionReset⟩

theorem execMsixHoldoffEnd_answers (v : BitVec 5) : Answers s (execMsixHoldoffEnd v s) := by
  unfold execMsixHoldoffEnd
  grind [answers_next, State.upTo_kept, State.msixSend_kept, RegsOk.upTo, RegsOk.msixSend]

/-- Every command answers a next state, and keeps the queue and the form of the register map. -/
theorem exec_answers (i : Instr) (s : State) : Answers s (exec i s) := by
  cases ho : coreOp i with
  | some o =>
    rw [exec_coreOp i s _ _ _ ho]
    exact issueOne_answers _ _ _
  | none =>
    cases i with
    | bundleIssue g fetch data => exact execBundleIssue_answers g fetch data
    | resultCommit g ecc => exact execResultCommit_answers g ecc
    | farAccessComplete g ecc => exact execFarAccessComplete_answers g ecc
    | farAccessTimeout g => exact execFarAccessTimeout_answers g
    | interruptAccept g => exact execInterruptAccept_answers g
    | keeperTimeLimit g => exact execKeeperTimeLimit_answers g
    | lensHalt g => exact execLensHalt_answers g
    | coreWake g => exact execCoreWake_answers g
    | sleepTimerExpire g => exact execSleepTimerExpire_answers g
    | kloadComplete g ecc => exact execKloadComplete_answers g ecc
    | kexportComplete g => exact execKexportComplete_answers g
    | frmNextPop g => exact execFrmNextPop_answers g
    | frmProgress g v => exact execFrmProgress_answers g v
    | frmDone g lo hi => exact execFrmDone_answers g lo hi
    | dbankReq who g v => exact execDbankReq_answers who g v
    | dbankHandoverDone g b => exact execDbankHandoverDone_answers g b
    | rotRdy g v => exact execRotRdy_answers g v
    | btbKeyWrite g x v => exact execBtbKeyWrite_answers g x v
    | krgnWrite g slot n v => exact execKrgnWrite_answers g slot n v
    | evcEoi g v => exact execEvcEoi_answers g v
    | lockseqBegin g => exact execLockseqBegin_answers g
    | lockseqEnd g => exact execLockseqEnd_answers g
    | lockseqTimeout g => exact execLockseqTimeout_answers g
    | portEnable sd p v => exact execPortEnable_answers sd p v
    | portDisable sd p => exact execPortDisable_answers sd p
    | portDrained sd p => exact execPortDrained_answers sd p
    | linkUp sd p => exact execLinkUp_answers sd p
    | linkDown sd p cause => exact execLinkDown_answers sd p cause
    | rxCell sd p cell => exact execRxCell_answers sd p cell
    | rxFrameEnd sd p tail bad => exact execRxFrameEnd_answers sd p tail bad
    | egressTxFrame sd p ecc => exact execEgressTxFrame_answers sd p ecc
    | laneFence sd l => exact execLaneFence_answers sd l
    | laneCalFail sd l => exact execLaneCalFail_answers sd l
    | unfence sd l => exact execUnfence_answers sd l
    | quadFence sd q => exact execQuadFence_answers sd q
    | quadFault sd q code => exact execQuadFault_answers sd q code
    | lineLock sd => exact execLineLock_answers sd
    | prismDecision sd p ecc => exact execPrismDecision_answers sd p ecc
    | clinkCellRx c d err ecc => exact execClinkCellRx_answers c d err ecc
    | clinkCellTimeout c d => exact execClinkCellTimeout_answers c d
    | clinkCreditAudit c d => exact execClinkCreditAudit_answers c d
    | clinkIdleInsert c d => exact execClinkIdleInsert_answers c d
    | clinkFence c => exact execClinkFence_answers c
    | clinkPoolWrite who c v => exact execClinkPoolWrite_answers who c v
    | clinkTrained c => exact execClinkTrained_answers c
    | clinkLock who => exact execClinkLock_answers who
    | prismLock who sd => exact execPrismLock_answers who sd
    | rsqLock who sd => exact execRsqLock_answers who sd
    | dlvLock who => exact execDlvLock_answers who
    | ledgerLock who => exact execLedgerLock_answers who
    | reseqRelease sd p => exact execReseqRelease_answers sd p
    | deadlineMiss sd p => exact execDeadlineMiss_answers sd p
    | ledgerAudit => exact execLedgerAudit_answers
    | costCommit who t => exact execCostCommit_answers who t
    | costInval who t => exact execCostInval_answers who t
    | saKeyWrite sa v => exact execSaKeyWrite_answers sa v
    | saNextPnWrite sa k v => exact execSaNextPnWrite_answers sa k v
    | saEvtPop => exact execSaEvtPop_answers
    | puttyJob p b => exact execPuttyJob_answers p b
    | slotStart p => exact execSlotStart_answers p
    | tfcStreamStart p => exact execTfcStreamStart_answers p
    | ztfCommit who p => exact execZtfCommit_answers who p
    | evcSourceEvent src => exact execEvcSourceEvent_answers src
    | srcCmdSet src => exact execSrcCmdSet_answers src
    | srcCmdClr src => exact execSrcCmdClr_answers src
    | coalesceTimeout src => exact execCoalesceTimeout_answers src
    | srcCfgWrite who src v => exact execSrcCfgWrite_answers who src v
    | pinFilterChange pin v => exact execPinFilterChange_answers pin v
    | skimRegion c failRow ecc => exact execSkimRegion_answers c failRow ecc
    | remapStart c bank => exact execRemapStart_answers c bank
    | remapDone c => exact execRemapDone_answers c
    | cmemBeatGrant c beats => exact execCmemBeatGrant_answers c beats
    | quotaWindowEnd c => exact execQuotaWindowEnd_answers c
    | arbPriWrite c r v => exact execArbPriWrite_answers c r v
    | mrepApply c n v => exact execMrepApply_answers c n v
    | dmaEnable who c ch => exact execDmaEnable_answers who c ch
    | dmaTailWrite who c ch v => exact execDmaTailWrite_answers who c ch v
    | dmaDescriptorStart c ch => exact execDmaDescriptorStart_answers c ch
    | dmaBurst c ch ecc => exact execDmaBurst_answers c ch ecc
    | dmaDescriptorFinish c ch => exact execDmaDescriptorFinish_answers c ch
    | dmaAbort who c ch => exact execDmaAbort_answers who c ch
    | mbxGo => exact execMbxGo_answers
    | mbxAck => exact execMbxAck_answers
    | mbxTimeout => exact execMbxTimeout_answers
    | getInfo => exact execGetInfo_answers
    | getRandom => exact execGetRandom_answers
    | getChallenge => exact execGetChallenge_answers
    | saCreate => exact execSaCreate_answers
    | saDelete => exact execSaDelete_answers
    | saUpdate => exact execSaUpdate_answers
    | keyImport => exact execKeyImport_answers
    | keyActivate => exact execKeyActivate_answers
    | keyRetire => exact execKeyRetire_answers
    | keyRetireComplete sa k => exact execKeyRetireComplete_answers sa k
    | saStatus => exact execSaStatus_answers
    | keInit => exact execKeInit_answers
    | keRespond => exact execKeRespond_answers
    | keFinish => exact execKeFinish_answers
    | keAbort => exact execKeAbort_answers
    | keHandleTimeout h => exact execKeHandleTimeout_answers h
    | identGet => exact execIdentGet_answers
    | costLoad => exact execCostLoad_answers
    | imageStage => exact execImageStage_answers
    | imageCommit => exact execImageCommit_answers
    | svnCommit => exact execSvnCommit_answers
    | prinSet => exact execPrinSet_answers
    | peerTrust => exact execPeerTrust_answers
    | saProtect => exact execSaProtect_answers
    | ownerProvision => exact execOwnerProvision_answers
    | lcAdvance => exact execLcAdvance_answers
    | zeroise => exact execZeroise_answers
    | zeroiseDone => exact execZeroiseDone_answers
    | tamperBreach loop => exact execTamperBreach_answers loop
    | vbatTamperBreach => exact execVbatTamperBreach_answers
    | scanReq => exact execScanReq_answers
    | trngHealthFail => exact execTrngHealthFail_answers
    | trngRecover => exact execTrngRecover_answers
    | drbgReseed => exact execDrbgReseed_answers
    | trngPub g rd => exact execTrngPub_answers g rd
    | trngSec g rd => exact execTrngSec_answers g rd
    | wardenBoot => exact execWardenBoot_answers
    | lockstepMismatch => exact execLockstepMismatch_answers
    | wardenHotRestart => exact execWardenHotRestart_answers
    | flashWriteTimeout => exact execFlashWriteTimeout_answers
    | rotStep c => exact execRotStep_answers c
    | stepNow c => exact execStepNow_answers c
    | force c n => exact execForce_answers c n
    | rotDrainDone g => exact execRotDrainDone_answers g
    | rotDrainTimeout g => exact execRotDrainTimeout_answers g
    | bistDone g logicOk memOk => exact execBistDone_answers g logicOk memOk
    | release g => exact execRelease_answers g
    | startupTimeout g => exact execStartupTimeout_answers g
    | mirrorSwap g => exact execMirrorSwap_answers g
    | mirrorDone => exact execMirrorDone_answers
    | coreFence g => exact execCoreFence_answers g
    | dustRelease v => exact execDustRelease_answers v
    | dustReleaseDone ok => exact execDustReleaseDone_answers ok
    | errqPop who c => exact execErrqPop_answers who c
    | derrqPop who => exact execDerrqPop_answers who
    | aliveKick => exact execAliveKick_answers
    | aliveTimeout => exact execAliveTimeout_answers
    | powerOff who v => exact execPowerOff_answers who v
    | domainDrained => exact execDomainDrained_answers
    | quiesceTimeout => exact execQuiesceTimeout_answers
    | powerUp who v => exact execPowerUp_answers who v
    | powerUpDone => exact execPowerUpDone_answers
    | refclkFault refA => exact execRefclkFault_answers refA
    | refFreqWindow ppmA ppmB => exact execRefFreqWindow_answers ppmA ppmB
    | refSel who b => exact execRefSel_answers who b
    | refSwitchDone => exact execRefSwitchDone_answers
    | pllFault => exact execPllFault_answers
    | pllSel who b => exact execPllSel_answers who b
    | standbyRelock => exact execStandbyRelock_answers
    | supplyDroop n => exact execSupplyDroop_answers n
    | brownOut n => exact execBrownOut_answers n
    | thermalSample samples => exact execThermalSample_answers samples
    | powerOnReset => exact execPowerOnReset_answers
    | warmReset => exact execWarmReset_answers
    | warmReq => exact execWarmReq_answers
    | tintRclrEnWrite v => exact execTintRclrEnWrite_answers v
    | ringHello e east ringId node => exact execRingHello_answers e east ringId node
    | helloSend e => exact execHelloSend_answers e
    | ringHandshake e step parts => exact execRingHandshake_answers e step parts
    | handshakeRetry e => exact execHandshakeRetry_answers e
    | ringIdle e h => exact execRingIdle_answers e h
    | ringFlitError e kind => exact execRingFlitError_answers e kind
    | ringFlitTimeout e => exact execRingFlitTimeout_answers e
    | ringCreditAudit e d0 d1 c0 c1 => exact execRingCreditAudit_answers e d0 d1 c0 c1
    | ringHeartbeat e h => exact execRingHeartbeat_answers e h
    | heartbeatSend e => exact execHeartbeatSend_answers e
    | neighbourLost e => exact execNeighbourLost_answers e
    | ringPcsLock e => exact execRingPcsLock_answers e
    | ringPcsLoss e => exact execRingPcsLoss_answers e
    | ringAdvert e h a => exact execRingAdvert_answers e h a
    | advertSend => exact execAdvertSend_answers
    | nodeUnreached n => exact execNodeUnreached_answers n
    | ringLoss e h y => exact execRingLoss_answers e h y
    | replicaPromote n => exact execReplicaPromote_answers n
    | ringSpill e h x bytes rmask => exact execRingSpill_answers e h x bytes rmask
    | ringSpillResult e h x bytes rmask => exact execRingSpillResult_answers e h x bytes rmask
    | ringRepl e h m => exact execRingRepl_answers e h m
    | ringReplAck e h sa seq => exact execRingReplAck_answers e h sa seq
    | replAckTimeout => exact execReplAckTimeout_answers
    | replPnTimer sa => exact execReplPnTimer_answers sa
    | leaseSuspend n => exact execLeaseSuspend_answers n
    | replResync n => exact execReplResync_answers n
    | ringPortFence e => exact execRingPortFence_answers e
    | ringCfgWrite who v => exact execRingCfgWrite_answers who v
    | pcieFunctionReset => exact execPcieFunctionReset_answers
    | msixHoldoffEnd v => exact execMsixHoldoffEnd_answers v
    | memwinWrite who v => exact execMemwinWrite_answers who v
    | apertureAccess who x size wr => exact execApertureAccess_answers who x size wr
    | accessRefused who off wr => exact execAccessRefused_answers who off wr
    | readZeroed who off wr => exact execReadZeroed_answers who off wr
    | accessUnavail who off wr => exact execAccessUnavail_answers who off wr
    | smbIdcode => exact execSmbIdcode_answers
    | smbLcState => exact execSmbLcState_answers
    | smbStatus => exact execSmbStatus_answers
    | smbFaultStat => exact execSmbFaultStat_answers
    | smbThermMax => exact execSmbThermMax_answers
    | smbTherm k => exact execSmbTherm_answers k
    | smbMonEvt => exact execSmbMonEvt_answers
    | smbLinkUp => exact execSmbLinkUp_answers
    | smbRingState => exact execSmbRingState_answers
    | smbDerrqStat => exact execSmbDerrqStat_answers
    | smbNotify v => exact execSmbNotify_answers v
    | smbBusTimeout => exact execSmbBusTimeout_answers
    | registerWrite who bar2 off v => exact execRegisterWrite_answers who bar2 off v
    | refclkRecover refA => exact execRefclkRecover_answers refA
    | standbyLost => exact execStandbyLost_answers
    | rxFecCodeword sd p symbols bad inFrame => exact execRxFecCodeword_answers sd p symbols bad inFrame
    | laneRxLock sd l sig cdr cal blk => exact execLaneRxLock_answers sd l sig cdr cal blk
    | skbContextRestore c n ecc => exact execSkbContextRestore_answers c n ecc
    | ringForward e h body => exact execRingForward_answers e h body
    | _ => cases ho

/-- A step answers a next state, without the command at the front of the queue. -/
theorem step_answers (s : State) : Answers { s with pending := s.pending.tail } (step s) := by
  unfold step
  split
  · next h => exact answers_next.2 ⟨by simp [h], id⟩
  · next c rest h =>
    rw [h]
    exact exec_answers c _

/-- The state after a step: a step of this block always answers one (`step_eq_next`). -/
def State.after (s : State) : State :=
  match step s with
  | .next t => t
  | .fault _ => s
  | .refused _ => s

theorem step_eq_next (s : State) : step s = .next s.after := by
  obtain ⟨t, h, -⟩ := step_answers s
  simp only [State.after, h]

@[simp] theorem State.after_pending (s : State) : s.after.pending = s.pending.tail := by
  obtain ⟨t, h, k, -⟩ := step_answers s
  simpa only [State.after, h] using k

/-- The state after `n` steps. -/
def State.afterSteps (s : State) : Nat → State
  | 0 => s
  | n + 1 => (s.afterSteps n).after

theorem State.afterSteps_pending (s : State) (n : Nat) : (s.afterSteps n).pending = s.pending.drop n := by
  induction n with
  | zero => rfl
  | succ n ih => rw [State.afterSteps, State.after_pending, ih, List.tail_drop]

end Sys2Proof.Machine
end

section
/-! What every step keeps: the block goes on, and its register map stays canonical. -/

namespace Sys2Proof.Machine
open Sys2Proof

/-- Settles O3: each command answers (`exec_answers`), so the steps iterate, each taking one command from the queue. -/
theorem blockNeverStops : Obligations.BlockNeverStops := by
  refine ⟨fun i s => ?_, fun s => ⟨s.afterSteps, rfl, fun n => step_eq_next (s.afterSteps n), s.afterSteps_pending, ?_⟩⟩
  · obtain ⟨t, h, k, -⟩ := exec_answers i s
    exact ⟨t, h, k⟩
  · rw [State.afterSteps_pending, List.drop_length]

/-- Settles O5: registers change by single writes, a warm reset's filter and a power-on reset alone (`RegsOk`), so no
command, and no step, spoils the form of the register map. -/
theorem registersStayCanonical : Obligations.RegistersStayCanonical := by
  intro s t hs h
  obtain ⟨u, hu, -, k⟩ := step_answers s
  cases hu.symm.trans h
  exact (State.regsWf_iff _).2 (k ((State.regsWf_iff s).1 hs))

end Sys2Proof.Machine
end

section
/-! The state right after reset (O2). -/

namespace Sys2Proof.Machine
open Sys2Proof

theorem State.reset_rd (off : Nat) : State.reset.rd off = rstWord off := rfl

theorem State.reset_core (g : Nat) : State.reset.core g = Core.reset := rfl

/-- Every register file and memory of a core is zero and untinted at reset (R151, R260). -/
theorem Core.reset_reads (n : Nat) :
    Core.reset.rdG n = tw0 ∧ Core.reset.rdA n = tw0 ∧ Core.reset.rdO n = tw0 ∧ Core.reset.rdM n = tw0 ∧
      Core.reset.q.get td0 n = td0 ∧ Core.reset.rdAcc n = acc0 ∧ Core.reset.rdP n = p0 ∧
      Core.reset.dmem.b.get 0 n = 0 ∧ Core.reset.dmem.tint n = .clean ∧ Core.reset.imem.get 0 n = 0 := by
  refine ⟨?_, rfl, rfl, rfl, rfl, rfl, rfl, rfl, rfl, rfl⟩
  simp [Core.rdG, Core.reset, SMap.get]

/-- Settles O2: the maps of the reset state are empty, so every read finds the reset value. -/
theorem resetState : Obligations.ResetState := by
  refine ⟨State.reset_rd, by decide, by decide, by decide, fun g => ⟨fun n => ?_, rfl, rfl, rfl, rfl⟩,
    fun c a => ⟨rfl, rfl, rfl⟩, rfl, rfl, rfl, rfl, rfl, rfl, rfl, rfl, rfl, ?_, ?_, rfl⟩
  · exact State.reset_core g ▸ Core.reset_reads n
  · exact (State.regsWf_iff _).2 RegsOk.nil
  · rfl

end Sys2Proof.Machine
end

section
/-! SUPPORT. Interrupt requests and refused accesses: what they leave, and what a refusal logs (R396, R426, R533). -/

namespace Sys2Proof.Machine
open Sys2Proof

variable {s t u : State}

/-- `t` is `s` but for the vectors' pending bits, holdoffs and messages. -/
def MsixOnly (s t : State) : Prop := ∃ p h o, t = { s with msixPba := p, msixHold := h, out := o }

theorem MsixOnly.refl (s : State) : MsixOnly s s := ⟨s.msixPba, s.msixHold, s.out, rfl⟩

theorem MsixOnly.trans (h : MsixOnly s t) (k : MsixOnly t u) : MsixOnly s u := by
  obtain ⟨_, _, _, rfl⟩ := h
  obtain ⟨p, h, o, rfl⟩ := k
  exact ⟨p, h, o, rfl⟩

theorem MsixOnly.wr (h : MsixOnly s t) (off : Nat) (w : Word) : MsixOnly (s.wr off w) (t.wr off w) := by
  obtain ⟨p, h, o, rfl⟩ := h
  exact ⟨p, h, o, rfl⟩

theorem MsixOnly.wr64 (h : MsixOnly s t) (off v : Nat) : MsixOnly (s.wr64 off v) (t.wr64 off v) := (h.wr _ _).wr _ _

theorem State.msixSend_msixOnly (s : State) (v : Nat) : MsixOnly s (s.msixSend v) := by
  unfold State.msixSend
  split <;> exact ⟨_, _, _, rfl⟩

theorem State.msixRise_msixOnly (s : State) (v : Nat) : MsixOnly s (s.msixRise v) := by
  unfold State.msixRise
  extract_lets h off s1
  split
  · exact ⟨_, _, _, rfl⟩
  · exact (s.msixSend_msixOnly v).trans ⟨_, _, _, rfl⟩

/-- A rise of a device-level source sends messages or leaves them pending, and does nothing else (R535). -/
theorem State.devRise_msixOnly (s : State) (i : Nat) : MsixOnly s (s.devRise i) := by
  unfold State.devRise
  generalize Sys2Proof.range 1 31 = l
  induction l generalizing s with
  | nil => exact MsixOnly.refl _
  | cons v l ih =>
    refine MsixOnly.trans ?_ (ih _)
    dsimp only
    split
    · exact s.msixRise_msixOnly v
    · exact MsixOnly.refl _

/-- An event sets its bit, and may send messages. -/
theorem State.evtSet_msixOnly (s : State) (evt en src : Nat) (f : Fld) :
    MsixOnly (s.setFlag evt f true) (s.evtSet evt en src f) := by
  unfold State.evtSet
  extract_lets hot was s1
  split
  · exact s1.devRise_msixOnly src
  · exact MsixOnly.refl _

/-- `t` is `s` but for the registers. -/
def RegsOnly (s t : State) : Prop := ∃ r, t = { s with regs := r }

theorem RegsOnly.trans (h : RegsOnly s t) (k : RegsOnly t u) : RegsOnly s u := by
  obtain ⟨_, rfl⟩ := h
  obtain ⟨r, rfl⟩ := k
  exact ⟨r, rfl⟩

theorem RegsOnly.eq (h : RegsOnly s t) : t = { s with regs := t.regs } := by
  obtain ⟨_, rfl⟩ := h
  rfl

theorem State.wr_regsOnly (s : State) (off : Nat) (w : Word) : RegsOnly s (s.wr off w) := ⟨_, rfl⟩

theorem State.setFlag_regsOnly (s : State) (off : Nat) (f : Fld) (b : Bool) : RegsOnly s (s.setFlag off f b) :=
  s.wr_regsOnly _ _

theorem State.wr64_regsOnly (s : State) (off v : Nat) : RegsOnly s (s.wr64 off v) :=
  (s.wr_regsOnly _ _).trans (State.wr_regsOnly _ _ _)

theorem State.inc64_regsOnly (s : State) (off : Nat) : RegsOnly s (s.inc64 off) := s.wr64_regsOnly _ _

/-- One raw event counts one more occurrence, up to 255 (R316). -/
theorem Src.raise_occ (x : Src) (count time mclk : Nat) : (x.raise count time mclk).occ = min (x.occ + 1) 255 := by
  simp only [Src.raise]
  (repeat' split) <;> rfl

theorem State.raiseDev_occ (s : State) (i : Nat) :
    ((s.raiseDev i).src (devKey i)).occ = min ((s.src (devKey i)).occ + 1) 255 := by
  unfold State.raiseDev
  extract_lets cw x
  obtain ⟨_, _, _, h⟩ := (s.setSrc (devKey i) x).devRise_msixOnly i
  rw [h]
  exact (congrArg Src.occ (State.src_setSrc s (devKey i) x)).trans (Src.raise_occ _ _ _ _)

/-- The counter, event field and source number of the refusals of a principal outside the block (R396, R533, R547). -/
def refSlot (who : Prin) : Nat := if who = .lens then 1 else if who = .smbus then 2 else 0

def refEvent (who : Prin) : Fld :=
  if who = .lens then HOSTIF_EVT_LENS_REFUSED else if who = .smbus then HOSTIF_EVT_SMB_ERR else HOSTIF_EVT_HOST_REFUSED

/-- The registers after a refusal: the counter, the event, and the log. -/
def State.refusal (s : State) (who : Prin) (off wr reason : Nat) : State :=
  (((s.inc64 (HOSTIF_CNT (refSlot who))).setFlag HOSTIF_EVT (refEvent who) true).wr64 ACC_LOG_ADDR off).wr ACC_LOG_INFO
    (BitVec.ofNat 32 (2 ^ 31 + 1024 * refSlot who + 512 * wr + reason))

/-- What the refusal of an access leaves, as the statement of O59 says it. -/
def Logs (s : State) (who : Prin) (wr reason a : Nat) (t : State) : Prop :=
  t.rd64 (HOSTIF_CNT (refSlot who)) = (s.rd64 (HOSTIF_CNT (refSlot who)) + 1) % 2 ^ 64 ∧
    t.flag HOSTIF_EVT (refEvent who) = true ∧ t.rd64 ACC_LOG_ADDR = a ∧
  t.rd ACC_LOG_INFO = BitVec.ofNat 32 (2 ^ 31 + 1024 * refSlot who + 512 * wr + reason) ∧
  t = { s.signals t with regs := t.regs } ∧
  RegsBut [HOSTIF_CNT (refSlot who), HOSTIF_CNT (refSlot who) + 4, HOSTIF_EVT, ACC_LOG_ADDR, ACC_LOG_ADDR + 4,
    ACC_LOG_INFO] s t ∧
  (reason ≠ 4 → t.srcs = s.srcs) ∧
  (reason = 4 → (t.src (devKey 50)).occ = min ((s.src (devKey 50)).occ + 1) 255)

/-- Reads of a state with the registers of another. -/
theorem State.rd_congr (h : t.regs = s.regs) (off : Nat) : t.rd off = s.rd off := by
  simp only [State.rd, h]

theorem refSlot_le (who : Prin) : refSlot who ≤ 2 := by
  unfold refSlot
  (repeat' split) <;> decide

theorem State.rd_wr64_ne (s : State) (off v o : Nat) (h : o ≠ off) (h' : o ≠ off + 4) :
    (s.wr64 off v).rd o = s.rd o := by
  rw [State.wr64, State.rd_wr_ne _ _ _ _ h', State.rd_wr_ne _ _ _ _ h]

theorem State.refusal_regsOnly (s : State) (who : Prin) (off wr reason : Nat) :
    RegsOnly s (s.refusal who off wr reason) :=
  (((s.inc64_regsOnly _).trans (State.setFlag_regsOnly _ _ _ _)).trans (State.wr64_regsOnly _ _ _)).trans
    (State.wr_regsOnly _ _ _)

/-- The registers of a refusal read as O59 says. -/
theorem State.refusal_reads {who : Prin} {off wr reason : Nat} (hoff : off < 2 ^ 64)
    (ht : t.regs = (s.refusal who off wr reason).regs) :
    t.rd64 (HOSTIF_CNT (refSlot who)) = (s.rd64 (HOSTIF_CNT (refSlot who)) + 1) % 2 ^ 64 ∧
    t.flag HOSTIF_EVT (refEvent who) = true ∧ t.rd64 ACC_LOG_ADDR = off ∧
    t.rd ACC_LOG_INFO = BitVec.ofNat 32 (2 ^ 31 + 1024 * refSlot who + 512 * wr + reason) ∧
    RegsBut [HOSTIF_CNT (refSlot who), HOSTIF_CNT (refSlot who) + 4, HOSTIF_EVT, ACC_LOG_ADDR, ACC_LOG_ADDR + 4,
      ACC_LOG_INFO] s t := by
  have hk := refSlot_le who
  generalize hcnt : HOSTIF_CNT (refSlot who) = cnt
  have hc : 0x470100 ≤ cnt := by rw [← hcnt]; unfold HOSTIF_CNT; omega
  have log (o : Nat) (h : o ≠ ACC_LOG_ADDR) (h' : o ≠ ACC_LOG_ADDR + 4) (h'' : o ≠ ACC_LOG_INFO) :
      t.rd o = ((s.inc64 cnt).setFlag HOSTIF_EVT (refEvent who) true).rd o := by
    rw [State.rd_congr ht, State.refusal, State.rd_wr_ne _ _ _ _ h'', State.rd_wr64_ne _ _ _ _ h h', hcnt]
  have evt (o : Nat) (h : o ≠ HOSTIF_EVT) (x : State) :
      (x.setFlag HOSTIF_EVT (refEvent who) true).rd o = x.rd o := State.rd_wr_ne _ _ _ _ h
  simp only [ACC_LOG_ADDR, ACC_LOG_INFO, HOSTIF_EVT] at *
  refine ⟨?_, ?_, ?_, ?_, ?_⟩
  · simp only [State.rd64]
    rw [log _ (by omega) (by omega) (by omega), log _ (by omega) (by omega) (by omega), evt _ (by omega), evt _ (by omega)]
    exact State.rd64_inc64 s cnt
  · have hf : ∃ i, refEvent who = ⟨i, i⟩ ∧ i < 32 := by
      unfold refEvent
      (repeat' split) <;> exact ⟨_, rfl, by decide⟩
    obtain ⟨i, hi, hlt⟩ := hf
    have := State.flag_setFlag (s.inc64 cnt) 0x470000 i true hlt
    rw [← hi] at this
    rw [← this]
    simp only [State.flag, State.fld]
    rw [log _ (by omega) (by omega) (by omega)]
  · refine Eq.trans ?_ (State.rd64_wr64 ((s.inc64 cnt).setFlag 0x470000 (refEvent who) true) 0x470010 off hoff)
    simp only [State.rd64, State.rd_congr ht, State.refusal, ACC_LOG_ADDR, ACC_LOG_INFO, HOSTIF_EVT, hcnt]
    rw [State.rd_wr_ne _ _ _ _ (by omega), State.rd_wr_ne _ _ _ _ (by omega)]
  · rw [State.rd_congr ht]
    exact State.rd_wr _ _ _
  · intro o ho
    simp only [List.mem_cons, List.not_mem_nil, or_false, not_or] at ho
    obtain ⟨h1, h2, h3, h4, h5, h6⟩ := ho
    rw [log o h4 h5 h6, evt o h3, State.rd_inc64_ne _ _ _ h1 h2]

/-- What a change of registers and then of messages leaves. -/
theorem MsixOnly.after_regsOnly (h : RegsOnly s t) (k : MsixOnly t u) :
    u.regs = t.regs ∧ u.srcs = s.srcs ∧ u = { s.signals u with regs := u.regs } := by
  obtain ⟨_, rfl⟩ := h
  obtain ⟨_, _, _, rfl⟩ := k
  exact ⟨rfl, rfl, rfl⟩

theorem MsixOnly.logs {who : Prin} {a wr reason : Nat} (ha : a < 2 ^ 64)
    (h : MsixOnly (s.refusal who a wr reason) t) (h4 : reason ≠ 4) : Logs s who wr reason a t := by
  obtain ⟨hregs, hsrcs, hrest⟩ := h.after_regsOnly (s.refusal_regsOnly who a wr reason)
  obtain ⟨hcnt, hevt, haddr, hinfo, hbut⟩ := State.refusal_reads ha hregs
  exact ⟨hcnt, hevt, haddr, hinfo, hrest, hbut, fun _ => hsrcs, fun k => absurd k h4⟩

theorem State.raiseDev_eq (s : State) (i : Nat) :
    ∃ x p m o, s.raiseDev i = { s with srcs := x, msixPba := p, msixHold := m, out := o } := by
  obtain ⟨p, m, o, h⟩ := State.devRise_msixOnly (s.setSrc (devKey i) ((s.src (devKey i)).raise
    ((s.rd (srcAddr (devKey i) 1)).fld SRC_COAL_COUNT) ((s.rd (srcAddr (devKey i) 1)).fld SRC_COAL_TIME) s.mclk)) i
  exact ⟨_, p, m, o, h⟩

/-- The Lens' refusals by the lifecycle also raise source 50 (R426). -/
theorem MsixOnly.logs_lensRefused {who : Prin} {a wr : Nat} (ha : a < 2 ^ 64)
    (h : MsixOnly (s.refusal who a wr 4) t) : Logs s who wr 4 a t.lensRefused := by
  obtain ⟨hregs, hsrcs, hrest⟩ := h.after_regsOnly (s.refusal_regsOnly who a wr 4)
  have hocc : (t.lensRefused.src (devKey 50)).occ = min ((s.src (devKey 50)).occ + 1) 255 := by
    rw [State.lensRefused, State.raiseDev_occ, State.src, hsrcs, State.src]
  obtain ⟨x, p, m, o, hd⟩ : ∃ x p m o, t.lensRefused = { t with srcs := x, msixPba := p, msixHold := m, out := o } :=
    t.raiseDev_eq 50
  obtain ⟨hcnt, hevt, haddr, hinfo, hbut⟩ := State.refusal_reads ha ((congrArg State.regs hd).trans hregs)
  refine ⟨hcnt, hevt, haddr, hinfo, ?_, hbut, fun k => absurd rfl k, fun _ => hocc⟩
  rw [hd, hrest]
  rfl

/-- A refusal to a principal outside the block, but for source 50: the counter, the event, and the log. -/
def State.logRefused (s : State) (who : Prin) (off wr reason : Nat) : State :=
  (((s.inc64 (HOSTIF_CNT (refSlot who))).evtSet HOSTIF_EVT HOSTIF_EVT_EN 61 (refEvent who)).wr64 ACC_LOG_ADDR off).wr
    ACC_LOG_INFO (BitVec.ofNat 32 (2 ^ 31 + refSlot who * 2 ^ 10 + wr * 2 ^ 9 + reason % 8))

theorem State.logRefused_msixOnly (s : State) (who : Prin) (off wr : Nat) {reason : Nat} (hr : reason < 8) :
    MsixOnly (s.refusal who off wr reason) (s.logRefused who off wr reason) := by
  have hi : 2 ^ 31 + refSlot who * 2 ^ 10 + wr * 2 ^ 9 + reason % 8
      = 2 ^ 31 + 1024 * refSlot who + 512 * wr + reason := by omega
  rw [State.logRefused, hi]
  exact ((State.evtSet_msixOnly _ _ _ _ _).wr64 _ _).wr _ _

theorem State.accRefused_outside (s : State) {who : Prin} (off reason : Nat) (wr : Bool)
    (hw : who = .host ∨ who = .lens ∨ who = .smbus) :
    s.accRefused who off wr reason = if reason = 4 ∧ who = .lens then (s.logRefused who off (b2n wr) reason).lensRefused
      else s.logRefused who off (b2n wr) reason := by
  rcases hw with rfl | rfl | rfl <;>
    simp only [State.accRefused, State.logRefused, refSlot, refEvent, reduceCtorEq, and_false, and_true, if_true, if_false]

/-- A refusal to a principal outside the block is counted, signalled and logged (R396, R426, R533). -/
theorem State.accRefused_logs (s : State) {who : Prin} {a reason : Nat} (wr : Bool) (ha : a < 2 ^ 64)
    (hr : reason < 8) (hw : who = .host ∨ who = .lens ∨ who = .smbus) (h4 : reason = 4 → who = .lens) :
    Logs s who (b2n wr) reason a (s.accRefused who a wr reason) := by
  have hm := s.logRefused_msixOnly who a (b2n wr) hr
  rw [s.accRefused_outside a reason wr hw]
  split
  · next h =>
    obtain ⟨rfl, -⟩ := h
    exact hm.logs_lensRefused ha
  · next h => exact hm.logs ha fun k => h ⟨k, h4 k⟩

/-- What an access to a block that is off leaves, as the statement of O59 says it (R532). -/
def Unavail (s : State) (who : Prin) (t : State) : Prop :=
  t.srcs = s.srcs ∧ if who = .host ∨ who = .lens then
    t.rd64 (HOSTIF_CNT 3) = (s.rd64 (HOSTIF_CNT 3) + 1) % 2 ^ 64 ∧ t.flag HOSTIF_EVT HOSTIF_EVT_UNAVAIL = true ∧
      t = { s.signals t with regs := t.regs } ∧ RegsBut [HOSTIF_CNT 3, HOSTIF_CNT 3 + 4, HOSTIF_EVT] s t
  else t = s

/-- An access to a block that is off is ignored, and counted for the host and the Lens. -/
theorem State.accUnavail_unavail (s : State) (who : Prin) : Unavail s who (s.accUnavail who) := by
  unfold State.accUnavail Unavail
  split
  · generalize ht : (s.inc64 (HOSTIF_CNT 3)).evtSet HOSTIF_EVT HOSTIF_EVT_EN 61 HOSTIF_EVT_UNAVAIL = t
    have hm := ht ▸ State.evtSet_msixOnly (s.inc64 (HOSTIF_CNT 3)) HOSTIF_EVT HOSTIF_EVT_EN 61 HOSTIF_EVT_UNAVAIL
    obtain ⟨hregs, hsrcs, hrest⟩ := hm.after_regsOnly ((s.inc64_regsOnly _).trans (State.setFlag_regsOnly _ _ _ _))
    have evt (o : Nat) (h : o ≠ HOSTIF_EVT) : t.rd o = (s.inc64 (HOSTIF_CNT 3)).rd o :=
      (State.rd_congr hregs o).trans (State.rd_wr_ne _ _ _ _ h)
    refine ⟨hsrcs, ?_, ?_, hrest, fun o ho => ?_⟩
    · rw [← State.rd64_inc64, State.rd64, State.rd64, evt _ (by decide), evt _ (by decide)]
    · rw [← State.flag_setFlag (s.inc64 (HOSTIF_CNT 3)) HOSTIF_EVT 2 true (by decide)]
      simp only [State.flag, State.fld, State.rd_congr hregs, HOSTIF_EVT_UNAVAIL]
    · simp only [List.mem_cons, List.not_mem_nil, or_false, not_or] at ho
      obtain ⟨h1, h2, h3⟩ := ho
      rw [evt o h3, State.rd_inc64_ne s _ o h1 h2]
  · exact ⟨rfl, rfl⟩

end Sys2Proof.Machine
end

section
/-! SUPPORT. The register map of the clusters, and what the principal access table answers (R395, R396, R532). -/

namespace Sys2Proof.Machine
open Sys2Proof

/-- The offsets that the indices of some strides span. -/
def strideSpan : List (Nat × Nat) → Nat
  | [] => 1
  | (st, n) :: _ => st * n

theorem unstride_eq_none {ds : List (Nat × Nat)} {r : Nat} (hpos : ds.all (fun d => decide (0 < d.1)) = true)
    (h : strideSpan ds ≤ r) : unstride ds r = none := by
  cases ds with
  | nil => exact if_neg (by simp only [strideSpan] at h; omega)
  | cons d ds =>
    obtain ⟨st, n⟩ := d
    simp only [List.all_cons, Bool.and_eq_true, decide_eq_true_eq] at hpos
    have := (Nat.le_div_iff_mul_le hpos.1).2 (Nat.le_trans (Nat.le_of_eq (Nat.mul_comm n st)) h)
    exact if_neg (by omega)

/-- A family of the clusters' registers: one block of 0x40000 bytes in each cluster, within which it stands. -/
def RegFam.inClusters (f : RegFam) : Bool :=
  match f.dims with
  | (0x40000, 12) :: ds => decide (0x800000 ≤ f.base ∧ f.base + strideSpan ds + 8 ≤ 0x840000) && ds.all (fun d => decide (0 < d.1))
  | _ => false

theorem famsCluster_inClusters : famsCluster.all RegFam.inClusters = true := by decide

theorem unstride_block {ds : List (Nat × Nat)} {c r : Nat} (hc : c < 12) (hr : r < 0x40000) :
    (unstride ((0x40000, 12) :: ds) (0x40000 * c + r)).isSome = (unstride ds r).isSome := by
  have h1 : (0x40000 * c + r) / 0x40000 = c := by omega
  have h2 : (0x40000 * c + r) % 0x40000 = r := by omega
  simp [unstride, h1, h2, hc]

/-- A register's word, the low one of two, stands at an offset. -/
def RegFam.lowAt (f : RegFam) (off : Nat) : Bool := decide (f.base ≤ off) && (unstride f.dims (off - f.base)).isSome

theorem RegFam.index_isSome (f : RegFam) {off : Nat} (h : 4 ≤ off) :
    (f.index off).isSome = (f.lowAt off || (f.w64 && f.lowAt (off - 4))) := by
  have h4 : off - 4 - f.base = off - f.base - 4 := by omega
  have hle : f.base ≤ off - 4 ↔ f.base + 4 ≤ off := by omega
  simp only [RegFam.index, RegFam.lowAt, h4, hle]
  by_cases hb : f.base ≤ off
  · simp only [Nat.not_lt.2 hb, if_false, hb, decide_true, Bool.true_and]
    cases unstride f.dims (off - f.base) with
    | some is => rfl
    | none => cases hw : f.w64 <;> by_cases hlt : f.base + 4 ≤ off <;> simp [hlt]
  · have hlt : ¬ f.base + 4 ≤ off := by omega
    simp [Nat.lt_of_not_le hb, hb, hlt]

theorem RegFam.lowAt_cluster {f : RegFam} (hf : f.inClusters = true) {c r : Nat} (hc : c < 12) (hr : r < 0x40000) :
    f.lowAt (0x800000 + 0x40000 * c + r) = f.lowAt (0x800000 + r) := by
  obtain ⟨ds, hd, hbase, hspan, hpos⟩ : ∃ ds, f.dims = (0x40000, 12) :: ds ∧ 0x800000 ≤ f.base ∧
      f.base + strideSpan ds + 8 ≤ 0x840000 ∧ ds.all (fun d => decide (0 < d.1)) = true := by
    unfold RegFam.inClusters at hf
    split at hf
    · next ds hd =>
      simp only [Bool.and_eq_true, decide_eq_true_eq] at hf
      exact ⟨ds, hd, hf.1.1, hf.1.2, hf.2⟩
    · cases hf
  simp only [RegFam.lowAt, hd]
  by_cases hle : f.base ≤ 0x800000 + r
  · have h0 := unstride_block (ds := ds) (c := 0) (r := 0x800000 + r - f.base) (by decide) (by omega)
    have h1 := unstride_block (ds := ds) (r := 0x800000 + r - f.base) hc (by omega)
    have e0 : 0x40000 * 0 + (0x800000 + r - f.base) = 0x800000 + r - f.base := by omega
    have e1 : 0x40000 * c + (0x800000 + r - f.base) = 0x800000 + 0x40000 * c + r - f.base := by omega
    rw [e0] at h0
    rw [e1] at h1
    rw [h1, h0, decide_eq_true hle, decide_eq_true (by omega : f.base ≤ 0x800000 + 0x40000 * c + r)]
  · rw [decide_eq_false hle, Bool.false_and]
    cases c with
    | zero => rw [decide_eq_false (by omega), Bool.false_and]
    | succ c =>
      have h1 := unstride_block (ds := ds) (c := c) (r := 0x840000 + r - f.base) (by omega) (by omega)
      have e1 : 0x40000 * c + (0x840000 + r - f.base) = 0x800000 + 0x40000 * (c + 1) + r - f.base := by omega
      rw [← e1, h1, unstride_eq_none hpos (by omega), Option.isSome_none, Bool.and_false]

/-- Every cluster's registers stand as those of cluster 0 do. -/
theorem RegFam.index_cluster {f : RegFam} (hf : f.inClusters = true) {c r : Nat} (hc : c < 12) (h4 : 4 ≤ r)
    (hr : r < 0x40000) : (f.index (0x800000 + 0x40000 * c + r)).isSome = (f.index (0x800000 + r)).isSome := by
  have e : 0x800000 + 0x40000 * c + r - 4 = 0x800000 + 0x40000 * c + (r - 4) := by omega
  have e' : 0x800000 + r - 4 = 0x800000 + (r - 4) := by omega
  rw [f.index_isSome (by omega), f.index_isSome (by omega), e, e', f.lowAt_cluster hf hc hr,
    f.lowAt_cluster hf hc (by omega : r - 4 < 0x40000)]

theorem findFam_map_fst (l : List RegFam) (off : Nat) :
    (findFam l off).map (fun x => x.1) = l.find? (fun f => (f.index off).isSome) := by
  induction l with
  | nil => rfl
  | cons f l ih =>
    simp only [findFam, List.find?_cons]
    cases f.index off with
    | none => exact ih
    | some x => rfl

/-- Two tests that agree on the entries of a list find the same one. -/
theorem find?_eq_of_forall_mem {α : Type} {p q : α → Bool} {l : List α} (h : ∀ x ∈ l, p x = q x) :
    l.find? p = l.find? q := by
  induction l with
  | nil => rfl
  | cons x l ih =>
    rw [List.find?_cons, List.find?_cons, h x List.mem_cons_self, ih fun y hy => h y (List.mem_cons_of_mem x hy)]

/-- The family of a cluster's register is that of the register of cluster 0. -/
theorem famOf_cluster {c r : Nat} (hc : c < 12) (h4 : 4 ≤ r) (hr : r < 0x40000) :
    (famOf (0x800000 + 0x40000 * c + r)).map (fun x => x.1) = (famOf (0x800000 + r)).map (fun x => x.1) := by
  have fams (o : Nat) (h : 0x800000 ≤ o ∧ o < 0xB00000) : famsAt o = famsCluster := by
    unfold famsAt
    (repeat rw [if_neg (by omega)])
    rw [if_pos h]
  rw [famOf, famOf, fams _ (by omega), fams _ (by omega), findFam_map_fst, findFam_map_fst]
  refine find?_eq_of_forall_mem fun f hf => ?_
  exact f.index_cluster (List.all_eq_true.1 famsCluster_inClusters f hf) hc h4 hr

theorem domainOf_cluster {c r : Nat} (hc : c < 12) (hr : r < 0x40000) :
    domainOf (0x800000 + 0x40000 * c + r) = some (96 + c) := by
  unfold domainOf
  (repeat rw [if_neg (by omega)])
  rw [if_pos (by omega)]
  congr 2
  omega

theorem rowOf_cluster {c r : Nat} (hc : c < 12) (hr : r < 0x40000) :
    rowOf (0x800000 + 0x40000 * c + r) = if 0x30000 ≤ r then .dma else .cluster := by
  have hm : (0x800000 + 0x40000 * c + r) % 0x40000 = r := by omega
  unfold rowOf FAULT_STAT
  (repeat rw [if_neg (by omega)])
  rw [if_pos (by omega), hm]

end Sys2Proof.Machine
end

section
/-! SUPPORT. What the access table answers to a guarded command. -/

namespace Sys2Proof.Machine
open Sys2Proof

variable {s : State} {who : Prin} {off : Nat}

/-- A register that has a writable field and no WDN field. -/
def openReg (off : Nat) : Bool :=
  match (famOf off).map fun x => x.1 with
  | some f => f.wdn == 0 && f.open_ != 0
  | none => false

/-- A register with a WDN field. -/
def wdnReg (off : Nat) : Bool :=
  match (famOf off).map fun x => x.1 with
  | some f => f.wdn != 0
  | none => false

theorem openReg_cluster {c r : Nat} (hc : c < 12) (h4 : 4 ≤ r) (hr : r < 0x40000) :
    openReg (0x800000 + 0x40000 * c + r) = openReg (0x800000 + r) := by
  simp only [openReg, famOf_cluster hc h4 hr]

/-- Where the table denies the register's row, a guarded command is refused for that reason. -/
theorem State.guarded_denied (hf : openReg off = true) (hrow : rowOf off ≠ .tintLog) (on : s.blockOn off = true)
    (hd : s.denied who (rowOf off) off true ≠ 0) (act : State → State) :
    s.guarded who off act = s.accRefused who off true (s.denied who (rowOf off) off true) := by
  simp only [openReg] at hf
  simp only [State.guarded, on, Bool.not_true, Bool.false_eq_true, if_false]
  split
  · next h => simp [h] at hf
  · next f is hi h =>
    simp only [h, Option.map_some, Bool.and_eq_true, beq_iff_eq, bne_iff_ne, ne_eq] at hf
    obtain ⟨hwdn, hopen⟩ := hf
    have hopen' : ¬ f.open_ = 0#32 := hopen
    have hr : (s.refusedBits who off f true).2 = s.denied who (rowOf off) off true := by
      by_cases hw : who = .smbus
      · subst hw
        simp [State.refusedBits, hwdn, hrow, hd]
      · simp [State.refusedBits, hwdn, hopen', hrow, hd, hw]
    simp only [hr, hd, if_false]

/-- A guarded command on a register with a WDN field is refused to all but the Warden. -/
theorem State.guarded_wdn (hf : wdnReg off = true) (on : s.blockOn off = true) (hw : who ≠ .warden)
    (act : State → State) : s.guarded who off act = s.accRefused who off true 3 := by
  simp only [wdnReg] at hf
  simp only [State.guarded, on, Bool.not_true, Bool.false_eq_true, if_false]
  split
  · next h => simp [h] at hf
  · next f is hi h =>
    simp only [h, Option.map_some, bne_iff_ne, ne_eq] at hf
    have hf' : ¬ f.wdn = 0#32 := hf
    have hr : (s.refusedBits who off f true).2 = 3 := by
      simp [State.refusedBits, hw, hf']
    simp only [hr]
    exact if_neg (by decide)

theorem State.guarded_off (off_ : s.blockOn off = false) (act : State → State) :
    s.guarded who off act = s.accUnavail who := by
  simp [State.guarded, off_]

theorem State.accRefused_core {g : CoreId} (h : (s.core g).run = true) (wr : Bool) (reason : Nat) :
    s.accRefused (.core g) off wr reason = s.except g 6 0 (some (coreAddrOf g off)) := by
  simp [State.accRefused, h]

/-- The reason of a refusal that the principal access table makes: 4 for the Lens in DEPLOYED (R547). -/
def State.refReason (s : State) (who : Prin) : Nat := if (s.lcState == 2 && who == .lens) then 4 else 1

/-- A guarded command that the table denies to the host or the Lens is logged with the table's reason. -/
theorem State.guarded_logs (hf : openReg off = true) (hrow : rowOf off ≠ .tintLog) (on : s.blockOn off = true)
    (hoff : off < 2 ^ 64) (hw : who = .host ∨ who = .lens)
    (hd : s.denied who (rowOf off) off true = s.refReason who) (act : State → State) :
    Logs s who 1 (s.refReason who) off (s.guarded who off act) := by
  have hr : s.refReason who = 1 ∨ s.refReason who = 4 ∧ who = .lens := by
    unfold State.refReason
    split
    · next h =>
      simp only [Bool.and_eq_true, beq_iff_eq] at h
      exact .inr ⟨rfl, h.2⟩
    · exact .inl rfl
  rw [State.guarded_denied hf hrow on (by omega) act, hd]
  exact s.accRefused_logs true hoff (by omega) (hw.imp_right .inl)
    (fun h4 => hr.elim (fun h1 => absurd (h1.symm.trans h4) (by decide)) And.right)

theorem State.denied_lens (h : s.lcState = 2) (row : Row) (wr : Bool) :
    s.denied .lens row off wr = s.refReason .lens := by
  simp [State.denied, State.refReason, h]

/-- The rows that the host writes with HOST_CFG alone. -/
theorem State.denied_barred {row : Row} (hrow : row = .cfg ∨ row = .cluster)
    (h : (who = .host ∧ s.flag PRIN_CTL PRIN_CTL_HOST_CFG = false) ∨ (who = .lens ∧ (s.lcState == 2) = true)) :
    s.denied who row off true = s.refReason who := by
  rcases h with ⟨rfl, hb⟩ | ⟨rfl, hb⟩
  · rcases hrow with rfl | rfl <;> simp [State.denied, State.prin, hb, State.refReason]
  · exact State.denied_lens (beq_iff_eq.1 hb) row true

theorem State.denied_dma
    (h : (who = .host ∧ (s.flag PRIN_CTL PRIN_CTL_HOST_CFG = false ∨ s.flag PRIN_CTL PRIN_CTL_HOST_DMA = false)) ∨
      (who = .lens ∧ (s.lcState == 2) = true)) : s.denied who .dma off true = s.refReason who := by
  rcases h with ⟨rfl, hb⟩ | ⟨rfl, hb⟩
  · rcases hb with hb | hb <;> simp [State.denied, State.prin, hb, State.refReason]
  · exact State.denied_lens (beq_iff_eq.1 hb) .dma true

/-- The cost tables are the Warden's and the Vault's alone. -/
theorem State.denied_cost (hw : who = .host ∨ who = .lens) : s.denied who .cost off true = s.refReason who := by
  rcases hw with rfl | rfl
  · simp [State.denied, State.refReason]
  · by_cases h : s.lcState = 2 <;> simp [State.denied, State.refReason, h]

/-- A command on a register of the row `cfg` or `cluster`, without HOST_CFG or in DEPLOYED. -/
theorem State.guarded_logs_barred (hf : openReg off = true) (hrow : rowOf off = .cfg ∨ rowOf off = .cluster)
    (on : s.blockOn off = true) (hoff : off < 2 ^ 64)
    (h : (who = .host ∧ s.flag PRIN_CTL PRIN_CTL_HOST_CFG = false) ∨ (who = .lens ∧ (s.lcState == 2) = true))
    (act : State → State) : Logs s who 1 (s.refReason who) off (s.guarded who off act) :=
  State.guarded_logs hf (by rcases hrow with h | h <;> simp [h]) on hoff (h.imp And.left And.left)
    (State.denied_barred hrow h) act

theorem State.guarded_logs_dma (hf : openReg off = true) (hrow : rowOf off = .dma)
    (on : s.blockOn off = true) (hoff : off < 2 ^ 64)
    (h : (who = .host ∧ (s.flag PRIN_CTL PRIN_CTL_HOST_CFG = false ∨ s.flag PRIN_CTL PRIN_CTL_HOST_DMA = false)) ∨
      (who = .lens ∧ (s.lcState == 2) = true))
    (act : State → State) : Logs s who 1 (s.refReason who) off (s.guarded who off act) :=
  State.guarded_logs hf (by simp [hrow]) on hoff (h.imp And.left And.left) (hrow ▸ State.denied_dma h) act

theorem State.guarded_logs_wdn (hf : wdnReg off = true) (on : s.blockOn off = true) (hoff : off < 2 ^ 64)
    (hw : who = .host ∨ who = .lens) (act : State → State) : Logs s who 1 3 off (s.guarded who off act) := by
  rw [State.guarded_wdn hf on (by rcases hw with rfl | rfl <;> decide) act]
  exact s.accRefused_logs true hoff (by decide) (hw.imp_right .inl) (fun h => absurd h (by decide))

/-- A register of a block that no power command switches. -/
theorem State.blockOn_of_domainOf_none (h : domainOf off = none) : s.blockOn off = true := by
  simp [State.blockOn, h]

/-- The blocks of a cluster answer together. -/
theorem State.blockOn_cluster (s : State) {c r r' : Nat} (hc : c < 12) (hr : r < 0x40000) (hr' : r' < 0x40000) :
    s.blockOn (0x800000 + 0x40000 * c + r) = s.blockOn (0x800000 + 0x40000 * c + r') := by
  simp only [State.blockOn, domainOf_cluster hc hr, domainOf_cluster hc hr']

theorem DMA_CTL_eq (c ch : Nat) : DMA_CTL c ch = 0x800000 + 0x40000 * c + (0x3000C + 0x100 * ch) := by
  unfold DMA_CTL
  omega

theorem DMA_QPTR_eq (c ch : Nat) : DMA_QPTR c ch = 0x800000 + 0x40000 * c + (0x30018 + 0x100 * ch) := by
  unfold DMA_QPTR
  omega

theorem ERRQ_POPR_eq (c j : Nat) : ERRQ_POPR c j = 0x800000 + 0x40000 * c + (0x40 + 4 * j) := by
  unfold ERRQ_POPR
  omega

theorem srcAddr_shared (c : ClId) (i : BitVec 8) :
    srcAddr (evKey (.shared c i)) 0 = 0x800000 + 0x40000 * c + (0x11000 + 0x10 * i.toNat) := by
  have hi := i.isLt
  have hc := c.isLt
  have h1 : (1024 * c.val + i.toNat) % 1024 = i.toNat := by omega
  have h2 : (1024 * c.val + i.toNat) / 1024 = c.val := by omega
  simp only [evKey, shKey, srcAddr, h1, h2, SRC]
  rw [if_neg (by omega), if_pos (by omega)]
  omega

theorem openReg_dma :
    (∀ ch : R4, openReg (0x800000 + (0x3000C + 0x100 * ch.toNat)) = true) ∧
    (∀ ch : R4, openReg (0x800000 + (0x30018 + 0x100 * ch.toNat)) = true) := by decide +kernel

theorem openReg_shared (i : BitVec 8) : openReg (0x800000 + (0x11000 + 0x10 * i.toNat)) = true := by
  revert i
  decide +kernel

end Sys2Proof.Machine
end

section
/-! OBLIGATION. The commands that stand for a register write, refused or unavailable to a principal (O59). -/

namespace Sys2Proof.Machine
open Sys2Proof

variable {s : State} {who : Prin} {off : Nat}

/-- A register of the row `cfg` with a writable field and no WDN field, in no switched domain. -/
def cfgReg (off : Nat) : Bool := openReg off && rowOf off == .cfg && (domainOf off).isNone && decide (off < 2 ^ 64)

theorem cfgReg_commands : (∀ c : ClId, cfgReg (CLINK_POOL c) = true) ∧ (∀ p : PortId, cfgReg (ZTF_CTL p) = true) ∧
    cfgReg CLINK_LOCKR = true ∧ cfgReg DLV_LOCKR = true ∧ cfgReg LEDGER_CTL = true := by
  decide +kernel

theorem State.guarded_logs_cfg (h : cfgReg off = true)
    (hw : (who = .host ∧ s.flag PRIN_CTL PRIN_CTL_HOST_CFG = false) ∨ (who = .lens ∧ (s.lcState == 2) = true))
    (act : State → State) : Logs s who 1 (s.refReason who) off (s.guarded who off act) := by
  simp only [cfgReg, Bool.and_eq_true, beq_iff_eq, Option.isNone_iff_eq_none, decide_eq_true_eq] at h
  obtain ⟨⟨⟨hopen, hrow⟩, hdom⟩, hoff⟩ := h
  exact State.guarded_logs_barred hopen (.inl hrow) (State.blockOn_of_domainOf_none hdom) hoff hw act

theorem State.guarded_logs_cost (hw : who = .host ∨ who = .lens) (act : State → State) :
    Logs s who 1 (s.refReason who) COST_CTL (s.guarded who COST_CTL act) :=
  State.guarded_logs (by decide +kernel) (by decide) (State.blockOn_of_domainOf_none (by decide)) (by decide) hw
    (State.denied_cost hw) act

/-- A register with a WDN field that is in no switched domain. -/
def wdnOnly (off : Nat) : Bool := wdnReg off && (domainOf off).isNone && decide (off < 2 ^ 64)

theorem wdnOnly_commands : wdnOnly PWR_CMD = true ∧ wdnOnly CLK_CTL = true ∧ wdnOnly RING_CFG = true := by
  decide +kernel

theorem wdnOnly_iff : wdnOnly off = true ↔ wdnReg off = true ∧ domainOf off = none ∧ off < 2 ^ 64 := by
  simp only [wdnOnly, Bool.and_eq_true, Option.isNone_iff_eq_none, decide_eq_true_eq, and_assoc]

theorem State.guarded_logs_wdnOnly (h : wdnOnly off = true) (hw : who = .host ∨ who = .lens) (act : State → State) :
    Logs s who 1 3 off (s.guarded who off act) := by
  obtain ⟨hwdn, hdom, hoff⟩ := wdnOnly_iff.1 h
  exact State.guarded_logs_wdn hwdn (State.blockOn_of_domainOf_none hdom) hoff hw act

/-! The registers of a cluster's DMA channels and event sources -/

theorem dmaReg_openReg (c : ClId) (ch : R4) :
    openReg (DMA_CTL c ch.toNat) = true ∧ openReg (DMA_QPTR c ch.toNat) = true := by
  have hch := ch.isLt
  rw [DMA_CTL_eq, DMA_QPTR_eq, openReg_cluster c.isLt (by omega) (by omega),
    openReg_cluster c.isLt (by omega) (by omega)]
  exact ⟨openReg_dma.1 ch, openReg_dma.2 ch⟩

theorem dmaReg_rowOf (c : ClId) (ch : R4) :
    rowOf (DMA_CTL c ch.toNat) = .dma ∧ rowOf (DMA_QPTR c ch.toNat) = .dma := by
  have hch := ch.isLt
  rw [DMA_CTL_eq, DMA_QPTR_eq, rowOf_cluster c.isLt (by omega), rowOf_cluster c.isLt (by omega)]
  exact ⟨if_pos (by omega), if_pos (by omega)⟩

theorem dmaReg_cluster (c : ClId) (ch : R4) :
    (DMA_CTL c ch.toNat - 0x800000) / 0x40000 = c ∧ (DMA_QPTR c ch.toNat - 0x800000) / 0x40000 = c := by
  have hch := ch.isLt
  rw [DMA_CTL_eq, DMA_QPTR_eq]
  omega

theorem srcReg_openReg (c : ClId) (i : BitVec 8) : openReg (srcAddr (evKey (.shared c i)) 0) = true := by
  have hi := i.isLt
  rw [srcAddr_shared, openReg_cluster c.isLt (by omega) (by omega)]
  exact openReg_shared i

theorem srcReg_rowOf (c : ClId) (i : BitVec 8) : rowOf (srcAddr (evKey (.shared c i)) 0) = .cluster := by
  have hi := i.isLt
  rw [srcAddr_shared, rowOf_cluster c.isLt (by omega)]
  exact if_neg (by omega)

/-- The registers of a cluster that O59 names answer together. -/
theorem State.blockOn_dma (s : State) (c : ClId) (ch : R4) (i : BitVec 8) :
    s.blockOn (DMA_QPTR c ch.toNat) = s.blockOn (DMA_CTL c ch.toNat) ∧
    s.blockOn (srcAddr (evKey (.shared c i)) 0) = s.blockOn (DMA_CTL c ch.toNat) ∧
    s.blockOn (ERRQ_POPR c 0) = s.blockOn (DMA_CTL c ch.toNat) := by
  have hch := ch.isLt
  have hi := i.isLt
  rw [DMA_CTL_eq, DMA_QPTR_eq, srcAddr_shared, ERRQ_POPR_eq]
  exact ⟨s.blockOn_cluster c.isLt (by omega) (by omega), s.blockOn_cluster c.isLt (by omega) (by omega),
    s.blockOn_cluster c.isLt (by omega) (by omega)⟩

/-! Cores that a refused command traps -/

/-- A core at User level, or of another cluster, may not write a cluster's DMA registers. -/
theorem State.denied_alien {g : CoreId} {c : Nat} (hc : (off - 0x800000) / 0x40000 = c)
    (h : (s.core g).pl = 0 ∨ g.val / 8 ≠ c) : s.denied (.core g) .dma off true = 1 := by
  simp only [State.denied]
  by_cases hpl : (s.core g).pl = 0
  · exact if_pos hpl
  · have hne : c ≠ g.val / 8 := fun k => (h.resolve_left hpl) k.symm
    simp [hpl, hc, hne]

theorem State.guarded_alien {g : CoreId} {c : Nat} (hf : openReg off = true) (hrow : rowOf off = .dma)
    (on : s.blockOn off = true) (hc : (off - 0x800000) / 0x40000 = c) (hrun : (s.core g).run = true)
    (h : (s.core g).pl = 0 ∨ g.val / 8 ≠ c) (act : State → State) :
    s.guarded (.core g) off act = s.except g 6 0 (some (coreAddrOf g off)) := by
  have hd : s.denied (.core g) (rowOf off) off true = 1 := hrow ▸ State.denied_alien hc h
  rw [State.guarded_denied hf (by simp [hrow]) on (by omega) act]
  exact State.accRefused_core hrun true _

theorem State.guarded_core_cfg {g : CoreId} (h : cfgReg off = true) (hrun : (s.core g).run = true)
    (act : State → State) : s.guarded (.core g) off act = s.except g 6 0 (some (coreAddrOf g off)) := by
  simp only [cfgReg, Bool.and_eq_true, beq_iff_eq, Option.isNone_iff_eq_none] at h
  obtain ⟨⟨⟨hopen, hrow⟩, hdom⟩, -⟩ := h
  have hd : s.denied (.core g) (rowOf off) off true ≠ 0 := by simp [hrow, State.denied]
  rw [State.guarded_denied hopen (by simp [hrow]) (State.blockOn_of_domainOf_none hdom) hd act]
  exact State.accRefused_core hrun true _

theorem State.guarded_core_wdnOnly {g : CoreId} (h : wdnOnly off = true) (hrun : (s.core g).run = true)
    (act : State → State) : s.guarded (.core g) off act = s.except g 6 0 (some (coreAddrOf g off)) := by
  obtain ⟨hwdn, hdom, -⟩ := wdnOnly_iff.1 h
  exact (State.guarded_wdn hwdn (State.blockOn_of_domainOf_none hdom) Prin.noConfusion act).trans
    (State.accRefused_core hrun true 3)

/-! Pops through SMBus, and blocks that are off -/

theorem State.popGuard_smbus (on : s.blockOn off = true) (hoff : off < 2 ^ 64) (act : State → Word × State) :
    Logs s .smbus 0 1 off (s.popGuard .smbus off act) := by
  simp only [State.popGuard, on, Bool.not_true, Bool.false_eq_true, if_false, if_true]
  exact s.accRefused_logs false hoff (by decide) (.inr (.inr rfl)) (by decide)

theorem State.popGuard_off (off_ : s.blockOn off = false) (act : State → Word × State) :
    s.popGuard who off act = s.accUnavail who := by
  simp [State.popGuard, off_]

theorem State.guarded_unavail (off_ : s.blockOn off = false) (act : State → State) :
    Unavail s who (s.guarded who off act) :=
  State.guarded_off off_ act ▸ s.accUnavail_unavail who

theorem State.memwinWrite_smbus (s : State) (v : Word) : Logs s .smbus 1 1 0x10 (s.memwinWrite .smbus v) :=
  s.accRefused_logs (reason := 1) true (by decide) (by decide) (.inr (.inr rfl)) (by decide)

/-- The registers of the interfaces' locks stand in the row `cfg` and have no WDN field. -/
theorem sideLocks (sd : Side) :
    (openReg (PRISM_LOCKR (sideN sd)) = true ∧ rowOf (PRISM_LOCKR (sideN sd)) = .cfg ∧ PRISM_LOCKR (sideN sd) < 2 ^ 64) ∧
    (openReg (RSQ_LOCKR (sideN sd)) = true ∧ rowOf (RSQ_LOCKR (sideN sd)) = .cfg ∧ RSQ_LOCKR (sideN sd) < 2 ^ 64) := by
  cases sd <;> decide +kernel

theorem clusterReg_lt (c : ClId) (ch : R4) (i : BitVec 8) :
    DMA_CTL c ch.toNat < 2 ^ 64 ∧ DMA_QPTR c ch.toNat < 2 ^ 64 ∧ srcAddr (evKey (.shared c i)) 0 < 2 ^ 64 ∧
    ERRQ_POPR c 0 < 2 ^ 64 := by
  have hc := c.isLt
  have hch := ch.isLt
  have hi := i.isLt
  rw [DMA_CTL_eq, DMA_QPTR_eq, srcAddr_shared, ERRQ_POPR_eq]
  omega

theorem srcCfgWrite_next {src : EvSrc} (h : evExists src = true) (v : Word) :
    exec (.srcCfgWrite who src v) s = .next (s.guarded who (srcAddr (evKey src) 0) (fun s => s.srcCfg src v)) :=
  if_pos h

/-- Settles O59, from what the access table answers at each command's register. -/
theorem refusedCommands : Obligations.RefusedCommands := by
  intro s who sd c p ch v i b g dep on off k f logs unavail barred wdn shut noDma alien trap src rsn
  obtain ⟨hpool, hztf, hclink, hdlv, hledger⟩ := cfgReg_commands
  obtain ⟨hpwr, hclk, hring⟩ := wdnOnly_commands
  obtain ⟨⟨hpo, hpr, hpa⟩, ⟨hro, hrr, hra⟩⟩ := sideLocks sd
  obtain ⟨hdo, hqo⟩ := dmaReg_openReg c ch
  obtain ⟨hdr, hqr⟩ := dmaReg_rowOf c ch
  obtain ⟨hda, hqa, hsa, hea⟩ := clusterReg_lt c ch i
  obtain ⟨hqon, hson, heon⟩ := s.blockOn_dma c ch i
  have outside : wdn → who = .host ∨ who = .lens := Or.imp_right And.left
  refine ⟨fun h => ⟨_, rfl, State.guarded_logs_cfg (hpool c) h _⟩,
    fun h => ⟨_, rfl, State.guarded_logs_cfg hclink h _⟩,
    fun h => ⟨_, rfl, State.guarded_logs_cfg hdlv h _⟩,
    fun h => ⟨_, rfl, State.guarded_logs_cfg hledger h _⟩,
    fun h => ⟨_, rfl, State.guarded_logs_cfg (hztf p) h _⟩,
    fun h => ⟨_, rfl, State.guarded_logs_cost (h.elim outside fun k => .inr k.1) _⟩,
    fun h => ⟨_, rfl, State.guarded_logs_cost (h.elim outside fun k => .inr k.1) _⟩,
    fun h hon => ⟨_, rfl, State.guarded_logs_barred hpo (.inl hpr) hon hpa h _⟩,
    fun h hon => ⟨_, rfl, State.guarded_logs_barred hro (.inl hrr) hon hra h _⟩,
    fun h hex hon => ⟨_, srcCfgWrite_next hex v,
      State.guarded_logs_barred (srcReg_openReg c i) (.inr (srcReg_rowOf c i)) hon hsa h _⟩,
    fun h hon => ⟨⟨_, rfl, State.guarded_logs_dma hdo hdr hon hda h _⟩,
      ⟨_, rfl, State.guarded_logs_dma hdo hdr hon hda h _⟩,
      ⟨_, rfl, State.guarded_logs_dma hqo hqr (hqon.trans hon) hqa h _⟩⟩,
    fun h => ⟨⟨_, rfl, State.guarded_logs_wdnOnly hpwr (outside h) _⟩,
      ⟨_, rfl, State.guarded_logs_wdnOnly hpwr (outside h) _⟩,
      ⟨_, rfl, State.guarded_logs_wdnOnly hclk (outside h) _⟩,
      ⟨_, rfl, State.guarded_logs_wdnOnly hclk (outside h) _⟩,
      ⟨_, rfl, State.guarded_logs_wdnOnly hring (outside h) _⟩⟩,
    ?smbus, ?alien,
    fun hrun => ⟨⟨_, rfl, State.guarded_core_cfg hclink hrun _⟩, ⟨_, rfl, State.guarded_core_wdnOnly hclk hrun _⟩,
      ⟨_, rfl, State.accRefused_core hrun true 1⟩⟩,
    fun hoff => ⟨_, rfl, State.guarded_unavail hoff _⟩,
    fun hoff => ⟨_, rfl, State.guarded_unavail hoff _⟩,
    fun hoff => ⟨⟨_, rfl, State.guarded_unavail hoff _⟩, ⟨_, rfl, State.guarded_unavail hoff _⟩,
      ⟨_, rfl, State.guarded_unavail (hqon.trans hoff) _⟩,
      fun hex => ⟨_, srcCfgWrite_next hex v, State.guarded_unavail (hson.trans hoff) _⟩,
      ⟨_, rfl, ?errqOff⟩⟩⟩
  case smbus =>
    intro h
    subst h
    exact ⟨⟨_, rfl, State.popGuard_smbus (State.blockOn_of_domainOf_none (by decide)) (by decide) _⟩,
      fun hon => ⟨_, rfl, State.popGuard_smbus hon hea _⟩,
      ⟨_, rfl, s.memwinWrite_smbus v⟩⟩
  case alien =>
    rintro ⟨hrun, h⟩ hon
    obtain ⟨hcc, hcq⟩ := dmaReg_cluster c ch
    exact ⟨⟨_, rfl, State.guarded_alien hdo hdr hon hcc hrun h _⟩,
      ⟨_, rfl, State.guarded_alien hdo hdr hon hcc hrun h _⟩,
      ⟨_, rfl, State.guarded_alien hqo hqr (hqon.trans hon) hcq hrun h _⟩⟩
  case errqOff =>
    rw [State.popGuard_off (heon.trans hoff)]
    exact s.accUnavail_unavail who

end Sys2Proof.Machine
end

section
/-! OBLIGATION. The mailbox's answers to GET_INFO, GET_RANDOM, GET_CHALLENGE, SA_STATUS and IDENT_GET (O35). -/

namespace Sys2Proof.Machine
open Sys2Proof

variable {s t u : State} {c : List Byte} {op n : Nat}

/-- The state as the Warden has taken its only command off its queue. -/
def State.taken (s : State) : State := { s with mbx := { s.mbx with wq := [] } }

/-- The STATUS and the payload of a reply that is answered at once. -/
def Reply.answer : Reply → Option (Nat × List Byte)
  | .ok p => some (0, p)
  | .bad n => some (n, [])
  | .hold _ => none
  | .silent => none

theorem State.finish_of_answer {r : Reply} {status : Nat} {payload : List Byte} (h : r.answer = some (status, payload))
    (gen : Nat) : s.finish gen c r = (s.store c (rspBytes c status payload)).respond gen (rspBytes c status payload) := by
  cases r <;> cases h <;> rfl

theorem State.mbxSkip_nil (h : s.mbx.wq = []) (k : Nat) : s.mbxSkip k = s := by
  cases k with
  | zero => rfl
  | succ k => simp only [State.mbxSkip, h]

theorem Mbx.seqCheck_next {m : Mbx} (h : cmdSeq c = match m.lastSeq with | some q => q + 1 | none => 0) :
    m.seqCheck c = none := by
  unfold Mbx.seqCheck
  cases hq : m.lastSeq with
  | none => exact if_pos (h.trans (by rw [hq]))
  | some q => exact if_pos (h.trans (by rw [hq]))

/-- A reply reaches the host that waits for it, and the response store (R399, R537). -/
theorem State.finish_answered {r : Reply} {status : Nat} {payload : List Byte} (hr : r.answer = some (status, payload))
    (hu : u.mbx = s.taken.mbx) (hbusy : s.mbx.busy = true) :
    MsixOnly { u with mbx := s.mbx.answered c status payload } (u.finish s.mbx.gen c r) := by
  rw [State.finish_of_answer hr]
  unfold State.respond
  rw [if_pos (by simp [State.store, hu, State.taken, hbusy])]
  have hm := State.msixSend_msixOnly
    { u with mbx := s.mbx.answered c status payload } 0
  simpa [State.store, hu, State.taken, Mbx.answered] using hm

/-- The command that waits alone, well formed and in its states, is run and answered. -/
theorem State.command_answered {states : List Nat} {recovery : Bool} {len : Nat → Bool}
    {run : State → List Byte → State × Reply} {r : Reply} {status : Nat} {payload : List Byte}
    (h : s.mails op n c = true) (hlen : len n = true) (hst : states.contains s.lcState = true)
    (hrun : run s.taken (c.drop 16) = (u, r)) (hu : u.mbx = s.taken.mbx) (hr : r.answer = some (status, payload)) :
    MsixOnly { u with mbx := s.mbx.answered c status payload } (s.command op states recovery len [] run) := by
  obtain ⟨hwq, hbusy, hheld, -, hrec, hlisten, hop, hl, hz, hz', hseq⟩ := of_decide_eq_true h
  have hans := State.finish_answered (c := c) hr hu hbusy
  have hnil : (u.finish s.mbx.gen c r).mbx.wq = [] := by
    obtain ⟨_, _, _, hf⟩ := hans
    rw [hf]
    rfl
  have hcmd : s.command op states recovery len [] run
      = (u.finish s.mbx.gen c r).mbxSkip (u.finish s.mbx.gen c r).mbx.wq.length := by
    have hnext : s.taken.mbx.seqCheck c = none := Mbx.seqCheck_next hseq
    have hstate : ¬ (!states.contains s.taken.lcState || (s.taken.recovering && !recovery)) = true := by
      have hrec' : s.taken.recovering = false := hrec
      have hst' : states.contains s.taken.lcState = true := hst
      rw [hst', hrec']
      nofun
    unfold State.command
    rw [hwq]
    refine (if_neg (by simp [hop, hlisten, hheld])).trans ?_
    refine congrArg (fun v : State => v.mbxSkip v.mbx.wq.length) ?_
    split
    · next rsp hsome => exact absurd (hnext.symm.trans hsome) nofun
    · refine (if_neg (by simp [hl, hlen])).trans ((if_neg hstate).trans ((if_neg (by simp [hz, hz'])).trans ?_))
      exact congrArg (fun x : State × Reply => x.1.finish s.mbx.gen c x.2) hrun
  rw [hcmd, State.mbxSkip_nil hnil]
  exact hans

section
variable {states : List Nat} {recovery : Bool} {len : Nat → Bool} {run : State → List Byte → State × Reply}

/-- A command that is answered OK without a change. -/
theorem State.command_ok {payload : List Byte} (h : s.mails op n c = true) (hlen : len n = true)
    (hst : states.contains s.lcState = true) (hrun : run s.taken (c.drop 16) = (s.taken, .ok payload)) :
    let t := s.command op states recovery len [] run
    t = { s.signals t with mbx := t.mbx } ∧ t.mbx = s.mbx.answered c 0 payload ∧ t.srcs = s.srcs := by
  obtain ⟨_, _, _, hc⟩ := State.command_answered (recovery := recovery) h hlen hst hrun rfl rfl
  rw [hc]
  exact ⟨rfl, rfl, rfl⟩

/-- A command that fails with a STATUS, and changes nothing. -/
theorem State.command_bad {status : Nat} (h : s.mails op n c = true) (hlen : len n = true)
    (hst : states.contains s.lcState = true) (hrun : run s.taken (c.drop 16) = (s.taken, .bad status)) :
    let t := s.command op states recovery len [] run
    t = { s.signals t with mbx := t.mbx } ∧ t.mbx = s.mbx.answered c status [] := by
  obtain ⟨_, _, _, hc⟩ := State.command_answered (recovery := recovery) h hlen hst hrun rfl rfl
  rw [hc]
  exact ⟨rfl, rfl⟩

/-- The state as `k` words of a random port have been drawn. -/
def State.drew (s : State) (k : Nat) : State :=
  { s with vault := { s.vault with requests := s.vault.requests + k }, free := s.free + k }

/-- The state with the nonce of the next signed command. -/
def State.challenged (s : State) (x : Option (BitVec 256)) : State := { s with vault := { s.vault with challenge := x } }

/-- A command that draws words and is answered OK. -/
theorem State.command_drew {k : Nat} {x : Option (BitVec 256)} {payload : List Byte} (h : s.mails op n c = true)
    (hlen : len n = true) (hst : states.contains s.lcState = true)
    (hrun : run s.taken (c.drop 16) = ((s.taken.drew k).challenged x, .ok payload)) :
    let t := s.command op states recovery len [] run
    (t = { s.signals t with mbx := t.mbx, vault := t.vault, free := s.free + k } ∧
      t.vault = { s.vault with requests := s.vault.requests + k, challenge := t.vault.challenge }) ∧
    t.vault.challenge = x ∧ t.mbx = s.mbx.answered c 0 payload ∧ t.srcs = s.srcs := by
  obtain ⟨_, _, _, hc⟩ := State.command_answered (recovery := recovery) h hlen hst hrun rfl rfl
  rw [hc]
  exact ⟨⟨rfl, rfl⟩, rfl, rfl, rfl⟩

end

/-- The bytes of the next `k` words of the public port. -/
def freeBytes (f k : Nat) : List Byte := (List.range k).flatMap fun i => toLE 8 (Config.freeDWord (f + i)).toNat

theorem freeBytes_succ (f k : Nat) : freeBytes f (k + 1) = toLE 8 (Config.freeDWord f).toNat ++ freeBytes (f + 1) k := by
  simp only [freeBytes, List.range_succ_eq_map, List.flatMap_cons, List.flatMap_map, Nat.add_zero, Nat.succ_eq_add_one,
    Nat.add_assoc, Nat.add_comm 1]

theorem State.drew_drew (s : State) (j k : Nat) : (s.drew j).drew k = s.drew (j + k) := by
  simp only [State.drew, Nat.add_assoc]

theorem State.trngWord_public (hok : s.trngOk = true) :
    s.trngWord false = (⟨Config.freeDWord s.free, ⟨false, false⟩⟩, s.drew 1) := if_pos hok

/-- The public port gives the next free words, and counts one request for each (R430). -/
theorem State.randomBytes_eq (k : Nat) (hok : s.trngOk = true) :
    s.randomBytes false k = (freeBytes s.free k, s.drew k) := by
  induction k generalizing s with
  | zero => rfl
  | succ k ih =>
    have hok' : (s.drew 1).trngOk = true := hok
    rw [State.randomBytes, State.trngWord_public hok]
    simp only
    rw [ih hok', State.drew_drew, Nat.add_comm 1 k, freeBytes_succ]
    rfl

theorem states_up (h : s.lcState = 1 ∨ s.lcState = 2) : [1, 2].contains s.lcState = true := by
  rcases h with h | h <;> rw [h] <;> rfl

theorem states_all (s : State) : [0, 1, 2, 3].contains s.lcState = true := by
  unfold State.lcState
  split <;> rfl

/-- Settles O35, each command by what it answers once the mailbox's checks have passed. -/
theorem mailboxReports : Obligations.MailboxReports := by
  intro s c p sa n up free told just drew w d
  refine ⟨fun h => ⟨_, rfl, State.command_ok h rfl (states_all s) rfl⟩,
    fun h hup h8 h4096 hn hok => ⟨_, rfl, State.command_drew h rfl (states_up hup) ?random⟩,
    fun h hup hn => ⟨_, rfl, State.command_bad h rfl (states_up hup) (if_pos hn)⟩,
    fun h hok => ⟨_, rfl, And.imp_right And.symm (State.command_drew h rfl (states_all s) ?challenge)⟩,
    fun h hok => ⟨_, rfl, State.command_bad h rfl (states_all s) (if_pos ?noEntropy)⟩,
    fun h hup hsa hbusy => ⟨_, rfl, State.command_ok h rfl (states_up hup) ?status⟩,
    fun h hup hsa hbusy => ⟨_, rfl, State.command_bad h rfl (states_up hup) ((if_neg ?range).trans (if_pos hbusy))⟩,
    fun h hup seed hseed prov hprov => ⟨_, rfl, State.command_ok h rfl (states_up hup) ?ident⟩,
    fun h hup hnone => ⟨_, rfl, State.command_bad h rfl (states_up hup) ?noIdent⟩⟩
  case random =>
    have hn' : ¬ (n < 8 ∨ 4096 < n ∨ n % 8 ≠ 0) := by omega
    refine (if_neg hn').trans ((if_neg (ne_true_of_eq_false (congrArg not hok))).trans ?_)
    exact congrArg (fun r : List Byte × State => (r.2, Reply.ok r.1)) (State.randomBytes_eq (s := s.taken) (n / 8) hok)
  case challenge =>
    refine (if_neg (ne_true_of_eq_false (congrArg not hok))).trans ?_
    exact congrArg (fun r : List Byte × State => (r.2.challenged (some (BitVec.ofNat 256 (leNat r.1))), Reply.ok r.1))
      (State.randomBytes_eq (s := s.taken) 4 hok)
  case noEntropy => exact congrArg not hok
  case status => exact (if_neg (Nat.not_le.2 hsa)).trans (if_neg (ne_true_of_eq_false hbusy))
  case range => exact Nat.not_le.2 hsa
  case ident =>
    have hi : s.taken.identSeed = some (toBE 32 seed.toNat) := congrArg _ hseed
    have hp : s.taken.provSeed = some (toBE 64 prov.toNat) := congrArg _ hprov
    simp only [State.dsaPk, hi, hp]
  case noIdent =>
    have hnot (x y : List Byte) (hi : s.identSeed = some x) (hp : s.provSeed = some y) : False := by
      rcases hnone with hn | hn
      · simp [State.identSeed, hn] at hi
      · simp [State.provSeed, hn] at hp
    split
    · next hi hp => exact (hnot _ _ hi hp).elim
    · rfl

end Sys2Proof.Machine
end
